-- ==== Sys2Proof/Word.lean ====
section
/-!
DEFINITION. The plain types every other file speaks of: bytes, the 32-bit words a record is stored in (R154),
the 16-byte blocks of the block transform (R95), keys of 16 or 32 bytes, and the numbers that name a slot (R1),
a station (R113) and a custodian line (R53).
-/
namespace Sys2Proof

/-- One byte, as it travels on a line (R197). -/
abbrev Byte := BitVec 8

/-- One stored word of a record (R154). -/
abbrev Word32 := BitVec 32

/-- A block of 16 bytes, the first byte most significant (R95). -/
abbrev Block := BitVec 128

/-- The payload of a frame: the bytes between LENGTH and CHECK (R198). -/
abbrev Payload := List Byte

/-- A slot number of the Key Table, 0 to 191 (R1). -/
abbrev SlotId := Fin 192

/-- A station number, 0 to 7 (R113). -/
abbrev StationId := Fin 8

/-- A custodian line: 0 is A, 1 is B, 2 is C (R53; the order is that of R204's line sets). -/
abbrev Line := Fin 3

/-- The two key lengths (R2). -/
inductive KeyLength where
  | bytes16
  | bytes32
  deriving DecidableEq, Repr

/-- A key of 16 or of 32 bytes. The two kinds are different keys even when the shorter is the start of the longer
(R95). `k32 k0 k1` is the key whose first 16 bytes are `k0` and whose last 16 are `k1` (R98). -/
inductive Key where
  | k16 (k0 : Block)
  | k32 (k0 k1 : Block)
  deriving DecidableEq, Repr

end Sys2Proof
end

