-- ==== Sys2Proof/Syntax.lean ====
section
/-!
DEFINITION. The commands and events that reach the controller, one constructor of `Instr` for each row of
spec/opcode_table.json, in the table's order.

A row that is a FRAME carries the frame's payload as the bytes the line delivered (R198): the length and the coding
of an operand are checked by the rule that owns the command (R53, R137, R180), so a payload of the wrong length or
with a code that names nothing is an operand like any other. An event of a pin or of the environment carries what
the controller samples in that event.
-/
namespace Sys2Proof

/-- The three inputs the Tamper Monitor watches (R166, R168). -/
inductive TamperInput where
  | enclosure
  | temperature
  | supply
  deriving DecidableEq, Repr

/-- A command or an event (spec/opcode_table.json). -/
inductive Instr where
  -- console commands: addressed frames received whole and well formed (R178, R180)
  | status (p : Payload)
  | readRecords (p : Payload)
  | findLabel (p : Payload)
  | findModel (p : Payload)
  | create (p : Payload)
  | cancelAssembly (p : Payload)
  | narrow (p : Payload)
  | suspend (p : Payload)
  | resume (p : Payload)
  | retire (p : Payload)
  | release (p : Payload)
  | verify (p : Payload)
  | openTicket (p : Payload)
  | readTickets (p : Payload)
  | dismissTicket (p : Payload)
  | bind (p : Payload)
  | unbind (p : Payload)
  | arm (p : Payload)
  | disarm (p : Payload)
  | abort (p : Payload)
  | clearHold (p : Payload)
  | readStations (p : Payload)
  | readEvents (p : Payload)
  | setAlertMask (p : Payload)
  | readSettings (p : Payload)
  | setSettings (p : Payload)
  | ackRestart (p : Payload)
  | restart (p : Payload)
  -- broadcast frames (R185)
  | disarmAll (p : Payload)
  | abortAll (p : Payload)
  /-- An addressed frame whose KIND `kind` names no console command, or a broadcast command (R180 check 1). -/
  | unknownCommand (kind : Byte) (p : Payload)
  /-- A console frame that failed the receive rules of R199. -/
  | consoleFrameError
  /-- A broadcast frame of the wrong kind or length (R185). -/
  | broadcastDiscard (kind : Byte) (p : Payload)
  /-- The last character of the console answer has left (R179). `straps` and `senses` are the levels of the address
  straps (R178) and of the presence senses (R133) at that moment, bit n for station n, 1 for PRESENT: they are read
  only when the answer was that of an accepted RESTART (R174). -/
  | consoleAnswerEnd (straps : BitVec 4) (senses : BitVec 8)
  /-- Power-on (R173), with the straps, the presence senses and the first temperature reading in degrees C. -/
  | powerOn (straps : BitVec 4) (senses : BitVec 8) (celsius : Int)
  | powerDown
  | supervisionLapse
  -- custodian requests: frames received whole and well formed on a custodian line (R53)
  | component (l : Line) (p : Payload)
  | lineStatus (l : Line) (p : Payload)
  | ticketQuery (l : Line) (p : Payload)
  | approve (l : Line) (p : Payload)
  | decline (l : Line) (p : Payload)
  | custodianFrameError (l : Line)
  /-- The expiry timer of the ticket bearing `number` runs out (R86). -/
  | ticketExpiry (number : Nat)
  -- the completion of the engine's job in service (R106)
  | componentCheckDone
  | keyCheckDone
  | packageJobDone
  | verifyJobDone
  | discardedJobDone
  -- events of a station
  | present (st : StationId)
  | absent (st : StationId)
  | identity (st : StationId) (p : Payload)
  | receipt (st : StationId) (p : Payload)
  | refuse (st : StationId) (p : Payload)
  | stationFrameError (st : StationId)
  | identityTimerExpiry (st : StationId)
  | receiptTimerExpiry (st : StationId)
  | endOfTransmission (st : StationId)
  /-- A storage error sets stored words of the record in `slot` (R156): each pair is a word's place in the record and
  the value it now holds. -/
  | storageError (slot : SlotId) (changes : List (Nat × Word32))
  | sweepTimerExpiry
  | startUpCheckCompletion
  | tamperCause (input : TamperInput)
  | tamperInputInactive (input : TamperInput)
  /-- A reading of the temperature sensor, in degrees C (R167). -/
  | temperatureReading (celsius : Int)
  | custodianAnswerEnd (l : Line)
  /-- The last character of the HELLO or CLOSE at the front of the station's transmitter has left (R136). -/
  | stationFrameSent (st : StationId)
  deriving DecidableEq, Repr

end Sys2Proof
end

