-- ==== Sys2Proof/Decode.lean ====
section
/-!
DEFINITION. The command that a word spells by the bits of spec/opcode_table.json. The table gives no row any bits (its
"fields" are empty in every row), so no word spells a command: commands are frames, events and pins (00_scope.md). The
way from characters to commands is Machine/Wire.lean.
-/
namespace Sys2Proof

/-- No row of the table has bits, so every word is refused. -/
def decodeTableWord (_nbits _w : Nat) : Option Instr := none

end Sys2Proof
end

