-- ==== Sys2Proof/Config.lean ====
section
/-!
DEFINITION. What an implementation fixes and the manual leaves open: the keyed block transform, and the constants
of the part.
-/
namespace Sys2Proof

/-- The keyed block transform E(K, X) of R95. Its internal construction "is not part of this manual": it is a
constant without a body, so no proof can see more of it than R95's contract, which the type carries: one fixed
function (deterministic, the same in every job and after every reset), and for each key a permutation of the
16-byte blocks. -/
opaque Config.blockTransform : Key → Equiv.Perm Block

/-- The greatest number any range may end with (R28). -/
def Config.lastNumber : Nat := 16777214

/-- A window holds at most this many entries (R29). -/
def Config.windowSize : Nat := 16

/-- The greatest allowance (R32). -/
def Config.maxAllowance : Nat := 65535

/-- The approval table holds at most this many tickets (R72). -/
def Config.maxTickets : Nat := 4

/-- The dialogue level that HELLO carries (R138). -/
def Config.dialogueLevel : Byte := 1

/-- How deep quarantines may nest (R161). A nested quarantine acts on a record in use that is not QUARANTINED, and
its first act makes it QUARANTINED, so the slots of a chain of nested quarantines are distinct and a chain has at
most 192 members. -/
def Config.quarantineDepth : Nat := 192

end Sys2Proof
end

