-- ==== Sys2Proof/Machine/State.lean ====
section
/-!
DEFINITION. The state of the controller as plain data, block by block (00_scope.md, "Block overview"), and the state
right after the power-on of a new controller. Times left on timers are in milliseconds.
-/
namespace Sys2Proof.Machine

/-! ## The Key Table (chapters 1 and 2) -/

/-- The states of a record in use (R2). EMPTY is the absence of an account copy (`Slot.account = none`). -/
inductive RecordState where
  | assembling
  | active
  | suspended
  | exhausted
  | retired
  | quarantined
  deriving DecidableEq, Repr

/-- The permission flags (R3). A set of them is a `BitVec 4` in the coding of R204. -/
inductive Permission where
  | issue
  | line
  | clear
  | wrap
  deriving DecidableEq, Repr

/-- The quorum of a record (R2). -/
inductive Quorum where
  | two
  | three
  deriving DecidableEq, Repr

/-- The value of a window entry (R30). -/
inductive Entry where
  | outstanding
  | confirmed
  | voided
  deriving DecidableEq, Repr

/-- The issuance part of a BASE record (R28). The window is in ascending order of number, its first entry standing for
`floor` (R30). -/
structure Issuance where
  issuer : BitVec 40
  tag : BitVec 32
  usage : Byte
  first : Nat
  last : Nat
  next : Nat
  floor : Nat
  window : List Entry
  allowance : Nat
  issued : Nat
  confirmed : Nat
  voided : Nat
  deriving DecidableEq, Repr

/-- The non-secret fields of the assembly part (R52), sets of lines in the coding of R204. The accumulator is secret
and stands in the record's words alone (R155). -/
structure Assembly where
  contributed : BitVec 3
  reserved : BitVec 3
  checks : List (Line × BitVec 24)
  deriving DecidableEq, Repr

/-- The class of a record with the fields that only this class carries (R2). -/
inductive ClassPart where
  | base (iss : Issuance)
  | transport (model : BitVec 16)
  deriving DecidableEq, Repr

/-- The account copy of a record in use: every field that is not secret (R2, R155). -/
structure Account where
  state : RecordState
  label : BitVec 64
  keyLength : KeyLength
  quorum : Quorum
  permissions : BitVec 4
  checkValue : Option (BitVec 24)
  assembly : Option Assembly
  part : ClassPart
  deriving DecidableEq, Repr

/-- A slot of the Key Table: the account copy (absent when the record is EMPTY), the stored words closed by the
integrity word (R154), and the volatile waiting list of a BASE record (R7). -/
structure Slot where
  account : Option Account
  words : List Word32
  waiting : List StationId
  deriving DecidableEq, Repr

/-- An EMPTY slot carries nothing (R4, R154). -/
def Slot.empty : Slot := { account := none, words := [], waiting := [] }

/-! ## The Approval Unit (chapter 4) -/

/-- The five dual-control actions (R72). -/
inductive Action where
  | grant
  | widen
  | forceRetire
  | releaseQuarantined
  | clearTamper
  deriving DecidableEq, Repr

/-- Why a ticket FAILED (R72). -/
inductive FailReason where
  | declined
  | badState
  deriving DecidableEq, Repr

/-- The state of a ticket (R72). An OPEN ticket carries the time left on its expiry timer, which runs while it is OPEN
and is stopped in every other state; only a FAILED ticket has a reason. -/
inductive TicketState where
  | stillOpen (left : Nat)
  | executed
  | failed (reason : FailReason)
  | expired
  deriving DecidableEq, Repr

/-- A ticket (R72). `amount` is the 2-byte field of R75: a number for GRANT, a set of flags for WIDEN, 0 otherwise. -/
structure Ticket where
  number : Nat
  action : Action
  slot : SlotId
  amount : BitVec 16
  approvals : BitVec 3
  state : TicketState
  deriving DecidableEq, Repr

/-- The Approval Unit: the table in order of opening, the numbers of the finished tickets in the order they left OPEN,
and the ticket counter (R72, R74). -/
structure ApprovalUnit where
  tickets : List Ticket
  finished : List Nat
  counter : Nat
  deriving DecidableEq, Repr

/-! ## The Transform Engine (chapter 5) -/

/-- A job with all it carries (the table of section 5.4). -/
inductive Job where
  | componentCheck (line : Line) (slot : SlotId) (component : Key) (check : BitVec 24)
  | keyCheck (line : Line) (slot : SlotId)
  /-- `transport = none` is the mark CLEAR. -/
  | package (station : StationId) (base : SlotId) (number : Nat) (ksi : BitVec 64) (serial : BitVec 64)
      (transport : Option SlotId)
  | verify (slot : SlotId)
  deriving DecidableEq, Repr

/-- What the engine copied from the Key Table at the start of service (R105). -/
inductive Copies where
  | nothing
  | accumulator (acc : Key)
  | packageKeys (base : Key) (tag : BitVec 32) (usage : Byte) (transport : Option (Key × BitVec 24))
  | stored (key : Key) (check : BitVec 24)
  deriving DecidableEq, Repr

/-- The job in service, held for its requester or marked discard (R101). -/
structure Service where
  job : Job
  copies : Copies
  discard : Bool
  deriving DecidableEq, Repr

/-- The Transform Engine: the queue, oldest first, the job in service, the last-served station (R101, R104). -/
structure Engine where
  queue : List Job
  service : Option Service
  lastServed : StationId
  deriving DecidableEq, Repr

/-! ## The station controllers (chapters 6 and 7) -/

/-- The ten states of a station (R114). -/
inductive StationState where
  | unbound
  | bound
  | waiting
  | identifying
  | stalled
  | preparing
  | sending
  | awaitingReceipt
  | departing
  | held
  deriving DecidableEq, Repr

/-- The station modes (section 6.2). -/
inductive Mode where
  | single
  | line
  deriving DecidableEq, Repr

/-- The hold conditions (R126). A set of them is a `BitVec 5` in the coding of R204. -/
inductive HoldCondition where
  | receiptMismatch
  | receiptTimeout
  | noTransport
  | noNumber
  | integrity
  deriving DecidableEq, Repr

/-- What a terminal said of itself in IDENTITY (R113). -/
structure TerminalId where
  serial : BitVec 64
  model : BitVec 16
  acceptsClear : Bool
  supports32 : Bool
  deriving DecidableEq, Repr

/-- A station's package (R113). `transport = none` is the mark CLEAR; `expected` is the expected check value. -/
structure Package where
  base : SlotId
  number : Nat
  ksi : BitVec 64
  transport : Option SlotId
  expected : Option (BitVec 24)
  deriving DecidableEq, Repr

/-- The station timer, with the time left (R113). -/
inductive StationTimer where
  | stopped
  | identity (left : Nat)
  | receipt (left : Nat)
  deriving DecidableEq, Repr

/-- The codes of CLOSE (R151). -/
inductive CloseCode where
  | accepted
  | voided
  | notServed
  | aborted
  deriving DecidableEq, Repr

/-- The package kinds (R108). -/
inductive PackageKind where
  | wrapped
  | clear
  deriving DecidableEq, Repr

/-- A frame in a station line's transmitter (R136, R202). The PACKAGE frame holds the wrapped or clear key until the
frame is sent or ended early (R113). -/
inductive StationFrame where
  | hello
  | package (ksi : BitVec 64) (key : Key) (transportCheck : BitVec 24) (kind : PackageKind)
  | close (code : CloseCode)
  deriving DecidableEq, Repr

/-- The receive state of a custodian or station line (R199): outside a frame, or inside one with the bytes taken since
SYNC and whether the line's own transmitter was sending during it (R53, R136). -/
inductive Receiver where
  | hunting
  | receiving (bytes : List Byte) (overlap : Bool)
  deriving DecidableEq, Repr

/-- A station context (R113) with its line's transmitter list, oldest first (R136), and its receiver (R137). -/
structure Station where
  state : StationState
  mode : Mode
  armed : Bool
  disarmAfter : Bool
  present : Bool
  base : Option SlotId
  identity : Option TerminalId
  package : Option Package
  holds : BitVec 5
  timer : StationTimer
  transmitter : List StationFrame
  receiver : Receiver
  deriving DecidableEq, Repr

/-- A station as a restart event leaves it, presence at the level of the sense (R133). -/
def Station.cleared (present : Bool) : Station :=
  { state := .unbound, mode := .single, armed := false, disarmAfter := false, present := present, base := none,
    identity := none, package := none, holds := 0, timer := .stopped, transmitter := [], receiver := .hunting }

/-! ## Answers, the custodian lines and the Console Link (chapters 3, 10 and 12) -/

/-- The answer codes of the console and custodian lines (R204). -/
inductive AnswerCode where
  | ok
  | clamped
  | taken
  | unknownCommand
  | badLength
  | badSlot
  | badStation
  | badValue
  | badState
  | notPermitted
  | labelInUse
  | modelInUse
  | notFound
  | busy
  | enginePending
  | tableFull
  | duplicate
  | notReady
  | tampered
  | duplicateLine
  | quorumMet
  | lineBusy
  | unknownTicket
  | expired
  | closed
  | mismatch
  | alreadyApproved
  deriving DecidableEq, Repr

/-- An answer on the console line (R182): its parts, whose bytes `ConsoleAnswer.frame` gives. -/
structure ConsoleAnswer where
  address : BitVec 4
  kind : Byte
  status : Byte
  code : AnswerCode
  data : List Byte
  deriving DecidableEq, Repr

/-- An answer on a custodian line (R202). -/
structure CustodianAnswer where
  kind : Byte
  code : AnswerCode
  data : List Byte
  deriving DecidableEq, Repr

/-- The outcomes a custodian line remembers (R54). -/
inductive LineOutcome where
  | none
  | pending
  | accepted
  | checkMismatch
  | cancelled
  | completed
  deriving DecidableEq, Repr

/-- A line's last outcome (R54). `check` is the key's check value, copied for COMPLETED. -/
structure LastOutcome where
  outcome : LineOutcome
  slot : SlotId
  check : Option (BitVec 24)
  deriving DecidableEq, Repr

/-- The last outcome after every reset (R54). -/
def LastOutcome.initial : LastOutcome := { outcome := .none, slot := 0, check := none }

/-- A Custodian Line Interface: its receiver, the answer it is sending, the last outcome (R53, R54). -/
structure CustodianLine where
  receiver : Receiver
  sending : Option CustodianAnswer
  last : LastOutcome
  deriving DecidableEq, Repr

/-- The console receiver (R179). CLOSED lasts exactly while the answer it carries is being sent. -/
inductive ConsoleReceiver where
  | hunting
  | receiving (bytes : List Byte)
  | closed (answer : ConsoleAnswer)
  deriving DecidableEq, Repr

/-- The supervision condition with its timer (R186). -/
inductive Supervision where
  | off
  | stopped
  | running (left : Nat)
  | lapsed
  deriving DecidableEq, Repr

/-- The last-verify outcomes (R111). -/
inductive VerifyOutcome where
  | none
  | matched
  | mismatch
  | abandoned
  deriving DecidableEq, Repr

/-- The six stored settings of the Console Link in their units (R194). -/
structure Settings where
  identityTimeout : Nat
  receiptTimeout : Nat
  approvalWindow : Nat
  supervisionPeriod : Nat
  sweepPeriod : Nat
  allowanceLow : Nat
  deriving DecidableEq, Repr

/-- The defaults of R194. -/
def Settings.default : Settings :=
  { identityTimeout := 2, receiptTimeout := 5, approvalWindow := 120, supervisionPeriod := 0, sweepPeriod := 200,
    allowanceLow := 100 }

/-- The Console Link (R178, R179, R186, R111, R194). -/
structure ConsoleLink where
  unitAddress : BitVec 4
  receiver : ConsoleReceiver
  supervision : Supervision
  lastVerify : VerifyOutcome
  lastVerifySlot : SlotId
  verifyPending : Bool
  settings : Settings
  deriving DecidableEq, Repr

/-! ## Integrity Checker, Event Unit, Tamper Monitor (chapters 8, 9 and 11) -/

/-- The Integrity Checker's sweep position and sweep timer (R158). -/
structure IntegrityChecker where
  sweepPosition : SlotId
  sweepTimer : Option Nat
  deriving DecidableEq, Repr

/-- The nineteen events, in the order of R190's table. A set of them is a `BitVec 19` in the coding of R204. -/
inductive Event where
  | assemblyComplete
  | componentRefused
  | ticketExecuted
  | ticketFailed
  | ticketExpired
  | stationHeld
  | terminalRefused
  | terminalUnsuited
  | identityTimeout
  | lineErrorConsole
  | lineErrorCustodian
  | lineErrorStation
  | recordQuarantined
  | allowanceLow
  | recordExhausted
  | windowStall
  | supervisionLapsed
  | temperatureWarning
  | verifyDone
  deriving DecidableEq, Repr

/-- The Event Unit (R190, R192, R177). -/
structure EventUnit where
  latched : BitVec 19
  mask : BitVec 19
  restartIndication : Bool
  deriving DecidableEq, Repr

/-- The temperature band (R167). -/
inductive Band where
  | normal
  | warning
  | limit
  deriving DecidableEq, Repr

/-- The Tamper Monitor: latch, cause in the coding of R204, band, and whether the enclosure and the supply input are
active (R166, R167, R168). The temperature input is active while the band is LIMIT. -/
structure TamperMonitor where
  latch : Bool
  cause : BitVec 3
  band : Band
  enclosureActive : Bool
  supplyActive : Bool
  deriving DecidableEq, Repr

/-- The device states (R165). STARTING carries how far the start-up check has come: the slots below `nextSlot` have
been read-checked (R163). -/
inductive DeviceState where
  | starting (nextSlot : Nat)
  | operational
  | tampered
  deriving DecidableEq, Repr

/-- The whole controller: the queue of commands and events that are waiting, whether main power is on, and the state
of each block. -/
structure State where
  pending : List Instr
  powered : Bool
  device : DeviceState
  console : ConsoleLink
  lines : Vector CustodianLine 3
  approval : ApprovalUnit
  table : Vector Slot 192
  checker : IntegrityChecker
  engine : Engine
  stations : Vector Station 8
  events : EventUnit
  tamper : TamperMonitor
  deriving DecidableEq, Repr

/-- Why the machine stops with a fault. No rule of the manual stops the controller, so there is no such reason. -/
inductive Fault where
  deriving DecidableEq, Repr

/-- Why a command is refused a meaning. -/
inductive Refusal where
  /-- Raised by `exec` alone, for a command that has no meaning in the model yet. Safe: the model stops where the
  hardware goes on. -/
  | notModelled (mnemonic : String)
  deriving DecidableEq, Repr

/-- The controller right after the power-on event of a new part (R175, R190, R192, R194): every record EMPTY, every
setting at its default, STARTING with the start-up check begun, and the restart indication set. The levels of the
pins, which no rule gives, are chosen: straps to GND, no terminal present, enclosure closed, supply and temperature
within limits (DESIGN CHOICE, log entry 2). -/
def State.reset : State :=
  { pending := []
    powered := true
    device := .starting 0
    console :=
      { unitAddress := 0, receiver := .hunting, supervision := .off, lastVerify := .none, lastVerifySlot := 0,
        verifyPending := false, settings := Settings.default }
    lines := Vector.replicate 3 { receiver := .hunting, sending := none, last := LastOutcome.initial }
    approval := { tickets := [], finished := [], counter := 0 }
    table := Vector.replicate 192 Slot.empty
    checker := { sweepPosition := 191, sweepTimer := none }
    engine := { queue := [], service := none, lastServed := 7 }
    stations := Vector.replicate 8 (Station.cleared false)
    events := { latched := 0, mask := 0, restartIndication := true }
    tamper := { latch := false, cause := 0, band := .normal, enclosureActive := false, supplyActive := false } }

end Sys2Proof.Machine
end

