-- ==== Sys2Proof/Machine/Coding.lean ====
section
/-!
DEFINITION. The byte order, the frame and the codings of chapter 12 (R198, R204), and the bytes of a frame.
-/
namespace Sys2Proof

namespace Machine

/-! ## Byte order: most significant byte first (00, conventions) -/

/-- The number that bytes spell, most significant byte first. -/
def natOfBytes (l : List Byte) : Nat := l.foldl (fun a b => a * 256 + b.toNat) 0

/-- The `k` bytes of a number modulo 256^k, most significant byte first. -/
def bytesOfNat : Nat → Nat → List Byte
  | 0, _ => []
  | k + 1, n => BitVec.ofNat 8 (n / 256 ^ k) :: bytesOfNat k n

/-- The bytes of a bit field of `8 * k` bits. -/
def bytesOfBits {w : Nat} (k : Nat) (x : BitVec w) : List Byte := bytesOfNat k x.toNat

/-- The field of `len` bytes that begins `off` bytes into a payload. -/
def field (p : Payload) (off len : Nat) : Nat := natOfBytes ((p.drop off).take len)

/-- One byte of a payload (0 past its end). -/
def byteAt (p : Payload) (i : Nat) : Byte := p.getD i 0

/-- A block from its 16 bytes, the first most significant (R95). -/
def blockOfBytes (l : List Byte) : Block := BitVec.ofNat 128 (natOfBytes l)

/-- A key from its 16 or 32 bytes. -/
def keyOfBytes (l : List Byte) : Option Key :=
  if l.length = 16 then some (.k16 (blockOfBytes l))
  else if l.length = 32 then some (.k32 (blockOfBytes (l.take 16)) (blockOfBytes (l.drop 16)))
  else none

end Machine

/-- The 16 or 32 bytes of a key. -/
def Key.bytes : Key → List Byte
  | .k16 k0 => Machine.bytesOfBits 16 k0
  | .k32 k0 k1 => Machine.bytesOfBits 16 k0 ++ Machine.bytesOfBits 16 k1

namespace Machine

/-! ## The frame (R198) -/

/-- A frame less SYNC, LENGTH and CHECK, which R198 computes. -/
structure Frame where
  address : Byte
  kind : Byte
  payload : Payload
  deriving DecidableEq, Repr

/-- SYNC (R198). -/
def syncByte : Byte := 0xA7

/-- The sum of R198, less CHECK: ADDRESS, KIND, LENGTH and every payload byte, modulo 256. -/
def Frame.partialSum (f : Frame) : Byte :=
  f.address + f.kind + BitVec.ofNat 8 f.payload.length + f.payload.sum

/-- CHECK (R198). -/
def Frame.check (f : Frame) : Byte := 0x5C - f.partialSum

/-- The bytes of a frame, SYNC first (R198). -/
def Frame.bytes (f : Frame) : List Byte :=
  [syncByte, f.address, f.kind, BitVec.ofNat 8 f.payload.length] ++ f.payload ++ [f.check]

/-! ## Kinds (R202) -/

def Kind.status : Byte := 0x01
def Kind.restart : Byte := 0x02
def Kind.ackRestart : Byte := 0x03
def Kind.readEvents : Byte := 0x04
def Kind.setAlertMask : Byte := 0x05
def Kind.readSettings : Byte := 0x06
def Kind.setSettings : Byte := 0x07
def Kind.readRecords : Byte := 0x10
def Kind.findLabel : Byte := 0x11
def Kind.findModel : Byte := 0x12
def Kind.create : Byte := 0x13
def Kind.cancelAssembly : Byte := 0x14
def Kind.narrow : Byte := 0x15
def Kind.suspend : Byte := 0x16
def Kind.resume : Byte := 0x17
def Kind.retire : Byte := 0x18
def Kind.release : Byte := 0x19
def Kind.verify : Byte := 0x1A
def Kind.openTicket : Byte := 0x20
def Kind.readTickets : Byte := 0x21
def Kind.dismissTicket : Byte := 0x22
def Kind.bind : Byte := 0x30
def Kind.unbind : Byte := 0x31
def Kind.arm : Byte := 0x32
def Kind.disarm : Byte := 0x33
def Kind.abort : Byte := 0x34
def Kind.clearHold : Byte := 0x35
def Kind.readStations : Byte := 0x36
def Kind.disarmAll : Byte := 0x3E
def Kind.abortAll : Byte := 0x3F
def Kind.component : Byte := 0x40
def Kind.lineStatus : Byte := 0x41
def Kind.ticketQuery : Byte := 0x42
def Kind.approve : Byte := 0x43
def Kind.decline : Byte := 0x44
def Kind.hello : Byte := 0x50
def Kind.package : Byte := 0x51
def Kind.close : Byte := 0x52
def Kind.identity : Byte := 0x58
def Kind.receipt : Byte := 0x59
def Kind.refuse : Byte := 0x5A

/-- The kinds of the console commands that a single unit takes (R202; DISARM_ALL and ABORT_ALL are broadcast only). -/
def consoleKinds : List Byte :=
  [Kind.status, Kind.restart, Kind.ackRestart, Kind.readEvents, Kind.setAlertMask, Kind.readSettings, Kind.setSettings,
   Kind.readRecords, Kind.findLabel, Kind.findModel, Kind.create, Kind.cancelAssembly, Kind.narrow, Kind.suspend,
   Kind.resume, Kind.retire, Kind.release, Kind.verify, Kind.openTicket, Kind.readTickets, Kind.dismissTicket, Kind.bind,
   Kind.unbind, Kind.arm, Kind.disarm, Kind.abort, Kind.clearHold, Kind.readStations]

/-- KINDs 0x80 to 0xFF are answer kinds (R202). -/
def isAnswerKind (k : Byte) : Bool := 0x80 ≤ k.toNat

/-- An answer's KIND is the command's plus 0x80 (R202). -/
def answerKind (k : Byte) : Byte := k + 0x80

/-! ## Codes (R204) -/

def AnswerCode.byte : AnswerCode → Byte
  | .ok => 0x00
  | .clamped => 0x01
  | .taken => 0x02
  | .unknownCommand => 0x10
  | .badLength => 0x11
  | .badSlot => 0x12
  | .badStation => 0x13
  | .badValue => 0x14
  | .badState => 0x15
  | .notPermitted => 0x16
  | .labelInUse => 0x17
  | .modelInUse => 0x18
  | .notFound => 0x19
  | .busy => 0x1A
  | .enginePending => 0x1B
  | .tableFull => 0x1C
  | .duplicate => 0x1D
  | .notReady => 0x1E
  | .tampered => 0x1F
  | .duplicateLine => 0x20
  | .quorumMet => 0x21
  | .lineBusy => 0x22
  | .unknownTicket => 0x23
  | .expired => 0x24
  | .closed => 0x25
  | .mismatch => 0x26
  | .alreadyApproved => 0x27

/-- EMPTY codes as 0 (R204). -/
def RecordState.emptyCode : Byte := 0

def RecordState.code : RecordState → Byte
  | .assembling => 1
  | .active => 2
  | .suspended => 3
  | .exhausted => 4
  | .retired => 5
  | .quarantined => 6

def ClassPart.code : ClassPart → Byte
  | .base _ => 1
  | .transport _ => 2

/-- A permission flag as a set of one (R204: bit 0 ISSUE, 1 LINE, 2 CLEAR, 3 WRAP). -/
def Permission.bit : Permission → BitVec 4
  | .issue => 1
  | .line => 2
  | .clear => 4
  | .wrap => 8

/-- A line as a set of one (R204: bit 0 A, 1 B, 2 C). -/
def lineBit (l : Line) : BitVec 3 := BitVec.twoPow 3 l.val

/-- A line set coded in a byte. -/
def lineSetByte (s : BitVec 3) : Byte := s.setWidth 8

/-- How many lines a set holds. -/
def lineCount (s : BitVec 3) : Nat := (s.getLsbD 0).toNat + (s.getLsbD 1).toNat + (s.getLsbD 2).toNat

/-- A window map entry (R204: none 0). -/
def entryCode : Option Entry → Nat
  | none => 0
  | some .outstanding => 1
  | some .confirmed => 2
  | some .voided => 3

def StationState.code : StationState → Byte
  | .unbound => 0
  | .bound => 1
  | .waiting => 2
  | .identifying => 3
  | .stalled => 4
  | .preparing => 5
  | .sending => 6
  | .awaitingReceipt => 7
  | .departing => 8
  | .held => 9

def Mode.ofCode (b : Byte) : Option Mode :=
  if b = 0 then some .single else if b = 1 then some .line else none

/-- A hold condition as a set of one (R204). -/
def HoldCondition.bit : HoldCondition → BitVec 5
  | .receiptMismatch => 1
  | .receiptTimeout => 2
  | .noTransport => 4
  | .noNumber => 8
  | .integrity => 16

def Action.code : Action → Byte
  | .grant => 1
  | .widen => 2
  | .forceRetire => 3
  | .releaseQuarantined => 4
  | .clearTamper => 5

def Action.ofCode (b : Byte) : Option Action :=
  if b = 1 then some .grant
  else if b = 2 then some .widen
  else if b = 3 then some .forceRetire
  else if b = 4 then some .releaseQuarantined
  else if b = 5 then some .clearTamper
  else none

def TicketState.code : TicketState → Byte
  | .stillOpen _ => 0
  | .executed => 1
  | .failed _ => 2
  | .expired => 3

/-- The reason byte of a ticket (R204: none 0). -/
def TicketState.reasonCode : TicketState → Byte
  | .failed .declined => 1
  | .failed .badState => 2
  | _ => 0

def LineOutcome.code : LineOutcome → Byte
  | .none => 0
  | .pending => 1
  | .accepted => 2
  | .checkMismatch => 3
  | .cancelled => 4
  | .completed => 5

def VerifyOutcome.code : VerifyOutcome → Byte
  | .none => 0
  | .matched => 1
  | .mismatch => 2
  | .abandoned => 3

def Supervision.code : Supervision → Byte
  | .off => 0
  | .stopped => 1
  | .running _ => 2
  | .lapsed => 3

def Band.code : Band → Byte
  | .normal => 0
  | .warning => 1
  | .limit => 2

end Machine

/-- A tamper input as a set of one (R204). -/
def TamperInput.bit : TamperInput → BitVec 3
  | .enclosure => 1
  | .temperature => 2
  | .supply => 4

namespace Machine
def CloseCode.byte : CloseCode → Byte
  | .accepted => 1
  | .voided => 2
  | .notServed => 3
  | .aborted => 4

def PackageKind.byte : PackageKind → Byte
  | .wrapped => 1
  | .clear => 2

end Machine

def KeyLength.toNat : KeyLength → Nat
  | .bytes16 => 16
  | .bytes32 => 32

namespace Machine
def Quorum.toNat : Quorum → Nat
  | .two => 2
  | .three => 3

/-- An event's row in the table of R190, from 0. -/
def Event.index : Event → Nat
  | .assemblyComplete => 0
  | .componentRefused => 1
  | .ticketExecuted => 2
  | .ticketFailed => 3
  | .ticketExpired => 4
  | .stationHeld => 5
  | .terminalRefused => 6
  | .terminalUnsuited => 7
  | .identityTimeout => 8
  | .lineErrorConsole => 9
  | .lineErrorCustodian => 10
  | .lineErrorStation => 11
  | .recordQuarantined => 12
  | .allowanceLow => 13
  | .recordExhausted => 14
  | .windowStall => 15
  | .supervisionLapsed => 16
  | .temperatureWarning => 17
  | .verifyDone => 18

/-- An event as a set of one (R204). -/
def Event.bit (e : Event) : BitVec 19 := BitVec.twoPow 19 e.index

/-- The device state in two bits (R204). -/
def DeviceState.code : DeviceState → Nat
  | .starting _ => 0
  | .operational => 1
  | .tampered => 2

/-- A time left in whole seconds, rounded up (R80, R184). -/
def secondsUp (ms : Nat) : Nat := (ms + 999) / 1000

/-! ## The frames the controller sends on station lines (R202) -/

/-- The payload of a station frame. `st` is the station number HELLO carries (R138). -/
def StationFrame.payload (st : StationId) : StationFrame → Payload
  | .hello => [BitVec.ofNat 8 st.val, Config.dialogueLevel]
  | .package ksi key tcv kind =>
    bytesOfBits 8 ksi ++ [BitVec.ofNat 8 key.bytes.length] ++ key.bytes ++ bytesOfBits 3 tcv ++ [kind.byte]
  | .close code => [code.byte]

def StationFrame.kind : StationFrame → Byte
  | .hello => Kind.hello
  | .package .. => Kind.package
  | .close _ => Kind.close

/-- A station frame as it goes out, ADDRESS 0 (R198). -/
def StationFrame.frame (st : StationId) (f : StationFrame) : Frame :=
  { address := 0, kind := f.kind, payload := f.payload st }

/-- A console answer as it goes out: unit address, answer kind, then status summary, code and data (R182). -/
def ConsoleAnswer.frame (a : ConsoleAnswer) : Frame :=
  { address := a.address.setWidth 8, kind := a.kind, payload := a.status :: a.code.byte :: a.data }

/-- A custodian answer as it goes out: ADDRESS 0, then code and data, no status summary (R202). -/
def CustodianAnswer.frame (a : CustodianAnswer) : Frame :=
  { address := 0, kind := a.kind, payload := a.code.byte :: a.data }

end Machine

end Sys2Proof
end

