-- ==== Sys2Proof/Machine/Transform.lean ====
section
/-!
DEFINITION. The computations of the Transform Engine over the block transform E: check values, derivation and wrapping
(sections 5.1 to 5.3).
-/
namespace Sys2Proof

namespace Machine

/-- The check value of a key: the first 3 bytes of E(K, sixteen zero bytes) (R96). -/
def checkValue (k : Key) : BitVec 24 := (Config.blockTransform k 0).extractLsb' 104 24

end Machine

/-- The length of a key. -/
def Key.length : Key → KeyLength
  | .k16 _ => .bytes16
  | .k32 _ _ => .bytes32

/-- A key of zero bytes (R16). -/
def Key.zero : KeyLength → Key
  | .bytes16 => .k16 0
  | .bytes32 => .k32 0 0

/-- Byte-wise XOR of two keys of one length (R60). Components have the record's key length (R55 check 5). -/
def Key.xor : Key → Key → Key
  | .k16 a, .k16 b => .k16 (a ^^^ b)
  | .k32 a0 a1, .k32 b0 b1 => .k32 (a0 ^^^ b0) (a1 ^^^ b1)
  | a, _ => a

namespace Machine
/-- Byte `i` of an 8-byte string, byte 0 first (R97). -/
def byteOf64 (x : BitVec 64) (i : Nat) : Byte := x.extractLsb' (56 - 8 * i) 8

/-- The key serial identifier: the issuer prefix, then n in 3 bytes (R37). -/
def ksiOf (issuer : BitVec 40) (n : Nat) : BitVec 64 := issuer ++ BitVec.ofNat 24 n

/-- The tweak W: tag, number in 3 bytes, usage byte (R97). -/
def tweakOf (tag : BitVec 32) (n : Nat) (usage : Byte) : BitVec 64 := tag ++ BitVec.ofNat 24 n ++ usage

/-- The derivation block D: the bytes of S and W in turn (R97). -/
def derivationBlock (s w : BitVec 64) : Block :=
  byteOf64 s 0 ++ byteOf64 w 0 ++ byteOf64 s 1 ++ byteOf64 w 1 ++ byteOf64 s 2 ++ byteOf64 w 2 ++ byteOf64 s 3 ++
    byteOf64 w 3 ++ byteOf64 s 4 ++ byteOf64 w 4 ++ byteOf64 s 5 ++ byteOf64 w 5 ++ byteOf64 s 6 ++ byteOf64 w 6 ++
    byteOf64 s 7 ++ byteOf64 w 7

/-- The variant block D*: the final byte XORed with 0xFF (R97). -/
def variantBlock (d : Block) : Block := d ^^^ 0xFF

/-- The derived key (R98): as long as the base key. -/
def derivedKey (base : Key) (tag : BitVec 32) (usage : Byte) (n : Nat) (serial : BitVec 64) : Key :=
  let d := derivationBlock serial (tweakOf tag n usage)
  match base with
  | .k16 _ => .k16 (Config.blockTransform base d)
  | .k32 _ _ => .k32 (Config.blockTransform base d) (Config.blockTransform base (variantBlock d))

/-- The block M that binds KSI and serial into a wrapped key (R99). -/
def bindingBlock (ksi serial : BitVec 64) : Block := ksi ++ serial

/-- The wrapped key under the transport key `t` (R99). -/
def wrapKey (t : Key) (ksi serial : BitVec 64) : Key → Key
  | .k16 k0 => .k16 (Config.blockTransform t (k0 ^^^ bindingBlock ksi serial))
  | .k32 k0 k1 =>
    let b0 := Config.blockTransform t (k0 ^^^ bindingBlock ksi serial)
    .k32 b0 (Config.blockTransform t (k1 ^^^ b0))

end Machine

/-- Blocks of 16 bytes in a key. -/
def KeyLength.blocks : KeyLength → Nat
  | .bytes16 => 1
  | .bytes32 => 2

namespace Machine
/-- The block operations of a PACKAGE job: derivation, check value, wrapping (R100). -/
def packageOperations (derived : KeyLength) (kind : PackageKind) : Nat :=
  derived.blocks + 1 + (match kind with | .wrapped => derived.blocks | .clear => 0)

/-- The block operations of a job in service, from what it read (R100). -/
def Service.blockOperations (v : Service) : Nat :=
  match v.copies with
  | .packageKeys base _ _ (some _) => packageOperations base.length .wrapped
  | .packageKeys base _ _ none => packageOperations base.length .clear
  | _ => 1

/-- A job's time in service in microseconds: 0.05 ms for each block operation (R95). -/
def Service.microseconds (v : Service) : Nat := 50 * v.blockOperations

/-! ## Keys as stored words (R154) -/

/-- The four stored words of a block, first bytes first. -/
def blockWords (b : Block) : List Word32 :=
  [b.extractLsb' 96 32, b.extractLsb' 64 32, b.extractLsb' 32 32, b.extractLsb' 0 32]

end Machine

/-- The stored words of a key. -/
def Key.words : Key → List Word32
  | .k16 k0 => Machine.blockWords k0
  | .k32 k0 k1 => Machine.blockWords k0 ++ Machine.blockWords k1

/-- The key that stands in the first words of a record. -/
def Key.ofWords : KeyLength → List Word32 → Option Key
  | .bytes16, a :: b :: c :: d :: _ => some (.k16 (a ++ b ++ c ++ d))
  | .bytes32, a :: b :: c :: d :: e :: f :: g :: h :: _ => some (.k32 (a ++ b ++ c ++ d) (e ++ f ++ g ++ h))
  | _, _ => none

end Sys2Proof
end

