-- ==== Sys2Proof/Machine/KeyTable.lean ====
section
/-!
DEFINITION. One record of the Key Table: its stored words and integrity word (section 8.1), permissions, the issuance
arithmetic of a BASE record (chapter 2), its summary (R25), and what each change of state does to a slot.
-/
namespace Sys2Proof.Machine

/-! ## Permissions (R3) -/

/-- The flag is in the set. -/
def Permission.isIn (p : Permission) (s : BitVec 4) : Bool := s &&& p.bit == p.bit

/-- The valid flags of a class (R3). -/
def ClassPart.validFlags : ClassPart → BitVec 4
  | .base _ => 0b0111
  | .transport _ => 0b1000

/-- The record has the permission. -/
def Account.has (a : Account) (p : Permission) : Bool := p.isIn a.permissions

def ClassPart.isBase : ClassPart → Bool
  | .base _ => true
  | .transport _ => false

/-- The issuance part of a BASE record. -/
def Account.issuance (a : Account) : Option Issuance :=
  match a.part with
  | .base iss => some iss
  | .transport _ => none

/-- The record is a TRANSPORT record of this model class. -/
def Account.isTransportOf (a : Account) (model : BitVec 16) : Bool :=
  match a.part with
  | .base _ => false
  | .transport m => m == model

/-- Numbers of the record may be settled or returned: ACTIVE, SUSPENDED or EXHAUSTED (R38, R41). The same states hold
key material (R4) and admit NARROW, RETIRE and VERIFY. -/
def RecordState.isLive : RecordState → Bool
  | .active => true
  | .suspended => true
  | .exhausted => true
  | _ => false

/-- The record's words carry a secret: key material (R4), or in ASSEMBLING the accumulator (R52). -/
def RecordState.hasSecret : RecordState → Bool
  | .assembling => true
  | st => st.isLive

/-- A TRANSPORT record holds its model class in these states (R10). -/
def RecordState.holdsModel : RecordState → Bool
  | .assembling => true
  | .active => true
  | .suspended => true
  | _ => false

/-! ## Stored words and the integrity word (R154) -/

/-- The low 32 bits of a number as a stored word. -/
def wordOf (n : Nat) : Word32 := BitVec.ofNat 32 n

def Entry.word (e : Entry) : Nat := entryCode (some e)

/-- The words of the issuance part. Their order is the model's (DESIGN CHOICE, log entry 6). -/
def Issuance.words (s : Issuance) : List Word32 :=
  [wordOf (s.issuer.toNat / 4294967296), wordOf s.issuer.toNat, s.tag, wordOf s.usage.toNat, wordOf s.first, wordOf s.last,
   wordOf s.next, wordOf s.floor, wordOf s.window.length, wordOf (s.window.foldl (fun a e => a * 4 + e.word) 0),
   wordOf s.allowance, wordOf s.issued, wordOf s.confirmed, wordOf s.voided]

/-- The words of the class part (log entry 6). -/
def ClassPart.words : ClassPart → List Word32
  | .base iss => iss.words
  | .transport m => [wordOf m.toNat]

/-- The words of the assembly part, less the accumulator (log entry 6). -/
def Assembly.words (m : Assembly) : List Word32 :=
  [wordOf m.contributed.toNat, wordOf m.reserved.toNat] ++
    m.checks.map (fun c => wordOf (c.1.val * 16777216 + c.2.toNat))

/-- The words of the fields that are not secret (R154; log entry 6). R2 lists the slot among the fields, and it has no word
here: a record's slot is its place in the table, which no request changes (DESIGN CHOICE, log entry 6). -/
def Account.fieldWords (a : Account) : List Word32 :=
  [wordOf a.state.code.toNat, wordOf a.part.code.toNat, wordOf (a.label.toNat / 4294967296), wordOf a.label.toNat,
   wordOf a.keyLength.toNat, wordOf a.quorum.toNat, wordOf a.permissions.toNat,
   (match a.checkValue with | none => 0 | some v => wordOf (16777216 + v.toNat))] ++
    (match a.assembly with | none => [] | some m => m.words) ++ a.part.words

/-- The sum of stored words modulo 2^32 (R154). -/
def wordSum (l : List Word32) : Word32 := l.sum

/-- A sequence closed by its integrity word (R154): 4,294,967,295 minus the sum of the others. -/
def closeWords (l : List Word32) : List Word32 := l ++ [0xFFFFFFFF - wordSum l]

/-- The words of a record less the integrity word: the secret first, if it has one, then the other fields (R154; the order
is log entry 6). -/
def recordBody (a : Account) (secret : Option Key) : List Word32 :=
  (match secret with | none => [] | some k => k.words) ++ a.fieldWords

/-- The stored words of a record, closed by the integrity word (R154). -/
def recordWords (a : Account) (secret : Option Key) : List Word32 := closeWords (recordBody a secret)

/-- The record agrees: its words sum to 4,294,967,295 (R154). An EMPTY slot has no words to sum and is not checked
(R6). -/
def Slot.agrees (sl : Slot) : Bool := sl.account.isNone || wordSum sl.words == 0xFFFFFFFF

/-- The secret of a record, read from its words (R155): key material or accumulator. -/
def Slot.secret (sl : Slot) : Option Key :=
  match sl.account with
  | none => none
  | some a => if a.state.hasSecret then Key.ofWords a.keyLength sl.words else none

/-- Key material, which only ACTIVE, SUSPENDED and EXHAUSTED records hold (R4). -/
def Slot.keyMaterial (sl : Slot) : Option Key :=
  match sl.account with
  | none => none
  | some a => if a.state.isLive then sl.secret else none

/-- Writing a record: account copy, words and integrity word in one event (R154, R155). -/
def Slot.write (sl : Slot) (a : Account) (secret : Option Key) : Slot :=
  { sl with account := some a, words := recordWords a secret }

/-- A change of non-secret fields: the words are rewritten from the new account copy and the secret (R155). -/
def Slot.update (sl : Slot) (f : Account → Account) : Slot :=
  match sl.account with
  | none => sl
  | some a => sl.write (f a) sl.secret

/-- A change of non-secret fields that no read of the record precedes: the words are rewritten as by `Slot.write`, and the
integrity word moves by as much as the others moved, so that the sum stays as it was. A record that agreed agrees with the
words of `recordWords`; one that disagreed still disagrees (log entry 32). -/
def Slot.rewriteKeepingSum (sl : Slot) (a : Account) : Slot :=
  { sl with
    account := some a
    words := recordBody a sl.secret ++ [wordSum sl.words - wordSum (recordBody a sl.secret)] }

/-- The account copy's record state, if the record is in use. -/
def Slot.recordState (sl : Slot) : Option RecordState := sl.account.map (·.state)

/-- The state byte of a slot (R204). -/
def Slot.stateByte (sl : Slot) : Byte :=
  match sl.account with
  | none => RecordState.emptyCode
  | some a => a.state.code

/-! ## Issuance arithmetic (chapter 2) -/

/-- The window length (R29). -/
def Issuance.windowLength (s : Issuance) : Nat := s.next - s.floor

/-- The entry for number n (R30). -/
def Issuance.entry? (s : Issuance) (n : Nat) : Option Entry :=
  if s.floor ≤ n then s.window[n - s.floor]? else none

/-- How many entries are OUTSTANDING (R31). -/
def Issuance.outstanding (s : Issuance) : Nat := s.window.count .outstanding

/-- The outcomes of the tests of R33. -/
inductive TakeVerdict where
  | noNumber
  | stall
  | number
  deriving DecidableEq, Repr

/-- The tests of R33, in order. -/
def Account.takeVerdict (a : Account) (s : Issuance) : TakeVerdict :=
  if a.state ≠ .active then .noNumber
  else if ¬ a.has .issue then .noNumber
  else if s.next > s.last then .noNumber
  else if s.allowance = 0 then .noNumber
  else if s.windowLength = Config.windowSize then .stall
  else .number

/-- A successful take (R34). -/
def Issuance.takeNext (s : Issuance) : Issuance :=
  { s with next := s.next + 1, allowance := s.allowance - 1, issued := s.issued + 1, window := s.window ++ [.outstanding] }

/-- The two kinds of settlement (R38). -/
inductive Settlement where
  | confirm
  | void
  deriving DecidableEq, Repr

def Settlement.entry : Settlement → Entry
  | .confirm => .confirmed
  | .void => .voided

/-- How many settled entries stand at the front of a window (R39). -/
def settledFront : List Entry → Nat
  | [] => 0
  | .outstanding :: _ => 0
  | .confirmed :: r => settledFront r + 1
  | .voided :: r => settledFront r + 1

/-- Floor advancement (R39). -/
def Issuance.advance (s : Issuance) : Issuance :=
  { s with floor := s.floor + settledFront s.window, window := s.window.drop (settledFront s.window) }

/-- A settlement of an OUTSTANDING entry, with floor advancement (R38, R39). -/
def Issuance.settle (s : Issuance) (k : Settlement) (n : Nat) : Issuance :=
  Issuance.advance
    { s with
      window := s.window.set (n - s.floor) k.entry
      confirmed := (match k with | .confirm => s.confirmed + 1 | .void => s.confirmed)
      voided := (match k with | .confirm => s.voided | .void => s.voided + 1) }

/-- The conditions of R41 on the window: n is next - 1 and its entry, the back one, is OUTSTANDING. -/
def Issuance.returnable (s : Issuance) (n : Nat) : Bool :=
  n + 1 == s.next && s.window.getLast? == some Entry.outstanding

/-- Allowance raised with saturation (R32). -/
def raiseAllowance (allowance amount : Nat) : Nat := min (allowance + amount) Config.maxAllowance

/-- A return (R42). -/
def Issuance.giveBack (s : Issuance) (n : Nat) : Issuance :=
  { s with next := n, issued := s.issued - 1, allowance := raiseAllowance s.allowance 1, window := s.window.dropLast }

/-- The bulk void of R49 and R51: every OUTSTANDING entry VOIDED, floor at next, the window empty. -/
def Issuance.voidAll (s : Issuance) : Issuance :=
  { s with voided := s.voided + s.outstanding, floor := s.next, window := [] }

/-- A change of the issuance part of a BASE record. -/
def Account.mapIssuance (a : Account) (f : Issuance → Issuance) : Account :=
  match a.part with
  | .base iss => { a with part := .base (f iss) }
  | .transport _ => a

/-- The record after a take: R34, and EXHAUSTED when next has passed last (R35). -/
def Account.afterTake (a : Account) (s : Issuance) : Account :=
  { a with
    part := .base s.takeNext
    state := if s.takeNext.next = s.last + 1 then .exhausted else a.state }

/-- The record after a return: R42, and ACTIVE again when it was EXHAUSTED. -/
def Account.afterReturn (a : Account) (s : Issuance) (n : Nat) : Account :=
  { a with
    part := .base (s.giveBack n)
    state := if a.state = .exhausted then .active else a.state }

/-- A settlement applied to a record (R38): only in ACTIVE, SUSPENDED or EXHAUSTED, and only when the entry for n is
OUTSTANDING. -/
def Account.afterSettlement (a : Account) (k : Settlement) (n : Nat) : Option Account :=
  match a.part with
  | .base s =>
    if a.state.isLive ∧ s.entry? n = some Entry.outstanding then some { a with part := .base (s.settle k n) } else none
  | .transport _ => none

/-- How the number of a package is disposed of. -/
inductive Disposal where
  /-- Confirmed by a matching receipt (R146). -/
  | confirm
  /-- Voided (R147, R148, R93). -/
  | void
  /-- Returned when R41 allows it, and voided otherwise (R43, for a package given up in PREPARING). -/
  | giveBack
  deriving DecidableEq, Repr

/-- The record after the disposal of number n (R43, R146, R147, R148); none when nothing changes. -/
def Account.afterDisposal (a : Account) (d : Disposal) (n : Nat) : Option Account :=
  match d with
  | .confirm => a.afterSettlement .confirm n
  | .void => a.afterSettlement .void n
  | .giveBack =>
    match a.part with
    | .base s => if a.state.isLive ∧ s.returnable n then some (a.afterReturn s n) else a.afterSettlement .void n
    | .transport _ => none

/-! ## Changes of a slot -/

/-- The disposal of a number, if it changes anything (R43, R146, R147, R148). -/
def Slot.dispose (sl : Slot) (d : Disposal) (n : Nat) : Slot :=
  match sl.account with
  | none => sl
  | some a =>
    match a.afterDisposal d n with
    | none => sl
    | some b => sl.write b sl.secret

/-- The record becomes QUARANTINED (R160): secrets and assembly part wiped, words rewritten from the account copy, the
waiting list emptied. -/
def Slot.quarantine (sl : Slot) : Slot :=
  match sl.account with
  | none => sl
  | some a => { sl.write { a with state := .quarantined, assembly := none } none with waiting := [] }

/-- The record becomes RETIRED (R22): key material wiped, the rest kept, the waiting list emptied (R7). -/
def Slot.retire (sl : Slot) : Slot :=
  match sl.account with
  | none => sl
  | some a => { sl.write { a with state := .retired } none with waiting := [] }

/-- The record is force-retired (R49, R91): the bulk void, then RETIRED. -/
def Slot.forceRetire (sl : Slot) : Slot :=
  match sl.account with
  | none => sl
  | some a => { sl.write { a.mapIssuance Issuance.voidAll with state := .retired } none with waiting := [] }

/-- The key check completes (R64): the accumulator becomes the key, the assembly part is wiped. -/
def Slot.complete (sl : Slot) (key : Key) : Slot :=
  match sl.account with
  | none => sl
  | some a => sl.write { a with state := .active, checkValue := some (checkValue key), assembly := none } (some key)

/-- The voiding at the end of the start-up check (R51): BASE records in ACTIVE, SUSPENDED or EXHAUSTED. The completion
reads no record again, so one that a storage error altered after the check had passed it is voided in its account copy and
goes on disagreeing: its next read-check in OPERATIONAL finds it (R163). What R51 and R155 do to the words of such a record
is left open; that the rewriting keeps their sum is the model's choice (DESIGN CHOICE, log entry 32). -/
def Slot.startUpVoid (sl : Slot) : Slot :=
  match sl.account with
  | none => sl
  | some a =>
    if a.state.isLive ∧ a.part.isBase then sl.rewriteKeepingSum (a.mapIssuance Issuance.voidAll) else sl

/-- Start-up empties a record in ASSEMBLING (R26 step 1); every waiting list is empty from the restart event on (R7). -/
def Slot.restart (sl : Slot) : Slot :=
  match sl.account with
  | none => Slot.empty
  | some a => if a.state = .assembling then Slot.empty else { sl with waiting := [] }

/-- The record that CREATE makes (R16). -/
def newRecord (label : BitVec 64) (keyLength : KeyLength) (quorum : Quorum) (permissions : BitVec 4) (part : ClassPart) :
    Slot :=
  let a : Account :=
    { state := .assembling, label := label, keyLength := keyLength, quorum := quorum, permissions := permissions,
      checkValue := none, assembly := some { contributed := 0, reserved := 0, checks := [] }, part := part }
  { account := some a, words := recordWords a (some (Key.zero keyLength)), waiting := [] }

/-! ## The record summary (R25, R203) -/

/-- The window map: sixteen entries of two bits, entry 0 in the two most significant bits (R203). -/
def Issuance.windowMap (s : Issuance) : List Byte :=
  bytesOfNat 4 ((List.range 16).foldl
    (fun a i => a * 4 + (if i < s.windowLength then entryCode s.window[i]? else 0)) 0)

/-- The 59 bytes of a record summary. A field that class or state does not carry reads as zero. -/
def Slot.summary (slot : SlotId) (sl : Slot) : List Byte :=
  match sl.account with
  | none => BitVec.ofNat 8 slot.val :: List.replicate 58 0
  | some a =>
    [BitVec.ofNat 8 slot.val, a.state.code, a.part.code, BitVec.ofNat 8 a.keyLength.toNat] ++ bytesOfBits 8 a.label ++
      (match a.checkValue with | none => [0, 0, 0] | some v => bytesOfBits 3 v) ++
      [a.permissions.setWidth 8, BitVec.ofNat 8 a.quorum.toNat,
       (match a.assembly with | none => 0 | some m => lineSetByte m.contributed)] ++
      (match a.part with
       | .transport m => bytesOfBits 2 m ++ List.replicate 39 0
       | .base s =>
         [0, 0] ++ bytesOfBits 5 s.issuer ++ bytesOfBits 4 s.tag ++ bytesOfNat 3 s.first ++ bytesOfNat 3 s.last ++
           bytesOfNat 3 s.next ++ bytesOfNat 3 s.floor ++ s.windowMap ++ bytesOfNat 2 s.allowance ++
           bytesOfNat 4 s.issued ++ bytesOfNat 4 s.confirmed ++ bytesOfNat 4 s.voided)

end Sys2Proof.Machine
end

