-- ==== Sys2Proof/Machine/Ops.lean ====
section
/-!
DEFINITION. Access to the blocks of the state, and the shared operations that touch one block: latching an event
(R190), the station operations of chapters 6 and 7, abandonment of jobs (R107), the supervision feed (R186), ticket
endings.
-/
namespace Sys2Proof.Machine

/-! ## Access to the state -/

def State.slot (s : State) (i : SlotId) : Slot := s.table.get i

def State.setSlot (s : State) (i : SlotId) (x : Slot) : State := { s with table := s.table.set i.val x i.isLt }

def State.modifySlot (s : State) (i : SlotId) (f : Slot → Slot) : State := s.setSlot i (f (s.slot i))

/-- The account copy of a record; none when it is EMPTY. -/
def State.account (s : State) (i : SlotId) : Option Account := (s.slot i).account

def State.station (s : State) (st : StationId) : Station := s.stations.get st

def State.setStation (s : State) (st : StationId) (x : Station) : State :=
  { s with stations := s.stations.set st.val x st.isLt }

def State.modifyStation (s : State) (st : StationId) (f : Station → Station) : State :=
  s.setStation st (f (s.station st))

def State.line (s : State) (l : Line) : CustodianLine := s.lines.get l

def State.setLine (s : State) (l : Line) (x : CustodianLine) : State := { s with lines := s.lines.set l.val x l.isLt }

def State.modifyLine (s : State) (l : Line) (f : CustodianLine → CustodianLine) : State := s.setLine l (f (s.line l))

def State.setConsole (s : State) (x : ConsoleLink) : State := { s with console := x }

def State.setApproval (s : State) (x : ApprovalUnit) : State := { s with approval := x }

def State.setEngine (s : State) (x : Engine) : State := { s with engine := x }

def State.setChecker (s : State) (x : IntegrityChecker) : State := { s with checker := x }

def State.setEvents (s : State) (x : EventUnit) : State := { s with events := x }

def State.setTamper (s : State) (x : TamperMonitor) : State := { s with tamper := x }

def State.setDevice (s : State) (x : DeviceState) : State := { s with device := x }

/-- Every slot, station and line, in ascending order. -/
def allSlots : List SlotId := List.finRange 192
def allStations : List StationId := List.finRange 8
def allLines : List Line := List.finRange 3

/-! ## Events (R190) -/

/-- Latching adds the event to the set. -/
def State.latch (s : State) (e : Event) : State :=
  s.setEvents { s.events with latched := s.events.latched ||| e.bit }

/-! ## Stations -/

/-- The serving states (R114). -/
def StationState.isServing : StationState → Bool
  | .identifying => true
  | .stalled => true
  | .preparing => true
  | .sending => true
  | .awaitingReceipt => true
  | _ => false

/-- A station with a terminal (R114): serving, or DEPARTING. -/
def StationState.hasTerminal : StationState → Bool
  | .departing => true
  | st => st.isServing

/-- Placing a frame in a transmitter list (R136): behind the frame being sent; a CLOSE removes a HELLO that waits
unbegun behind another frame. -/
def placeFrame (f : StationFrame) : List StationFrame → List StationFrame
  | [] => [f]
  | front :: rest =>
    match f with
    | .close _ => front :: (rest.filter (· ≠ .hello) ++ [f])
    | _ => front :: (rest ++ [f])

/-- CLOSE is sent only when presence is PRESENT at the event that places it (R151). -/
def Station.close (k : Station) (c : CloseCode) : Station :=
  if k.present then { k with transmitter := placeFrame (.close c) k.transmitter } else k

/-- Entering HELD with one more condition (R126). -/
def Station.hold (k : Station) (c : HoldCondition) : Station :=
  { k with
    state := .held, holds := k.holds ||| c.bit, timer := .stopped, identity := none, package := none, armed := false,
    disarmAfter := false }

/-- Entering BOUND or UNBOUND (R114, R115, R116). -/
def Station.rest (k : Station) : Station :=
  { k with
    state := (match k.base with | none => .unbound | some _ => .bound)
    armed := false, disarmAfter := false, identity := none, package := none, timer := .stopped, holds := 0 }

/-- Entering DEPARTING; in SINGLE mode armed is cleared (R115). -/
def Station.depart (k : Station) : Station :=
  { k with
    state := .departing, timer := .stopped, package := none
    armed := (match k.mode with | .single => false | .line => k.armed) }

/-- The end of a terminal (R117). -/
def Station.endTerminal (k : Station) : Station :=
  if k.base = none ∨ k.armed = false ∨ k.disarmAfter = true then k.rest
  else { k with state := .waiting, disarmAfter := false, identity := none, package := none, timer := .stopped }

/-- Greeting a terminal: HELLO, the identity timer, IDENTIFYING (R138, R122). -/
def Station.greet (k : Station) (timeout : Nat) : Station :=
  { k with
    state := .identifying, timer := .identity (timeout * 1000), transmitter := placeFrame .hello k.transmitter }

/-- A transmission is ended early: the frame being sent stops where it stands and the list is emptied (R136). -/
def Station.silence (k : Station) : Station := { k with transmitter := [] }

/-- The work of a station is ended: the timer is stopped and the transmission is ended with its key (R92, R124 steps 1 and 3,
R130, R131, R136). R92 ends the transmission in every state from IDENTIFYING to AWAITING_RECEIPT and calls that what ABORT does,
and R136 limits none of ABORT, FORCE_RETIRE and quarantine to a state; that the HELLO of IDENTIFYING is ended under ABORT and
quarantine too, where R124 step 3 and R130 speak of SENDING alone, is DEDUCED (log entry 35). -/
def Station.stop (k : Station) : Station := { k.silence with timer := .stopped }

/-- What ABORT leaves (R124 steps 6 to 8). -/
def Station.aborted (k : Station) : Station :=
  let k := { k.close .aborted with armed := false, disarmAfter := false, identity := none, package := none }
  if k.present then k.depart else k.rest

/-- What FORCE_RETIRE leaves of a station it reaches (R92). A serving station is aborted as by ABORT and unbound. -/
def Station.forceUnbound (k : Station) : Station :=
  match k.state with
  | .unbound => { k with base := none, armed := false }
  | .bound => { k with base := none }.rest
  | .waiting => { k with base := none }.rest
  | .departing => { k with base := none, armed := false }
  | .held => { k with base := none, armed := false }
  | _ => { k.stop with base := none }.aborted

/-- The treatment of a LINE-mode station by NARROW (R18) and by the supervision lapse (R132): WAITING goes to BOUND, a
station with a terminal is marked. -/
def Station.stopLine (k : Station) : Station :=
  match k.mode with
  | .single => k
  | .line =>
    if k.state = .waiting then k.rest
    else if k.state.hasTerminal then { k with disarmAfter := true }
    else k

/-- DISARM of a station (R123): in WAITING it enters BOUND, with a terminal armed is cleared, else nothing. -/
def Station.disarm (k : Station) : Station :=
  if k.state = .waiting then k.rest
  else if k.state.hasTerminal then { k with armed := false }
  else k

/-- A station gains a hold condition and enters HELD; STATION_HELD is latched when the condition is new (R126). -/
def hold (c : HoldCondition) (st : StationId) (s : State) : State :=
  let k := s.station st
  let t := s.setStation st (k.hold c)
  if k.holds &&& c.bit = c.bit then t else t.latch .stationHeld

/-- CLOSE is placed for a station (R151). -/
def placeClose (c : CloseCode) (st : StationId) (s : State) : State := s.modifyStation st (·.close c)

/-- A station is taken off its base record's waiting list; the others keep their order (R45). -/
def leaveWaitingList (st : StationId) (s : State) : State :=
  match (s.station st).base with
  | none => s
  | some i => s.modifySlot i fun sl => { sl with waiting := sl.waiting.filter (· ≠ st) }

/-! ## Jobs (R101, R102, R107) -/

/-- Who made the job (R101). -/
inductive Requester where
  | line (l : Line)
  | station (st : StationId)
  | console
  deriving DecidableEq, Repr

def Job.requester : Job → Requester
  | .componentCheck l .. => .line l
  | .keyCheck l _ => .line l
  | .package st .. => .station st
  | .verify _ => .console

/-- The job names the slot (R161 step 1). -/
def Job.names (i : SlotId) : Job → Bool
  | .componentCheck _ j .. => j == i
  | .keyCheck _ j => j == i
  | .package _ b _ _ _ t => b == i || t == some i
  | .verify j => j == i

/-- A job of a custodian line. -/
def Job.isCustodian : Job → Bool
  | .componentCheck .. => true
  | .keyCheck .. => true
  | _ => false

/-- A job of a custodian line for the slot (R66). -/
def Job.isCustodianFor (i : SlotId) (j : Job) : Bool := j.isCustodian && j.names i

/-- The jobs the engine holds for its requesters: the queue and a held job in service (R101). -/
def Engine.heldJobs (e : Engine) : List Job :=
  e.queue ++ (match e.service with
    | some v => if v.discard then [] else [v.job]
    | none => [])

/-- The requester has a job in the engine (R101). -/
def Engine.hasJobOf (e : Engine) (r : Requester) : Bool := e.heldJobs.any (·.requester == r)

/-- The console holds a VERIFY job that names the slot (R23). -/
def Engine.verifies (e : Engine) (i : SlotId) : Bool := e.heldJobs.any (· == .verify i)

/-- Abandonment of the jobs that `p` picks (R107): removed from the queue, or marked discard in service. -/
def Engine.abandon (e : Engine) (p : Job → Bool) : Engine :=
  { e with
    queue := e.queue.filter (fun j => !p j)
    service := e.service.map fun v => if p v.job then { v with discard := true } else v }

def abandonJobs (p : Job → Bool) (s : State) : State := s.setEngine (s.engine.abandon p)

/-- A job joins the back of the queue (R102). The choice of R103 comes at the end of the event (`settleEngine`). -/
def placeJob (j : Job) (s : State) : State := s.setEngine { s.engine with queue := s.engine.queue ++ [j] }

/-- A VERIFY job ends: outcome and slot, verify pending clear, VERIFY_DONE (R110, R111). -/
def endVerify (o : VerifyOutcome) (i : SlotId) (s : State) : State :=
  (s.setConsole { s.console with lastVerify := o, lastVerifySlot := i, verifyPending := false }).latch .verifyDone

/-- ABORT's first three steps (R124): the timer stops, the PACKAGE job is abandoned, the transmission ends (R136). -/
def stopWork (st : StationId) (s : State) : State :=
  (abandonJobs (fun j => j.requester == .station st) s).modifyStation st (·.stop)

/-! ## The window of a base record -/

/-- The window length of a base record (R29); 0 for any other record. -/
def windowLength (i : SlotId) (s : State) : Nat :=
  match s.account i with
  | none => 0
  | some a =>
    match a.part with
    | .base iss => iss.windowLength
    | .transport _ => 0

/-- The window is full (R29). -/
def windowFull (i : SlotId) (s : State) : Bool := windowLength i s == Config.windowSize

/-! ## Custodian lines -/

/-- The last outcome of a line becomes `o`, provided it names the slot (R54). -/
def setOutcome (l : Line) (i : SlotId) (o : LineOutcome) (check : Option (BitVec 24)) (s : State) : State :=
  if (s.line l).last.slot = i ∧ (s.line l).last.outcome ≠ .none then
    s.modifyLine l fun k => { k with last := { outcome := o, slot := i, check := check } }
  else s

/-- Every line in the set whose last outcome names the slot gets CANCELLED (R66, R68). -/
def cancelLines (lines : BitVec 3) (i : SlotId) (s : State) : State :=
  allLines.foldl (fun s l => if lines &&& lineBit l = lineBit l then setOutcome l i .cancelled none s else s) s

/-! ## Tickets -/

/-- The ticket that bears the number. -/
def ApprovalUnit.find? (u : ApprovalUnit) (n : Nat) : Option Ticket := u.tickets.find? (·.number == n)

/-- The ticket is OPEN. -/
def Ticket.isOpen (t : Ticket) : Bool :=
  match t.state with
  | .stillOpen _ => true
  | _ => false

/-- The table with one ticket replaced by its new value. -/
def ApprovalUnit.put (u : ApprovalUnit) (t : Ticket) : ApprovalUnit :=
  { u with tickets := u.tickets.map fun x => if x.number = t.number then t else x }

/-- A ticket leaves OPEN: its final value stands in the table and its number joins the finished order (R72). -/
def ApprovalUnit.finish (u : ApprovalUnit) (t : Ticket) : ApprovalUnit :=
  { u.put t with finished := u.finished ++ [t.number] }

/-- A ticket is removed from the table and from the finished order (R78, R81). -/
def ApprovalUnit.remove (u : ApprovalUnit) (n : Nat) : ApprovalUnit :=
  { u with tickets := u.tickets.filter (·.number ≠ n), finished := u.finished.filter (· ≠ n) }

/-- The OPEN tickets that name a record's slot; a CLEAR_TAMPER ticket names no record (R89). -/
def ApprovalUnit.openOn (u : ApprovalUnit) (i : SlotId) : List Ticket :=
  u.tickets.filter fun t => t.isOpen && t.slot == i && t.action != .clearTamper

/-- The record in the slot has become EMPTY: every OPEN ticket naming it fails, in table order (R89, R72). -/
def failTicketsOn (i : SlotId) (s : State) : State :=
  (s.approval.openOn i).foldl
    (fun s t => (s.setApproval (s.approval.finish { t with state := .failed .badState })).latch .ticketFailed) s

/-! ## Supervision (R186) -/

/-- A feed: with the period at 0 the condition is OFF, else the timer starts afresh with the period as it stands. -/
def feed (s : State) : State :=
  s.setConsole { s.console with
    supervision :=
      if s.console.settings.supervisionPeriod = 0 then .off
      else .running (s.console.settings.supervisionPeriod * 1000) }

end Sys2Proof.Machine
end

