-- ==== Sys2Proof/Machine/Quarantine.lean ====
section
/-!
DEFINITION. The read-check, the table search, the transport lookup, the taking and the giving up of numbers, the serving
of waiting lists, and the quarantine, which all call one another (R6, R11, R33, R43, R46, R141, R157, R160, R161).

A quarantine inside a quarantine is carried out whole before the first goes on (R161). So every operation here takes the
quarantine procedure `q` as an argument, and `quarantineAt` ties the knot by recursion on the depth of nesting, which
`Config.quarantineDepth` bounds. `busy` is the list of the records whose waiting lists are being served: no second
serving of such a list is started (R46).
-/
namespace Sys2Proof.Machine

/-- A quarantine procedure: the records being served, the record to quarantine, the state. -/
abbrev Quarantine := List SlotId → SlotId → State → State

/-- The read-check (R157): a record in use that disagrees and is not QUARANTINED is quarantined. -/
def readCheck (q : Quarantine) (busy : List SlotId) (i : SlotId) (s : State) : State :=
  if (s.slot i).agrees ∨ (s.slot i).recordState = some .quarantined then s else q busy i s

/-! ## Searching the table (R11) -/

/-- The records of the listed slots, each read-checked before it is compared; the first match stops the search. -/
def searchIn (q : Quarantine) (busy : List SlotId) (found : Account → Bool) : List SlotId → State → State × Option SlotId
  | [], s => (s, none)
  | i :: rest, s =>
    let s := readCheck q busy i s
    match s.account i with
    | none => searchIn q busy found rest s
    | some a => if found a then (s, some i) else searchIn q busy found rest s

/-- A table search (R11): the records in use, in ascending slot order from slot 0. -/
def searchTable (q : Quarantine) (busy : List SlotId) (found : Account → Bool) (s : State) : State × Option SlotId :=
  searchIn q busy found allSlots s

/-- How a package will be protected (R141). -/
inductive Protection where
  | wrapped (transport : SlotId)
  | clear
  | noTransport
  deriving DecidableEq, Repr

/-- An ACTIVE TRANSPORT record of the model class (R13, R141). -/
def servesModel (model : BitVec 16) (a : Account) : Bool := a.state == .active && a.isTransportOf model

/-- The outcome of the transport lookup once the search has ended (the table of R141). -/
def protectionOf (base : Option Account) (found : Option Account) (slot : Option SlotId) (t : TerminalId) : Protection :=
  match found, slot with
  | some a, some i => if a.has .wrap then .wrapped i else clearOr
  | _, _ => clearOr
where
  clearOr : Protection :=
    match base with
    | some b => if b.has .clear ∧ t.acceptsClear then .clear else .noTransport
    | none => .noTransport

/-- The transport lookup (R141) for a terminal of a station that issues from `base`. -/
def transportLookup (q : Quarantine) (busy : List SlotId) (base : SlotId) (t : TerminalId) (s : State) :
    State × Protection :=
  let r := searchTable q busy (servesModel t.model) s
  (r.1, protectionOf (r.1.account base) (r.2.bind r.1.account) r.2 t)

/-! ## Taking a number -/

/-- The transport slot a package names; none is the mark CLEAR (R113). -/
def Protection.slot : Protection → Option SlotId
  | .wrapped i => some i
  | _ => none

/-- A take that passed the tests (R34, R35, R36): the record takes next, the station's package is created, the station
enters PREPARING and its PACKAGE job joins the queue (R142, R108). -/
def takeNumber (i : SlotId) (st : StationId) (p : Protection) (a : Account) (iss : Issuance) (s : State) : State :=
  let s1 := s.modifySlot i fun sl => sl.write (a.afterTake iss) sl.secret
  let s2 := if iss.next = iss.last then s1.latch .recordExhausted else s1
  let low := s.console.settings.allowanceLow
  let s3 := if low ≤ iss.allowance ∧ iss.allowance - 1 < low then s2.latch .allowanceLow else s2
  let ksi := ksiOf iss.issuer iss.next
  let k := s3.station st
  let serial := match k.identity with | some t => t.serial | none => 0
  let s4 := s3.setStation st { k with
    state := .preparing, timer := .stopped,
    package := some { base := i, number := iss.next, ksi := ksi, transport := p.slot, expected := none } }
  placeJob (.package st i iss.next ksi serial p.slot) s4

/-- The station is not served: CLOSE(NOT_SERVED) and HELD with the condition (R142, R143, R46). -/
def refuseService (c : HoldCondition) (st : StationId) (s : State) : State := hold c st (placeClose .notServed st s)

/-! ## Serving the waiting list (R46, R143) -/

/-- One station taken from the front of the list is served (R46, R143). The lookup leaves the record as able to issue as
it found it (the record was read-checked in this event and its list is not served twice), so the test after the lookup
always passes. -/
def serveStation (q : Quarantine) (busy : List SlotId) (i : SlotId) (st : StationId) (s : State) : State :=
  match s.account i, (s.station st).identity with
  | some a, some t =>
    match a.issuance with
    | none => s
    | some iss =>
      if a.takeVerdict iss = .noNumber then refuseService .noNumber st s
      else
        let r := transportLookup q (i :: busy) i t s
        match r.2 with
        | .noTransport => refuseService .noTransport st r.1
        | p =>
          match r.1.account i with
          | none => r.1
          | some b => match b.issuance with
            | none => r.1
            | some iss' => if b.takeVerdict iss' = .number then takeNumber i st p b iss' r.1 else r.1
  | _, _ => s

/-- The serving of R46: while the list is not empty and the window length is below 16. At most `n` stations, which is
never short: no station joins a list while it is served. -/
def serveList (q : Quarantine) (busy : List SlotId) (i : SlotId) : Nat → State → State
  | 0, s => s
  | n + 1, s =>
    match (s.slot i).waiting with
    | [] => s
    | st :: rest =>
      if windowLength i s < Config.windowSize then
        serveList q busy i n (serveStation q busy i st (s.modifySlot i fun sl => { sl with waiting := rest }))
      else s

/-- Room opens on the record when its window, full before, is so no longer: the waiting list is served, unless a serving
of it is in progress (R40, R46). -/
def openRoom (q : Quarantine) (busy : List SlotId) (i : SlotId) (wasFull : Bool) (s : State) : State :=
  if wasFull ∧ windowLength i s < Config.windowSize ∧ i ∉ busy then
    serveList q busy i (s.slot i).waiting.length s
  else s

/-! ## Giving up a package (R43, R38, R41) -/

/-- The disposal applied to the base record. -/
def disposeNumber (d : Disposal) (i : SlotId) (n : Nat) (s : State) : State := s.modifySlot i (·.dispose d n)

/-- A station gives up its package: the base record is read-checked (R38, R41); when the check fails the quarantine has
stopped the station and taken its package, and the event ends there (R152, R124); otherwise the number is disposed of,
the package dropped, `after` gives the station's own change of state, and then room may open (R40, R146). -/
def giveUp (q : Quarantine) (busy : List SlotId) (d : Disposal) (st : StationId) (p : Package) (after : State → State)
    (s : State) : State :=
  let s1 := readCheck q busy p.base s
  match (s1.station st).package with
  | none => s1
  | some _ =>
    let s2 := (disposeNumber d p.base p.number s1).modifyStation st fun k => { k with package := none }
    openRoom q busy p.base (windowFull p.base s1) (after s2)

/-- The disposal R43 gives a package that is given up: only a PREPARING station's number may be returned. -/
def disposalIn : StationState → Disposal
  | .preparing => .giveBack
  | _ => .void

/-! ## Groups of stations (R125) -/

/-- `a` is treated before `b`: the higher number first, and of equal numbers the lower station. -/
def treatedBefore (s : State) (a b : StationId) : Bool :=
  match (s.station a).package, (s.station b).package with
  | some p, some r => p.number > r.number || (p.number == r.number && decide (a ≤ b))
  | _, _ => true

/-- Insertion by `treatedBefore`. -/
def insertStation (s : State) (a : StationId) : List StationId → List StationId
  | [] => [a]
  | b :: rest => if treatedBefore s a b then a :: b :: rest else b :: insertStation s a rest

/-- The stations of a group that hold packages, in descending order of number (R125 step 2). -/
def descendingByNumber (s : State) (group : List StationId) : List StationId :=
  (group.filter fun st => (s.station st).package.isSome).foldr (insertStation s) []

/-! ## Quarantine (section 8.5) -/

/-- A quarantine of a base record reaches a station bound to it (R130). The waiting list and the job are already gone. -/
def quarantineBound (st : StationId) (s : State) : State :=
  let s1 :=
    if (s.station st).state.isServing then
      (stopWork st s).modifyStation st fun k => { k with package := none }.close .aborted
    else s
  hold .integrity st (s1.modifyStation st fun k => { k with base := none, package := none })

/-- A quarantine of a transport record reaches a station whose package names it (R131). -/
def quarantineUser (q : Quarantine) (busy : List SlotId) (i : SlotId) (st : StationId) (s : State) : State :=
  match (s.station st).package with
  | none => s
  | some p =>
    if p.transport = some i then
      giveUp q busy (disposalIn (s.station st).state) st p (fun s => hold .integrity st (placeClose .aborted st s))
        (stopWork st s)
    else s

/-- The stations that have the record as their base slot. -/
def boundTo (i : SlotId) (s : State) : List StationId := allStations.filter fun st => (s.station st).base = some i

/-- The stations whose package names the record as its transport. -/
def usersOf (i : SlotId) (s : State) : List StationId :=
  allStations.filter fun st => match (s.station st).package with
    | some p => p.transport = some i
    | none => false

/-- The lines reserved or contributed for a record (R66, R68). -/
def Account.involvedLines (a : Account) : BitVec 3 :=
  match a.assembly with
  | some m => m.contributed ||| m.reserved
  | none => 0

/-- Every engine job that names the slot is abandoned; an abandoned VERIFY ends as ABANDONED (R161 step 1, R111). -/
def abandonNaming (i : SlotId) (s : State) : State :=
  let t := abandonJobs (Job.names i) s
  if s.engine.verifies i then endVerify .abandoned i t else t

/-- The quarantine of a record: R160, then the three steps of R161. -/
def quarantineStep (q : Quarantine) : Quarantine := fun busy i s =>
  match s.account i with
  | none => s
  | some a =>
    if a.state = .quarantined then s
    else
      let s1 := (s.modifySlot i Slot.quarantine).latch .recordQuarantined
      let s2 := cancelLines a.involvedLines i (abandonNaming i s1)
      let s3 := (boundTo i s2).foldl (fun s st => quarantineBound st s) s2
      (descendingByNumber s3 (usersOf i s3)).foldl (fun s st => quarantineUser q busy i st s) s3

/-- Quarantines nested to a depth. Depth 0 is never reached from `Config.quarantineDepth` (its docstring). -/
def quarantineAt : Nat → Quarantine
  | 0 => fun _ _ s => s
  | n + 1 => quarantineStep (quarantineAt n)

/-- The quarantine procedure of an event. -/
def quarantine : Quarantine := quarantineAt Config.quarantineDepth

/-! ## What the events call -/

/-- The read-check of a request (R157). -/
def check (i : SlotId) (s : State) : State := readCheck quarantine [] i s

/-- The table search of a request (R11). -/
def search (found : Account → Bool) (s : State) : State × Option SlotId := searchTable quarantine [] found s

/-- A station's package given up in an event of its own (R43, R146, R147, R148, R150). -/
def surrender (d : Disposal) (st : StationId) (p : Package) (after : State → State) (s : State) : State :=
  giveUp quarantine [] d st p after s

end Sys2Proof.Machine
end

