-- ==== Sys2Proof/Machine/Arbiter.lean ====
section
/-!
DEFINITION. The Transform Engine's arbitration and the start of service (sections 5.6 and 5.7).
-/
namespace Sys2Proof.Machine

/-! ## The choice (R103, R104) -/

/-- The rotating order after the last-served station p: p + 1, p + 2, ..., p + 8, modulo 8 (R104). -/
def rotation (p : StationId) : List StationId := (List.range 8).map fun k => Fin.ofNat 8 (p.val + 1 + k)

/-- The oldest job of a requester in a queue. -/
def jobOf (r : Requester) (queue : List Job) : Option Job := queue.find? (·.requester == r)

/-- The first station in rotating order that has a job in the queue. -/
def firstStationJob (queue : List Job) : List StationId → Option (StationId × Job)
  | [] => none
  | st :: rest =>
    match jobOf (.station st) queue with
    | some j => some (st, j)
    | none => firstStationJob queue rest

/-- The engine after its choice, with the job chosen: custodians first, oldest first; then stations in rotating order;
then the console (R103). The choice of a station job makes that station the last served (R104). -/
def Engine.choose (e : Engine) : Option (Job × Engine) :=
  match e.queue.find? Job.isCustodian with
  | some j => some (j, { e with queue := e.queue.erase j })
  | none =>
    match firstStationJob e.queue (rotation e.lastServed) with
    | some (st, j) => some (j, { e with queue := e.queue.erase j, lastServed := st })
    | none =>
      match e.queue with
      | [] => none
      | j :: rest => some (j, { e with queue := rest })

/-! ## The start of service (R105) -/

/-- The engine holds a job for its requester. -/
def inService (j : Job) (c : Copies) (s : State) : State :=
  s.setEngine { s.engine with service := some { job := j, copies := c, discard := false } }

/-- The engine is free (R101). -/
def freeEngine (s : State) : State := s.setEngine { s.engine with service := none }

/-- The job at its service start has been abandoned by a quarantine (R105). -/
def State.startAbandoned (s : State) : Bool :=
  match s.engine.service with
  | some v => v.discard
  | none => true

/-- One read of a service start (R105): the record is read-checked, and a job abandoned by its quarantine does not run:
the engine is free again. -/
def readForService (i : SlotId) (go : State → State) (s : State) : State :=
  let t := check i s
  if t.startAbandoned then freeEngine t else go t

/-- The accumulator is read. It is there: no rule takes it from a record whose KEY_CHECK is held (R105, note). -/
def startKeyCheck (j : Job) (i : SlotId) (s : State) : State :=
  match (s.slot i).secret with
  | some acc => inService j (.accumulator acc) s
  | none => freeEngine s

/-- The transport key and its check value are read, the base's key, tag and usage having been read before. -/
def startWrapped (j : Job) (t : SlotId) (key : Key) (tag : BitVec 32) (usage : Byte) (s : State) : State :=
  match s.account t, (s.slot t).keyMaterial with
  | some a, some tkey => inService j (.packageKeys key tag usage (some (tkey, a.checkValue.getD 0))) s
  | _, _ => freeEngine s

/-- The base key, tag and usage are read, then the transport record of a wrapped package. The material is there (R105,
note). -/
def startPackage (j : Job) (b : SlotId) (t : Option SlotId) (s : State) : State :=
  match (s.account b).bind Account.issuance, (s.slot b).keyMaterial with
  | some iss, some key =>
    match t with
    | none => inService j (.packageKeys key iss.tag iss.usage none) s
    | some ti => readForService ti (startWrapped j ti key iss.tag iss.usage) s
  | _, _ => freeEngine s

/-- The key material and check value are read; a record found outside ACTIVE, SUSPENDED and EXHAUSTED ends the job as
ABANDONED (R110). -/
def startVerify (j : Job) (i : SlotId) (s : State) : State :=
  match s.account i, (s.slot i).keyMaterial with
  | some a, some key => inService j (.stored key (a.checkValue.getD 0)) s
  | _, _ => endVerify .abandoned i (freeEngine s)

/-- A job's start of service: the reads in order, each after its read-check (R105). -/
def startService (j : Job) (s : State) : State :=
  match j with
  | .componentCheck .. => inService j .nothing s
  | .keyCheck _ i => readForService i (startKeyCheck j i) (inService j .nothing s)
  | .package _ b _ _ _ t => readForService b (startPackage j b t) (inService j .nothing s)
  | .verify i => readForService i (startVerify j i) (inService j .nothing s)

/-- The choices of one event: while the engine is free and its queue is not empty it chooses and starts a job (R102,
R103). At most `n` choices. -/
def chooseJobs : Nat → State → State
  | 0, s => s
  | n + 1, s =>
    match s.engine.service with
    | some _ => s
    | none =>
      match s.engine.choose with
      | none => s
      | some (j, e) => chooseJobs n (startService j (s.setEngine e))

/-- A bound on the choices of one event that is never short: each choice takes a job out of the queue, and within one
event only a station taken off a waiting list adds a job to it. -/
def choiceBound (s : State) : Nat :=
  s.engine.queue.length + (allSlots.map fun i => (s.slot i).waiting.length).sum

/-- The end of an event that may have placed jobs or freed the engine (R102, R103). -/
def settleEngine (s : State) : State := chooseJobs (choiceBound s) s

/-- The held job in service, if any. -/
def Engine.held? (e : Engine) : Option Service :=
  match e.service with
  | some v => if v.discard then none else some v
  | none => none

end Sys2Proof.Machine
end

