-- ==== Sys2Proof/Machine/Flags.lean ====
section
/-!
DEFINITION. The values the controller computes from its state and shows: the alert output (R193), the status summary
byte (R183), and the summaries of tickets and stations (R80, R128).
-/
namespace Sys2Proof.Machine

/-- The number of stations in HELD (R184). -/
def heldCount (s : State) : Nat := (allStations.filter fun st => (s.station st).state = .held).length

/-- At least one station is in HELD (R183). -/
def anyHeld (s : State) : Bool := allStations.any fun st => (s.station st).state == .held

/-- The alert output is asserted (R193). Without main power no output is driven. -/
def alertAsserted (s : State) : Bool :=
  s.powered &&
    ((s.events.latched &&& ~~~ s.events.mask) != 0 || anyHeld s || s.events.restartIndication || s.device == .tampered)

/-- A flag at a bit position. -/
def flagAt (b : Bool) (i : Nat) : Nat := if b then 2 ^ i else 0

/-- The status summary byte (R183, R204). -/
def statusSummary (s : State) : Byte :=
  BitVec.ofNat 8
    (s.device.code * 64 + flagAt (alertAsserted s) 5 + flagAt s.events.restartIndication 4 +
      flagAt s.console.verifyPending 3 + flagAt (anyHeld s) 2 + flagAt (s.events.latched != 0) 1)

/-- The time left on an OPEN ticket's timer in whole seconds, rounded up; 0 for a finished ticket (R80). -/
def Ticket.secondsLeft (t : Ticket) : Nat :=
  match t.state with
  | .stillOpen left => secondsUp left
  | _ => 0

/-- The 10 bytes of a ticket summary (R203). -/
def Ticket.summary (t : Ticket) : List Byte :=
  [BitVec.ofNat 8 t.number, t.action.code, BitVec.ofNat 8 t.slot.val] ++ bytesOfBits 2 t.amount ++
    [lineSetByte t.approvals, t.state.code, t.state.reasonCode] ++ bytesOfNat 2 t.secondsLeft

/-- The time left on the running timer of a station in milliseconds; 0 when it is stopped (R128). -/
def StationTimer.left : StationTimer → Nat
  | .stopped => 0
  | .identity n => n
  | .receipt n => n

/-- A package's CLEAR mark. -/
def Package.isClear (p : Package) : Bool := p.transport.isNone

/-- The flags byte of a station summary (R203). -/
def Station.flags (k : Station) : Byte :=
  BitVec.ofNat 8
    (flagAt (k.mode == .line) 0 + flagAt k.armed 1 + flagAt k.disarmAfter 2 + flagAt k.present 3 +
      flagAt k.base.isSome 4 + flagAt k.identity.isSome 5 + flagAt k.package.isSome 6 +
      flagAt (match k.package with | some p => p.isClear | none => false) 7)

/-- An optional slot as a byte: absent reads as zero (R203). -/
def slotByte : Option SlotId → Byte
  | none => 0
  | some i => BitVec.ofNat 8 i.val

/-- The capability byte of a terminal identity (R204). -/
def TerminalId.capabilities (t : TerminalId) : Byte := BitVec.ofNat 8 (flagAt t.acceptsClear 0 + flagAt t.supports32 1)

/-- The 33 bytes of a station summary (R128, R203). -/
def Station.summary (st : StationId) (k : Station) : List Byte :=
  [BitVec.ofNat 8 st.val, k.state.code, k.flags, slotByte k.base, k.holds.setWidth 8] ++
    (match k.identity with
     | none => List.replicate 11 0
     | some t => bytesOfBits 8 t.serial ++ bytesOfBits 2 t.model ++ [t.capabilities]) ++
    (match k.package with
     | none => List.replicate 15 0
     | some p =>
       bytesOfNat 3 p.number ++ bytesOfBits 8 p.ksi ++ [slotByte p.transport] ++
         (match p.expected with | none => [0, 0, 0] | some v => bytesOfBits 3 v)) ++
    bytesOfNat 2 k.timer.left

/-- The six settings in the order and sizes of SET_SETTINGS (R202). -/
def Settings.bytes (x : Settings) : List Byte :=
  bytesOfNat 1 x.identityTimeout ++ bytesOfNat 1 x.receiptTimeout ++ bytesOfNat 2 x.approvalWindow ++
    bytesOfNat 2 x.supervisionPeriod ++ bytesOfNat 2 x.sweepPeriod ++ bytesOfNat 2 x.allowanceLow

/-- An event set in 4 bytes (R204). -/
def eventBytes (e : BitVec 19) : List Byte := bytesOfNat 4 e.toNat

end Sys2Proof.Machine
end

