-- ==== Sys2Proof/Machine/Operands.lean ====
section
/-!
DEFINITION. The operands of commands, requests and terminal frames as their payloads carry them (R202), and the shared
form of a console command (R180 to R183), a custodian request (R53) and a terminal frame (R137).
-/
namespace Sys2Proof.Machine

/-! ## Operand forms -/

/-- A payload without operands. -/
def noOperands : Payload → Option Unit
  | [] => some ()
  | _ => none

/-- One byte. -/
def oneByte : Payload → Option Byte
  | [a] => some a
  | _ => none

/-- Two bytes. -/
def twoBytes : Payload → Option (Byte × Byte)
  | [a, b] => some (a, b)
  | _ => none

/-- Three bytes. -/
def threeBytes : Payload → Option (Byte × Byte × Byte)
  | [a, b, c] => some (a, b, c)
  | _ => none

/-- A payload of exactly `n` bytes. -/
def exactly (n : Nat) (p : Payload) : Option Payload := if p.length = n then some p else none

/-- A slot operand: 0 to 191 (R8). -/
def slotOf (b : Byte) : Option SlotId := if h : b.toNat < 192 then some ⟨b.toNat, h⟩ else none

/-- A station set: bit n for station n (R119, R204), in ascending station order. -/
def stationSet (b : Byte) : List StationId := allStations.filter fun st => b.getLsbD st.val

/-- The label bytes are all within 0x20 to 0x7E (R9). -/
def labelValid (l : List Byte) : Bool := l.all fun b => 0x20 ≤ b.toNat && b.toNat ≤ 0x7E

def keyLengthOf (b : Byte) : Option KeyLength :=
  if b = 16 then some .bytes16 else if b = 32 then some .bytes32 else none

def quorumOf (b : Byte) : Option Quorum := if b = 2 then some .two else if b = 3 then some .three else none

/-- The operands of CREATE, as carried (section 1.5). `rest` is what follows the permissions. -/
structure CreateOperands where
  slot : Byte
  cls : Byte
  label : List Byte
  keyLength : Byte
  quorum : Byte
  permissions : Byte
  rest : Payload
  deriving DecidableEq, Repr

/-- The payload of a CREATE fits the class it names: 29 bytes for BASE, 15 for TRANSPORT, either for a class code that
names neither (R200). -/
def createOperands (p : Payload) : Option CreateOperands :=
  let cls := byteAt p 1
  if (p.length = 29 ∧ cls ≠ 2) ∨ (p.length = 15 ∧ cls ≠ 1) then
    some
      { slot := byteAt p 0, cls := cls, label := (p.drop 2).take 8, keyLength := byteAt p 10, quorum := byteAt p 11,
        permissions := byteAt p 12, rest := p.drop 13 }
  else none

/-- The issuance part that CREATE makes (R16): prefix, tag, usage, first and last as carried. -/
def CreateOperands.issuance (c : CreateOperands) : Issuance :=
  let first := field c.rest 10 3
  { issuer := BitVec.ofNat 40 (field c.rest 0 5), tag := BitVec.ofNat 32 (field c.rest 5 4), usage := byteAt c.rest 9,
    first := first, last := field c.rest 13 3, next := first, floor := first, window := [], allowance := 0, issued := 0,
    confirmed := 0, voided := 0 }

/-- The model class operand of CREATE for a TRANSPORT record. -/
def CreateOperands.model (c : CreateOperands) : BitVec 16 := BitVec.ofNat 16 (field c.rest 0 2)

/-- The component of a COMPONENT payload: slot 1, component 16 or 32, check value 3 (R53). -/
structure ComponentOperands where
  slot : Byte
  component : Key
  check : BitVec 24
  deriving DecidableEq, Repr

def componentOperands (p : Payload) : Option ComponentOperands :=
  if p.length = 20 ∨ p.length = 36 then
    match keyOfBytes ((p.drop 1).take (p.length - 4)) with
    | some k => some { slot := byteAt p 0, component := k, check := BitVec.ofNat 24 (field p (p.length - 3) 3) }
    | none => none
  else none

/-- The operands of SET_SETTINGS as carried (R195, R202). -/
def settingsOperands (p : Payload) : Option Settings :=
  if p.length = 10 then
    some
      { identityTimeout := field p 0 1, receiptTimeout := field p 1 1, approvalWindow := field p 2 2,
        supervisionPeriod := field p 4 2, sweepPeriod := field p 6 2, allowanceLow := field p 8 2 }
  else none

/-- The operands of IDENTITY: serial 8, model class 2, capabilities 1 (R137, R140). -/
def identityOperands (p : Payload) : Option TerminalId :=
  if p.length = 11 then
    some
      { serial := BitVec.ofNat 64 (field p 0 8), model := BitVec.ofNat 16 (field p 8 2),
        acceptsClear := (byteAt p 10).getLsbD 0, supports32 := (byteAt p 10).getLsbD 1 }
  else none

/-- The operands of RECEIPT: KSI 8, check value 3 (R137, R146). -/
def receiptOperands (p : Payload) : Option (BitVec 64 × BitVec 24) :=
  if p.length = 11 then some (BitVec.ofNat 64 (field p 0 8), BitVec.ofNat 24 (field p 8 3)) else none

/-! ## A console command (section 10.2) -/

/-- What a command's owning rule leaves: the state, the answer code, and the answer's data, which is formed from the
state after the feed (R182, R186). -/
structure Reply where
  state : State
  code : AnswerCode
  data : State → List Byte

/-- An answer without data. -/
def reply (code : AnswerCode) (s : State) : Reply := { state := s, code := code, data := fun _ => [] }

/-- The unit takes console frames: it has power and its receiver is not CLOSED (R179). -/
def State.consoleOpen (s : State) : Bool :=
  s.powered && (match s.console.receiver with | .closed _ => false | _ => true)

/-- The unit takes addressed frames: a unit whose straps read 15 has no address of its own (R178). -/
def State.takesCommand (s : State) : Bool := s.consoleOpen && s.console.unitAddress != 15

/-- The device state passes the command to its owning rule (R181). -/
def admits (d : DeviceState) (kind : Byte) (p : Payload) : Bool :=
  match d with
  | .operational => true
  | .starting _ => kind == Kind.status || kind == Kind.restart
  | .tampered =>
    [Kind.status, Kind.readEvents, Kind.readTickets, Kind.readSettings, Kind.dismissTicket].contains kind ||
      (kind == Kind.openTicket && byteAt p 0 == Action.clearTamper.code)

/-- The refusal of R181. -/
def deviceRefusal : DeviceState → AnswerCode
  | .tampered => .tampered
  | _ => .notReady

/-- The command is answered: the feed, then the answer formed from the state, then the receiver CLOSED while the answer
is sent (R179, R182, R186). -/
def deliver (kind : Byte) (r : Reply) : State :=
  let t := feed r.state
  t.setConsole { t.console with
    receiver := .closed
      { address := t.console.unitAddress, kind := answerKind kind, status := statusSummary t, code := r.code,
        data := r.data t } }

/-- An addressed command (R180): its length (no operands read: BAD_LENGTH), the device state, its owning rule. -/
def consoleCommand (kind : Byte) (p : Payload) (owner : Option (State → Reply)) (s : State) : State :=
  if s.takesCommand then
    match owner with
    | none => deliver kind (reply .badLength s)
    | some f => if admits s.device kind p then deliver kind (f s) else deliver kind (reply (deviceRefusal s.device) s)
  else s

/-- A command about one slot: BAD_SLOT above 191 (R8). -/
def withSlot (b : Byte) (s : State) (f : SlotId → Reply) : Reply :=
  match slotOf b with
  | none => reply .badSlot s
  | some i => f i

/-- The slot and its record state, the data of SUSPEND, RESUME, RETIRE, RELEASE and FIND_LABEL (R202). -/
def slotAndState (i : SlotId) (t : State) : List Byte := [BitVec.ofNat 8 i.val, (t.slot i).stateByte]

/-! ## A custodian request (R53) -/

/-- A custodian answer is put on its line. -/
def answerLine (l : Line) (kind : Byte) (code : AnswerCode) (data : List Byte) (s : State) : State :=
  s.modifyLine l fun k => { k with sending := some { kind := answerKind kind, code := code, data := data } }

/-- A custodian request: a frame that does not fit its kind, or that arrives while the line's answer is being sent, is
discarded with LINE_ERROR_CUSTODIAN (R53); else the owning rule gives state, code and data. -/
def custodianRequest (l : Line) (kind : Byte) (owner : Option (State → State × AnswerCode × List Byte)) (s : State) :
    State :=
  if s.powered then
    match owner, (s.line l).sending with
    | some f, none => let r := f s; answerLine l kind r.2.1 r.2.2 r.1
    | _, _ => s.latch .lineErrorCustodian
  else s

/-! ## A terminal frame (R136, R137) -/

/-- A terminal frame in OPERATIONAL is taken when its payload fits, the station awaits it, and the station's transmitter
was not sending; else it is discarded with LINE_ERROR_STATION. In STARTING and TAMPERED it is discarded without an
event. -/
def terminalFrame {α : Type} (st : StationId) (awaited : StationState) (operands : Option α) (taken : α → State → State)
    (s : State) : State :=
  if s.powered ∧ s.device = .operational then
    match operands with
    | none => s.latch .lineErrorStation
    | some x =>
      if (s.station st).state = awaited ∧ (s.station st).transmitter = [] then taken x s
      else s.latch .lineErrorStation
  else s

end Sys2Proof.Machine
end

