-- ==== Sys2Proof/Machine/Approval.lean ====
section
/-!
DEFINITION. The Approval Unit (chapter 4): the console commands OPEN_TICKET, READ_TICKETS and DISMISS_TICKET, the
custodian requests TICKET_QUERY, APPROVE and DECLINE, the expiry of a ticket, and the actions a ticket executes.
-/
namespace Sys2Proof.Machine

/-! ## Preconditions (R77) -/

/-- A tamper input is active (R166, R167). -/
def TamperMonitor.anyActive (m : TamperMonitor) : Bool :=
  m.enclosureActive || m.supplyActive || m.band == .limit

/-- The precondition of a record action, looking at state and class alone (R77). -/
def Action.admitsRecord (act : Action) (a : Option Account) : Bool :=
  match act, a with
  | .grant, some a => a.part.isBase && (a.state == .active || a.state == .suspended)
  | .widen, some a => a.state == .active || a.state == .suspended
  | .forceRetire, some a => a.state.isLive
  | .releaseQuarantined, some a => a.state == .quarantined
  | _, _ => false

/-- The test of an action's precondition, with the read-check it makes for record actions (R77). -/
def precondition (act : Action) (i : SlotId) (s : State) : State × Bool :=
  match act with
  | .clearTamper => (s, s.device == .tampered && !s.tamper.anyActive)
  | _ =>
    let s := check i s
    (s, act.admitsRecord (s.account i))

/-! ## OPEN_TICKET (R74 to R79) -/

/-- The next candidate after a number: 255 plus 1 gives 1 (R74). -/
def nextNumber (n : Nat) : Nat := if n ≥ 255 then 1 else n + 1

/-- The first candidate that no ticket bears, within `fuel` candidates (R74: five are enough). -/
def freeNumber (used : List Nat) : Nat → Nat → Nat
  | 0, n => n
  | fuel + 1, n => if n ∈ used then freeNumber used fuel (nextNumber n) else n

/-- The operands as stored (R75); none is the BAD_VALUE of check 3 (R76). -/
def storedAmount (act : Action) (amount : BitVec 16) : Option (BitVec 16) :=
  match act with
  | .grant => if amount = 0 then none else some amount
  | .widen => if amount = 0 ∨ amount.toNat ≥ 16 then none else some amount
  | _ => some 0

/-- Room for a new ticket: with four tickets in the table the front of the finished order is removed (R78). -/
def ApprovalUnit.makeRoom (u : ApprovalUnit) : ApprovalUnit :=
  if u.tickets.length ≥ Config.maxTickets then
    match u.finished with
    | [] => u
    | n :: _ => u.remove n
  else u

/-- The new ticket joins the table (R79), numbered by R74. -/
def ApprovalUnit.addTicket (u : ApprovalUnit) (act : Action) (i : SlotId) (amount : BitVec 16) (window : Nat) :
    ApprovalUnit × Nat :=
  let n := freeNumber (u.tickets.map (·.number)) 5 (nextNumber u.counter)
  ({ u with
      tickets := u.tickets ++
        [{ number := n, action := act, slot := i, amount := amount, approvals := 0,
           state := .stillOpen (window * 1000) }]
      counter := n }, n)

/-- Checks 4 to 6 of R76 and the opening of R79. -/
def openOn (act : Action) (i : SlotId) (amount : BitVec 16) (s : State) : Reply :=
  let r := precondition act i s
  let s := settleEngine r.1
  if ¬ r.2 then reply .badState s
  else if s.approval.tickets.any (fun t => t.isOpen && t.action == act && t.slot == i) then reply .duplicate s
  else if s.approval.tickets.length ≥ Config.maxTickets ∧ s.approval.tickets.all Ticket.isOpen then reply .tableFull s
  else
    let u := s.approval.makeRoom.addTicket act i amount s.console.settings.approvalWindow
    { state := s.setApproval u.1, code := .ok, data := fun _ => [BitVec.ofNat 8 u.2] }

/-- OPEN_TICKET: action, slot, amount in 2 bytes (R75, R76). -/
def openTicket (actionByte slotByte : Byte) (amount : BitVec 16) (s : State) : Reply :=
  match Action.ofCode actionByte with
  | none => reply .badValue s
  | some .clearTamper => openOn .clearTamper 0 0 s
  | some act =>
    withSlot slotByte s fun i =>
      match storedAmount act amount with
      | none => reply .badValue s
      | some stored => openOn act i stored s

def execOpenTicket (p : Payload) (s : State) : Host.Outcome State Fault Refusal :=
  .next (consoleCommand Kind.openTicket p
    ((exactly 4 p).map fun p => openTicket (byteAt p 0) (byteAt p 1) (BitVec.ofNat 16 (field p 2 2))) s)

/-! ## READ_TICKETS and DISMISS_TICKET (R80, R81) -/

def readTickets (s : State) : Reply :=
  { state := s, code := .ok,
    data := fun t => BitVec.ofNat 8 t.approval.tickets.length :: t.approval.tickets.flatMap Ticket.summary }

def execReadTickets (p : Payload) (s : State) : Host.Outcome State Fault Refusal :=
  .next (consoleCommand Kind.readTickets p ((noOperands p).map fun _ => readTickets) s)

def dismissTicket (n : Byte) (s : State) : Reply :=
  match s.approval.find? n.toNat with
  | none => reply .notFound s
  | some t => if t.isOpen then reply .badState s else reply .ok (s.setApproval (s.approval.remove n.toNat))

def execDismissTicket (p : Payload) (s : State) : Host.Outcome State Fault Refusal :=
  .next (consoleCommand Kind.dismissTicket p ((oneByte p).map dismissTicket) s)

/-! ## The actions (section 4.7) -/

/-- GRANT: the allowance rises by the amount, saturating (R47). -/
def executeGrant (i : SlotId) (amount : BitVec 16) (s : State) : State :=
  s.modifySlot i (·.update (·.mapIssuance fun x => { x with allowance := raiseAllowance x.allowance amount.toNat }))

/-- WIDEN: the union with the ticket's set, cut to the valid flags of the class (R90). -/
def executeWiden (i : SlotId) (amount : BitVec 16) (s : State) : State :=
  s.modifySlot i (·.update fun a =>
    { a with permissions := (a.permissions ||| amount.setWidth 4) &&& a.part.validFlags })

/-- A station that FORCE_RETIRE of a base record reaches is aborted and unbound, its job abandoned; its number is left
to the bulk void (R91 steps 1 and 2, R92). -/
def forceUnbind (st : StationId) (s : State) : State :=
  (abandonJobs (fun j => j.requester == .station st) s).modifyStation st (·.forceUnbound)

/-- FORCE_RETIRE of a BASE record (R91): the stations, their jobs, the bulk void, then RETIRED. -/
def forceRetireBase (i : SlotId) (s : State) : State :=
  let group := allStations.filter fun st =>
    (s.station st).base == some i || (match (s.station st).package with | some p => p.base == i | none => false)
  (group.foldl (fun s st => forceUnbind st s) s).modifySlot i Slot.forceRetire

/-- A station whose package names a force-retired transport record (R93): aborted, unbound, its number voided in its
own base record. -/
def forceUser (i : SlotId) (st : StationId) (s : State) : State :=
  match (s.station st).package with
  | none => s
  | some p =>
    if p.transport = some i then
      surrender .void st p (fun s => s.modifyStation st (·.forceUnbound)) (stopWork st s)
    else s

/-- FORCE_RETIRE of a TRANSPORT record (R93): RETIRED first, then the stations, in the order of R125. -/
def forceRetireTransport (i : SlotId) (s : State) : State :=
  let s := s.modifySlot i Slot.retire
  (descendingByNumber s (usersOf i s)).foldl (fun s st => forceUser i st s) s

def executeForceRetire (i : SlotId) (s : State) : State :=
  match s.account i with
  | none => s
  | some a => if a.part.isBase then forceRetireBase i s else forceRetireTransport i s

/-- RELEASE_QUARANTINED: the record becomes EMPTY (R94). The other tickets on the slot fail behind this one (R89), so
that is done by `executeTicket`. -/
def executeRelease (i : SlotId) (s : State) : State := s.setSlot i Slot.empty

/-- CLEAR_TAMPER: latch and cause cleared, OPERATIONAL, the sweep timer started at position 191 (R172). -/
def executeClearTamper (s : State) : State :=
  ((s.setTamper { s.tamper with latch := false, cause := 0 }).setDevice .operational).setChecker
    { sweepPosition := 191, sweepTimer := some s.console.settings.sweepPeriod }

/-- The effect of a ticket's action, its precondition holding (R88). -/
def applyAction (t : Ticket) (s : State) : State :=
  match t.action with
  | .grant => executeGrant t.slot t.amount s
  | .widen => executeWiden t.slot t.amount s
  | .forceRetire => executeForceRetire t.slot s
  | .releaseQuarantined => executeRelease t.slot s
  | .clearTamper => executeClearTamper s

/-- After an executed RELEASE_QUARANTINED the other OPEN tickets on the slot fail (R89). -/
def afterAction (t : Ticket) (s : State) : State :=
  match t.action with
  | .releaseQuarantined => failTicketsOn t.slot s
  | _ => s

/-- Execution of a ticket whose second approval has been taken (R88). -/
def executeTicket (t : Ticket) (s : State) : State :=
  let r := precondition t.action t.slot s
  if r.2 then
    let s := applyAction t r.1
    afterAction t ((s.setApproval (s.approval.finish { t with state := .executed })).latch .ticketExecuted)
  else
    (r.1.setApproval (r.1.approval.finish { t with state := .failed .badState })).latch .ticketFailed

/-! ## Custodian requests (section 4.4) -/

/-- A ticket request: NOT_READY in STARTING, UNKNOWN_TICKET for a number no ticket bears (R82). -/
def ticketRequest (n : Byte) (s : State) (f : Ticket → State × AnswerCode × List Byte) : State × AnswerCode × List Byte :=
  match s.device with
  | .starting _ => (s, .notReady, [])
  | _ =>
    match s.approval.find? n.toNat with
    | none => (s, .unknownTicket, [])
    | some t => f t

def execTicketQuery (l : Line) (p : Payload) (s : State) : Host.Outcome State Fault Refusal :=
  .next (custodianRequest l Kind.ticketQuery
    ((oneByte p).map fun n s => ticketRequest n s fun t => (s, .ok, t.summary)) s)

/-- The data of an OK answer to APPROVE and DECLINE: state, reason and approvals of the ticket as they stand (R84, R85). -/
def ticketOutcome (n : Nat) (s : State) : List Byte :=
  match s.approval.find? n with
  | some t => [t.state.code, t.state.reasonCode, lineSetByte t.approvals]
  | none => []

/-- The approval of an OPEN ticket is taken (R84 check 6): the first leaves it OPEN, the second executes it. -/
def takeApproval (l : Line) (t : Ticket) (s : State) : State :=
  let t' := { t with approvals := t.approvals ||| lineBit l }
  let s := s.setApproval (s.approval.put t')
  if lineCount t'.approvals ≥ 2 then settleEngine (executeTicket t' s) else s

/-- The checks of R84. -/
def approve (l : Line) (p : Payload) (s : State) : State × AnswerCode × List Byte :=
  ticketRequest (byteAt p 0) s fun t =>
    match t.state with
    | .expired => (s, .expired, [])
    | .executed => (s, .closed, [])
    | .failed _ => (s, .closed, [])
    | .stillOpen _ =>
      if byteAt p 1 ≠ t.action.code ∨ (byteAt p 2).toNat ≠ t.slot.val ∨ field p 3 2 ≠ t.amount.toNat then
        (s, .mismatch, [])
      else if t.approvals &&& lineBit l = lineBit l then (s, .alreadyApproved, [])
      else
        let s := takeApproval l t s
        (s, .ok, ticketOutcome t.number s)

def execApprove (l : Line) (p : Payload) (s : State) : Host.Outcome State Fault Refusal :=
  .next (custodianRequest l Kind.approve ((exactly 5 p).map fun p => approve l p) s)

/-- DECLINE (R85). -/
def decline (n : Byte) (s : State) : State × AnswerCode × List Byte :=
  ticketRequest n s fun t =>
    match t.state with
    | .expired => (s, .expired, [])
    | .executed => (s, .closed, [])
    | .failed _ => (s, .closed, [])
    | .stillOpen _ =>
      let s := (s.setApproval (s.approval.finish { t with state := .failed .declined })).latch .ticketFailed
      (s, .ok, ticketOutcome t.number s)

def execDecline (l : Line) (p : Payload) (s : State) : Host.Outcome State Fault Refusal :=
  .next (custodianRequest l Kind.decline ((oneByte p).map decline) s)

/-! ## Expiry (R86) -/

/-- The expiry timer of an OPEN ticket runs out; a stopped timer does not (R87). -/
def expireTicket (n : Nat) (s : State) : State :=
  match s.approval.find? n with
  | none => s
  | some t =>
    if t.isOpen then
      (s.setApproval (s.approval.finish { t with state := .expired, approvals := 0 })).latch .ticketExpired
    else s

def execTicketExpiry (n : Nat) (s : State) : Host.Outcome State Fault Refusal :=
  .next (if s.powered then expireTicket n s else s)

end Sys2Proof.Machine
end

