-- ==== Sys2Proof/Machine/Commands.lean ====
section
/-!
DEFINITION. The console's station commands BIND, UNBIND, ARM, DISARM, ABORT, CLEAR_HOLD, READ_STATIONS (section 6.4,
6.5, 6.6) and the broadcasts DISARM_ALL and ABORT_ALL (section 6.7).
-/
namespace Sys2Proof.Machine

/-! ## The common form (R119) -/

/-- The outcome of a station command for each member. -/
abbrev Outcomes := List (StationId × AnswerCode)

/-- Per member, in ascending station order: number, outcome, state after the command (R119, R202). -/
def outcomeData (o : Outcomes) (t : State) : List Byte :=
  o.flatMap fun x => [BitVec.ofNat 8 x.1.val, x.2.byte, (t.station x.1).state.code]

/-- A command on a station set: BAD_STATION for an empty set (R119). -/
def withStations (b : Byte) (s : State) (f : List StationId → Reply) : Reply :=
  match stationSet b with
  | [] => reply .badStation s
  | group => f group

/-- The members treated one after the other in ascending order. -/
def treatEach (treat : StationId → State → State × AnswerCode) : List StationId → State → State × Outcomes
  | [], s => (s, [])
  | st :: rest, s =>
    let r := treat st s
    let t := treatEach treat rest r.1
    (t.1, (st, r.2) :: t.2)

/-- The answer of a station command. -/
def memberReply (r : State × Outcomes) : Reply :=
  { state := settleEngine r.1, code := .ok, data := outcomeData r.2 }

/-! ## BIND and UNBIND (R120, R121) -/

def bindMember (i : SlotId) (m : Mode) (st : StationId) (s : State) : State × AnswerCode :=
  let k := s.station st
  match k.state with
  | .unbound => (s.setStation st { k with base := some i, mode := m }.rest, .ok)
  | .bound => (s.setStation st { k with base := some i, mode := m }.rest, .ok)
  | .held => (s, .badState)
  | _ => (s, .busy)

/-- The tests of R120 on the record; none passes. -/
def bindRefusal (a : Option Account) (m : Mode) : Option AnswerCode :=
  match a with
  | none => some .badState
  | some a =>
    if ¬ (a.part.isBase ∧ a.state = .active) then some .badState
    else if ¬ a.has .issue then some .notPermitted
    else if m = .line ∧ ¬ a.has .line then some .notPermitted
    else none

def bind (setByte slotByte modeByte : Byte) (s : State) : Reply :=
  withStations setByte s fun group =>
    withSlot slotByte s fun i =>
      match Mode.ofCode modeByte with
      | none => reply .badValue s
      | some m =>
        let s := check i s
        match bindRefusal (s.account i) m with
        | some code => reply code (settleEngine s)
        | none => memberReply (treatEach (bindMember i m) group s)

def execBind (p : Payload) (s : State) : Host.Outcome State Fault Refusal :=
  .next (consoleCommand Kind.bind p ((threeBytes p).map fun x => bind x.1 x.2.1 x.2.2) s)

def unbindMember (st : StationId) (s : State) : State × AnswerCode :=
  let k := s.station st
  match k.state with
  | .bound => (s.setStation st { k with base := none }.rest, .ok)
  | .unbound => (s, .badState)
  | _ => (s, .busy)

/-- UNBIND reads no record. -/
def unbind (setByte : Byte) (s : State) : Reply :=
  withStations setByte s fun group =>
    let r := treatEach unbindMember group s
    { state := r.1, code := .ok, data := outcomeData r.2 }

def execUnbind (p : Payload) (s : State) : Host.Outcome State Fault Refusal :=
  .next (consoleCommand Kind.unbind p ((oneByte p).map unbind) s)

/-! ## ARM and DISARM (R122, R123) -/

/-- A BOUND member whose base record passed its read-check. -/
def armBound (a : Option Account) (st : StationId) (s : State) : State × AnswerCode :=
  let k := s.station st
  let lacksLine : Bool := match a with | some a => !a.has .line | none => true
  if k.mode = .line ∧ lacksLine = true then (s, .notPermitted)
  else
    let k := { k with armed := true }
    (s.setStation st
      (if k.present then k.greet s.console.settings.identityTimeout else { k with state := .waiting, disarmAfter := false }),
     .ok)

def armMember (st : StationId) (s : State) : State × AnswerCode :=
  let k := s.station st
  match k.state, k.base with
  | .bound, some i =>
    let s := check i s
    if (s.station st).state = .bound then armBound (s.account i) st s else (s, .badState)
  | .waiting, _ => (s, .ok)
  | .bound, none => (s, .badState)
  | .unbound, _ => (s, .badState)
  | .held, _ => (s, .badState)
  | _, _ => (s, .busy)

def arm (setByte : Byte) (s : State) : Reply :=
  withStations setByte s fun group => memberReply (treatEach armMember group s)

def execArm (p : Payload) (s : State) : Host.Outcome State Fault Refusal :=
  .next (consoleCommand Kind.arm p ((oneByte p).map arm) s)

def disarmMember (st : StationId) (s : State) : State × AnswerCode :=
  if (s.station st).state = .unbound then (s, .badState) else (s.modifyStation st (·.disarm), .ok)

/-- DISARM reads no record. -/
def disarm (setByte : Byte) (s : State) : Reply :=
  withStations setByte s fun group =>
    let r := treatEach disarmMember group s
    { state := r.1, code := .ok, data := outcomeData r.2 }

def execDisarm (p : Payload) (s : State) : Host.Outcome State Fault Refusal :=
  .next (consoleCommand Kind.disarm p ((oneByte p).map disarm) s)

/-! ## ABORT (R124, R125) -/

/-- ABORT of a station in a serving state (R124). A STALLED station has left its waiting list by then (R125). -/
def abortStation (st : StationId) (s : State) : State :=
  let k := s.station st
  let s := stopWork st s
  match k.package with
  | some p => surrender (disposalIn k.state) st p (fun s => s.modifyStation st (·.aborted)) s
  | none => s.modifyStation st (·.aborted)

def abortMember (st : StationId) (s : State) : State × AnswerCode :=
  if (s.station st).state.isServing then (abortStation st s, .ok) else (s, .badState)

/-- The STALLED members of a group leave their waiting lists first (R125 step 1). -/
def stalledLeave (group : List StationId) (s : State) : State :=
  group.foldl (fun s st => if (s.station st).state = .stalled then leaveWaitingList st s else s) s

/-- The order of R125: the stations that hold packages in descending order of number, then the others in ascending
station order. -/
def abortOrder (group : List StationId) (s : State) : List StationId :=
  descendingByNumber s group ++ group.filter fun st => (s.station st).package.isNone

/-- The outcomes put back into the order of the group. -/
def inGroupOrder (group : List StationId) (o : Outcomes) : Outcomes :=
  group.filterMap fun st => o.find? (·.1 == st)

def abortGroup (group : List StationId) (s : State) : State × Outcomes :=
  let s := stalledLeave group s
  let r := treatEach abortMember (abortOrder group s) s
  (r.1, inGroupOrder group r.2)

def abort (setByte : Byte) (s : State) : Reply :=
  withStations setByte s fun group => memberReply (abortGroup group s)

def execAbort (p : Payload) (s : State) : Host.Outcome State Fault Refusal :=
  .next (consoleCommand Kind.abort p ((oneByte p).map abort) s)

/-! ## CLEAR_HOLD (R127) -/

def clearHoldMember (conditions : BitVec 5) (st : StationId) (s : State) : State × AnswerCode :=
  let k := s.station st
  if k.state = .held then
    let k := { k with holds := k.holds &&& ~~~ conditions }
    (s.setStation st (if k.holds = 0 then k.rest else k), .ok)
  else (s, .badState)

/-- CLEAR_HOLD reads no record. A condition set that is empty, or with a bit that names no condition, is BAD_VALUE. -/
def clearHold (setByte condByte : Byte) (s : State) : Reply :=
  withStations setByte s fun group =>
    if condByte = 0 ∨ condByte.toNat ≥ 32 then reply .badValue s
    else
      let r := treatEach (clearHoldMember (condByte.setWidth 5)) group s
      { state := r.1, code := .ok, data := outcomeData r.2 }

def execClearHold (p : Payload) (s : State) : Host.Outcome State Fault Refusal :=
  .next (consoleCommand Kind.clearHold p ((twoBytes p).map fun x => clearHold x.1 x.2) s)

/-! ## READ_STATIONS (R128, R201) -/

def readStations (setByte : Byte) (s : State) : Reply :=
  withStations setByte s fun group =>
    if group.length > 6 then reply .badValue s
    else { state := s, code := .ok, data := fun t => group.flatMap fun st => (t.station st).summary st }

def execReadStations (p : Payload) (s : State) : Host.Outcome State Fault Refusal :=
  .next (consoleCommand Kind.readStations p ((oneByte p).map readStations) s)

/-! ## Broadcasts (R129, R185) -/

/-- A broadcast frame feeds supervision whatever its treatment; it is not answered and does not close the receiver. -/
def broadcast (effect : State → State) (s : State) : State := if s.consoleOpen then feed (effect s) else s

/-- DISARM_ALL or ABORT_ALL: taken in OPERATIONAL, discarded without an event in STARTING and TAMPERED; with a payload
it is discarded with LINE_ERROR_CONSOLE (R185). -/
def broadcastCommand (p : Payload) (effect : State → State) : State → State :=
  broadcast fun s =>
    if p ≠ [] then s.latch .lineErrorConsole
    else if s.device = .operational then effect s
    else s

def disarmStations (group : List StationId) (s : State) : State :=
  group.foldl (fun s st => s.modifyStation st (·.disarm)) s

def execDisarmAll (p : Payload) (s : State) : Host.Outcome State Fault Refusal :=
  .next (broadcastCommand p (disarmStations allStations) s)

/-- ABORT_ALL: the serving stations are aborted in the order of R125, the others disarmed (R129). -/
def abortAll (s : State) : State :=
  let serving := allStations.filter fun st => (s.station st).state.isServing
  let others := allStations.filter fun st => !(s.station st).state.isServing
  settleEngine (disarmStations others (abortGroup serving s).1)

def execAbortAll (p : Payload) (s : State) : Host.Outcome State Fault Refusal := .next (broadcastCommand p abortAll s)

/-- A broadcast frame of the wrong kind or length (R185); one of an answer kind is ignored (R178). -/
def execBroadcastDiscard (kind : Byte) (_p : Payload) (s : State) : Host.Outcome State Fault Refusal :=
  .next (if isAnswerKind kind then s else broadcast (·.latch .lineErrorConsole) s)

end Sys2Proof.Machine
end

