-- ==== Sys2Proof/Machine/Custody.lean ====
section
/-!
DEFINITION. The custodian requests of the Assembly Unit, COMPONENT and LINE_STATUS, and the other events of a custodian
line (chapter 3).
-/
namespace Sys2Proof.Machine

/-! ## COMPONENT (R55, R56, R57) -/

/-- The line is in the set. -/
def inLines (l : Line) (set : BitVec 3) : Bool := set &&& lineBit l == lineBit l

/-- Checks 4 to 8 of R55 on the record after its read-check; none is a component that is taken. -/
def componentRefusal (l : Line) (c : ComponentOperands) (a : Option Account) (e : Engine) : Option AnswerCode :=
  match a with
  | none => some .badState
  | some a =>
    match a.assembly with
    | none => some .badState
    | some m =>
      if a.state ≠ .assembling then some .badState
      else if c.component.length ≠ a.keyLength then some .badValue
      else if inLines l (m.contributed ||| m.reserved) then some .duplicateLine
      else if lineCount m.contributed + lineCount m.reserved ≥ a.quorum.toNat then some .quorumMet
      else if e.hasJobOf (.line l) then some .lineBusy
      else none

/-- A change of the assembly part. -/
def Account.mapAssembly (a : Account) (f : Assembly → Assembly) : Account := { a with assembly := a.assembly.map f }

/-- A taken component (R57): the line is reserved, its COMPONENT_CHECK job placed, its last outcome PENDING. -/
def takeComponent (l : Line) (i : SlotId) (c : ComponentOperands) (s : State) : State :=
  let t := s.modifySlot i (·.update (·.mapAssembly fun m => { m with reserved := m.reserved ||| lineBit l }))
  (placeJob (.componentCheck l i c.component c.check) t).modifyLine l fun k =>
    { k with last := { outcome := .pending, slot := i, check := none } }

/-- The checks of R55 in their order. -/
def component (l : Line) (c : ComponentOperands) (s : State) : State × AnswerCode × List Byte :=
  match s.device with
  | .starting _ => (s, .notReady, [])
  | .tampered => (s, .tampered, [])
  | .operational =>
    match slotOf c.slot with
    | none => (s, .badSlot, [])
    | some i =>
      let t := check i s
      match componentRefusal l c (t.account i) t.engine with
      | some code => (settleEngine t, code, [])
      | none => (settleEngine (takeComponent l i c t), .taken, [])

def execComponent (l : Line) (p : Payload) (s : State) : Host.Outcome State Fault Refusal :=
  .next (custodianRequest l Kind.component ((componentOperands p).map (component l)) s)

/-! ## LINE_STATUS (R69) -/

/-- The check value a record in ASSEMBLING lists for a line. -/
def componentCheckOf (l : Line) (a : Option Account) : Option (BitVec 24) :=
  match a with
  | some a =>
    match a.assembly with
    | some m => if a.state = .assembling then (m.checks.find? (·.1 == l)).map (·.2) else none
    | none => none
  | none => none

/-- The check value of the answer, from the line's last outcome as it then stands. -/
def lineStatusCheck (l : Line) (s : State) : Option (BitVec 24) :=
  match (s.line l).last.outcome with
  | .accepted => componentCheckOf l (s.account (s.line l).last.slot)
  | .completed => (s.line l).last.check
  | _ => none

/-- LINE_STATUS is answered OK in every device state. Only an ACCEPTED outcome makes it read its record. When that read
quarantines a record that is no longer ASSEMBLING, or a later ASSEMBLING record of the slot for which the line is neither
reserved nor contributed, R69 and the table of R157 say CANCELLED, while R54, R68 and R161 cancel only the lines reserved or
contributed for an ASSEMBLING record: that the outcome then stays ACCEPTED, with zeros, is in both cases the model's choice
(DESIGN CHOICE, log entry 34). -/
def lineStatus (l : Line) (s : State) : State × AnswerCode × List Byte :=
  let t := if (s.line l).last.outcome = .accepted then settleEngine (check (s.line l).last.slot s) else s
  (t, .ok, [(t.line l).last.outcome.code, BitVec.ofNat 8 (t.line l).last.slot.val] ++
    bytesOfBits 3 ((lineStatusCheck l t).getD 0))

def execLineStatus (l : Line) (p : Payload) (s : State) : Host.Outcome State Fault Refusal :=
  .next (custodianRequest l Kind.lineStatus ((noOperands p).map fun _ => lineStatus l) s)

/-! ## The line itself (R53) -/

/-- A frame the interface discards changes only the receive state and the event set. -/
def execCustodianFrameError (l : Line) (s : State) : Host.Outcome State Fault Refusal :=
  .next
    (if s.powered then (s.modifyLine l fun k => { k with receiver := .hunting }).latch .lineErrorCustodian else s)

/-- The last character of the line's answer has left. -/
def execCustodianAnswerEnd (l : Line) (s : State) : Host.Outcome State Fault Refusal :=
  .next (if s.powered then s.modifyLine l fun k => { k with sending := none } else s)

end Sys2Proof.Machine
end

