-- ==== Sys2Proof/Machine/Dialogue.lean ====
section
/-!
DEFINITION. The events of a station: presence, the terminal's frames, the station timers and the end of a transmission
(chapter 7).
-/
namespace Sys2Proof.Machine

/-! ## Presence (R135, R138, R150) -/

/-- PRESENT: the field follows the sense in every state; in OPERATIONAL a WAITING station greets the terminal. Presence
events alternate, so a PRESENT of a present terminal changes nothing (log entry 8). -/
def execPresent (st : StationId) (s : State) : Host.Outcome State Fault Refusal :=
  .next
    (if s.powered ∧ (s.station st).present = false then
      s.modifyStation st fun k =>
        let k := { k with present := true }
        if s.device = .operational ∧ k.state = .waiting then k.greet s.console.settings.identityTimeout else k
     else s)

/-- The terminal's removal ends the work on its package: the job or transmission stops, the number is disposed of by
R43, the terminal ends (R150). -/
def removePackage (st : StationId) (s : State) : State :=
  let k := s.station st
  let t := stopWork st s
  settleEngine (match k.package with
    | some p => surrender (disposalIn k.state) st p (fun s => s.modifyStation st (·.endTerminal)) t
    | none => t.modifyStation st (·.endTerminal))

/-- ABSENT in OPERATIONAL, by the state of the station (R150). -/
def removeTerminal (st : StationId) (s : State) : State :=
  match (s.station st).state with
  | .unbound => s
  | .bound => s
  | .waiting => s
  | .identifying => s.modifyStation st fun k => k.silence.endTerminal
  | .stalled => (leaveWaitingList st s).modifyStation st (·.endTerminal)
  | .preparing => removePackage st s
  | .sending => removePackage st s
  | .awaitingReceipt => removePackage st s
  | .departing => s.modifyStation st fun k => k.silence.endTerminal
  | .held => s.modifyStation st (·.silence)

def execAbsent (st : StationId) (s : State) : Host.Outcome State Fault Refusal :=
  .next
    (if s.powered ∧ (s.station st).present = true then
      let t := s.modifyStation st fun k => { k with present := false }
      if s.device = .operational then removeTerminal st t else t
     else s)

/-! ## IDENTITY (R140, R141, R142) -/

/-- Checks 1 and 2 of R140. -/
def unsuited (t : TerminalId) (a : Account) : Bool := t.model == 0 || (a.keyLength == .bytes32 && !t.supports32)

/-- A terminal the station cannot serve (R140): CLOSE(NOT_SERVED), DEPARTING, no hold. -/
def dismissTerminal (e : Event) (st : StationId) (s : State) : State :=
  (s.modifyStation st fun k => (k.close .notServed).depart).latch e

/-- A stall (R44): the station joins the back of the waiting list. -/
def stallStation (i : SlotId) (st : StationId) (s : State) : State :=
  ((s.modifySlot i fun sl => { sl with waiting := sl.waiting ++ [st] }).modifyStation st fun k =>
    { k with state := .stalled }).latch .windowStall

/-- The take at IDENTITY, its transport chosen (R142). -/
def takeAtIdentity (i : SlotId) (st : StationId) (p : Protection) (s : State) : State :=
  match s.account i with
  | none => refuseService .noNumber st s
  | some a =>
    match a.issuance with
    | none => refuseService .noNumber st s
    | some iss =>
      match a.takeVerdict iss with
      | .noNumber => refuseService .noNumber st s
      | .stall => stallStation i st s
      | .number => takeNumber i st p a iss s

/-- The lookup and what follows (R141, R142). -/
def serveTerminal (i : SlotId) (st : StationId) (t : TerminalId) (s : State) : State :=
  let r := transportLookup quarantine [] i t s
  match r.2 with
  | .noTransport => refuseService .noTransport st r.1
  | p => takeAtIdentity i st p r.1

/-- A taken IDENTITY (R140). A base record that fails its read-check has taken the station out of IDENTIFYING by R130,
and the IDENTITY goes no further. -/
def takeIdentity (st : StationId) (t : TerminalId) (s : State) : State :=
  let s1 := s.modifyStation st fun k => { k with timer := .stopped, identity := some t }
  match (s.station st).base with
  | none => s1
  | some i =>
    let s2 := check i s1
    if (s2.station st).state = .identifying then
      match s2.account i with
      | none => s2
      | some a =>
        settleEngine (if unsuited t a then dismissTerminal .terminalUnsuited st s2 else serveTerminal i st t s2)
    else settleEngine s2

def execIdentity (st : StationId) (p : Payload) (s : State) : Host.Outcome State Fault Refusal :=
  .next (terminalFrame st .identifying (identityOperands p) (takeIdentity st) s)

/-! ## RECEIPT and REFUSE (R146, R148) -/

/-- The station's timer stops. -/
def stopTimer (st : StationId) (s : State) : State := s.modifyStation st fun k => { k with timer := .stopped }

/-- The receipt agrees with the package. -/
def Package.matchedBy (p : Package) (r : BitVec 64 × BitVec 24) : Bool := p.ksi == r.1 && p.expected == some r.2

/-- A number confirmed: CLOSE(ACCEPTED), DEPARTING. -/
def acceptReceipt (st : StationId) (s : State) : State := s.modifyStation st fun k => (k.close .accepted).depart

/-- A number voided at the end of a dialogue that holds the station: CLOSE(VOIDED), HELD. -/
def voidAndHold (c : HoldCondition) (st : StationId) (s : State) : State := hold c st (placeClose .voided st s)

def takeReceipt (st : StationId) (r : BitVec 64 × BitVec 24) (s : State) : State :=
  let t := stopTimer st s
  match (s.station st).package with
  | none => t
  | some p =>
    settleEngine
      (if p.matchedBy r then surrender .confirm st p (acceptReceipt st) t
       else surrender .void st p (voidAndHold .receiptMismatch st) t)

def execReceipt (st : StationId) (p : Payload) (s : State) : Host.Outcome State Fault Refusal :=
  .next (terminalFrame st .awaitingReceipt (receiptOperands p) (takeReceipt st) s)

/-- A terminal that declines its key: CLOSE(VOIDED), DEPARTING, TERMINAL_REFUSED. -/
def acceptRefusal (st : StationId) (s : State) : State :=
  (s.modifyStation st fun k => (k.close .voided).depart).latch .terminalRefused

def takeRefusal (st : StationId) (s : State) : State :=
  let t := stopTimer st s
  match (s.station st).package with
  | none => t
  | some p => settleEngine (surrender .void st p (acceptRefusal st) t)

/-- The reason code is not examined (R148). -/
def execRefuse (st : StationId) (p : Payload) (s : State) : Host.Outcome State Fault Refusal :=
  .next (terminalFrame st .awaitingReceipt (oneByte p) (fun _ => takeRefusal st) s)

/-! ## Discarded frames (R137) -/

/-- In OPERATIONAL the discard latches LINE_ERROR_STATION; in STARTING and TAMPERED it causes no event. -/
def execStationFrameError (st : StationId) (s : State) : Host.Outcome State Fault Refusal :=
  .next
    (if s.powered then
      let t := s.modifyStation st fun k => { k with receiver := .hunting }
      if s.device = .operational then t.latch .lineErrorStation else t
     else s)

/-! ## The station timers (R139, R147) -/

/-- The identity timer of a station runs. -/
def StationTimer.isIdentity : StationTimer → Bool
  | .identity _ => true
  | _ => false

/-- The receipt timer of a station runs. -/
def StationTimer.isReceipt : StationTimer → Bool
  | .receipt _ => true
  | _ => false

def execIdentityTimerExpiry (st : StationId) (s : State) : Host.Outcome State Fault Refusal :=
  .next
    (if s.powered ∧ (s.station st).state = .identifying ∧ (s.station st).timer.isIdentity then
      dismissTerminal .identityTimeout st s
     else s)

/-- The receipt timer runs out: the number is voided and the station held (R147). -/
def expireReceipt (st : StationId) (s : State) : State :=
  let t := stopTimer st s
  match (s.station st).package with
  | none => t
  | some p => settleEngine (surrender .void st p (voidAndHold .receiptTimeout st) t)

def execReceiptTimerExpiry (st : StationId) (s : State) : Host.Outcome State Fault Refusal :=
  .next
    (if s.powered ∧ (s.station st).state = .awaitingReceipt ∧ (s.station st).timer.isReceipt then expireReceipt st s
     else s)

/-! ## The ends of transmissions (R136, R145) -/

/-- The PACKAGE at the front has been sent: its key is wiped with the frame, the receipt timer starts. -/
def packageSent (timeout : Nat) (k : Station) : Station :=
  match k.state, k.transmitter with
  | .sending, .package .. :: rest =>
    { k with state := .awaitingReceipt, transmitter := rest, timer := .receipt (timeout * 1000) }
  | _, _ => k

def execEndOfTransmission (st : StationId) (s : State) : Host.Outcome State Fault Refusal :=
  .next (if s.powered then s.modifyStation st (packageSent s.console.settings.receiptTimeout) else s)

/-- The HELLO or CLOSE at the front has been sent; the next frame, if any, begins. -/
def frameSent (k : Station) : Station :=
  match k.transmitter with
  | .hello :: rest => { k with transmitter := rest }
  | .close _ :: rest => { k with transmitter := rest }
  | _ => k

def execStationFrameSent (st : StationId) (s : State) : Host.Outcome State Fault Refusal :=
  .next (if s.powered then s.modifyStation st frameSent else s)

end Sys2Proof.Machine
end

