-- ==== Sys2Proof/Machine/Integrity.lean ====
section
/-!
DEFINITION. The events of the Integrity Checker: storage errors (R156), the sweep (R158) and the completion of the
start-up check (R163, R176).
-/
namespace Sys2Proof.Machine

/-! ## Storage errors (R156) -/

/-- Stored words altered in place. -/
def alterWords (words : List Word32) (changes : List (Nat × Word32)) : List Word32 :=
  changes.foldl (fun l c => l.set c.1 c.2) words

/-- The error reaches a record in use in any state, with or without main power, and changes nothing but stored words. -/
def execStorageError (i : SlotId) (changes : List (Nat × Word32)) (s : State) : Host.Outcome State Fault Refusal :=
  .next
    (s.modifySlot i fun sl =>
      match sl.account with
      | none => sl
      | some _ => { sl with words := alterWords sl.words changes })

/-! ## The sweep (R158) -/

/-- The slots in the order the sweep looks at them from a position: the next slot first, the position itself last. -/
def sweepOrder (position : SlotId) : List SlotId := (List.range 192).map fun k => Fin.ofNat 192 (position.val + 1 + k)

/-- The first record in use after the sweep position. -/
def sweepTarget (s : State) : Option SlotId := (sweepOrder s.checker.sweepPosition).find? fun i => (s.account i).isSome

/-- The sweep timer runs out: it starts again with the setting as it stands, and the next record is read-checked. -/
def sweep (s : State) : State :=
  match sweepTarget s with
  | none => s.setChecker { s.checker with sweepTimer := some s.console.settings.sweepPeriod }
  | some i =>
    settleEngine (check i (s.setChecker { sweepPosition := i, sweepTimer := some s.console.settings.sweepPeriod }))

/-- A stopped sweep timer does not run out. -/
def execSweepTimerExpiry (s : State) : Host.Outcome State Fault Refusal :=
  .next (if s.powered ∧ s.checker.sweepTimer.isSome then sweep s else s)

/-! ## The start-up check (R163, R176) -/

/-- The read-checks of the listed slots in turn. -/
def checkSlots (slots : List SlotId) (s : State) : State := slots.foldl (fun s i => check i s) s

/-- The slots the start-up check has still to pass. -/
def slotsLeft (nextSlot : Nat) : List SlotId := allSlots.filter fun i => nextSlot ≤ i.val

/-- The completion (R163, R176): the slots not yet passed are checked, the outstanding numbers are voided (R51; the words of
a record altered after its pass: log entry 32), the sweep timer starts with the position at 191, the device becomes OPERATIONAL. -/
def completeStartUp (nextSlot : Nat) (s : State) : State :=
  let t := settleEngine (checkSlots (slotsLeft nextSlot) s)
  ({ t with table := t.table.map Slot.startUpVoid }.setChecker
    { sweepPosition := 191, sweepTimer := some t.console.settings.sweepPeriod }).setDevice .operational

def execStartUpCheckCompletion (s : State) : Host.Outcome State Fault Refusal :=
  .next
    (if s.powered then
      match s.device with
      | .starting nextSlot => completeStartUp nextSlot s
      | _ => s
     else s)

end Sys2Proof.Machine
end

