-- ==== Sys2Proof/Machine/Jobs.lean ====
section
/-!
DEFINITION. The completions of the engine's jobs (R106): component check (R59 to R63), key check (R64), package (R108,
R144), verify (R110), and the job marked discard (R107).
-/
namespace Sys2Proof.Machine

/-- A held job of the kind that `delivery` takes completes: the engine is free, its owner applies the result, and the
engine chooses again (R106). The completion of a kind that is not in service changes nothing (log entry 8). -/
def completion (delivery : Job → Copies → Option (State → State)) (s : State) : State :=
  if s.powered then
    match s.engine.held? with
    | none => s
    | some v =>
      match delivery v.job v.copies with
      | none => s
      | some apply => settleEngine (apply (freeEngine s))
  else s

/-! ## The component check (R59, R60, R61) -/

/-- The account of a record that accepts a component (R60). -/
def Account.acceptComponent (a : Account) (l : Line) (check : BitVec 24) : Account :=
  a.mapAssembly fun m =>
    { contributed := m.contributed ||| lineBit l, reserved := m.reserved &&& ~~~ lineBit l,
      checks := m.checks ++ [(l, check)] }

/-- The account of a record that drops a refused component (R61). -/
def Account.refuseComponent (a : Account) (l : Line) : Account :=
  a.mapAssembly fun m => { m with reserved := m.reserved &&& ~~~ lineBit l }

/-- The contributed lines number the quorum. -/
def Account.quorumReached (a : Account) : Bool :=
  match a.assembly with
  | some m => lineCount m.contributed == a.quorum.toNat
  | none => false

/-- A matching component is combined into the accumulator; the quorum sets the key check in motion (R60, R63). -/
def acceptComponent (l : Line) (i : SlotId) (k : Key) (a : Account) (s : State) : State :=
  let b := a.acceptComponent l (checkValue k)
  let t := setOutcome l i .accepted none
    (s.modifySlot i fun sl => sl.write b (sl.secret.map (·.xor k)))
  if b.quorumReached then placeJob (.keyCheck l i) t else t

/-- A component whose check value differs (R61). -/
def refuseComponent (l : Line) (i : SlotId) (a : Account) (s : State) : State :=
  (setOutcome l i .checkMismatch none
    (s.modifySlot i fun sl => sl.write (a.refuseComponent l) sl.secret)).latch .componentRefused

/-- The result of a component check, applied to a record in ASSEMBLING that holds the line reserved (R59). -/
def applyComponentCheck (l : Line) (i : SlotId) (k : Key) (carried : BitVec 24) (s : State) : State :=
  let t := check i s
  match t.account i with
  | none => t
  | some a =>
    match a.assembly with
    | none => t
    | some m =>
      if a.state = .assembling ∧ inLines l m.reserved then
        if checkValue k = carried then acceptComponent l i k a t else refuseComponent l i a t
      else t

def execComponentCheckDone (s : State) : Host.Outcome State Fault Refusal :=
  .next (completion
    (fun j _ => match j with
      | .componentCheck l i k c => some (applyComponentCheck l i k c)
      | _ => none) s)

/-! ## The key check (R64) -/

def applyKeyCheck (l : Line) (i : SlotId) (acc : Key) (s : State) : State :=
  let t := check i s
  if (t.slot i).recordState = some .assembling then
    (setOutcome l i .completed (some (checkValue acc)) (t.modifySlot i (·.complete acc))).latch .assemblyComplete
  else t

def execKeyCheckDone (s : State) : Host.Outcome State Fault Refusal :=
  .next (completion
    (fun j c => match j, c with
      | .keyCheck l i, .accumulator acc => some (applyKeyCheck l i acc)
      | _, _ => none) s)

/-! ## The package (R108, R144) -/

/-- The PACKAGE frame of a completed job and the check value of its derived key (R108). -/
def packageResult (n : Nat) (ksi serial : BitVec 64) (base : Key) (tag : BitVec 32) (usage : Byte)
    (transport : Option (Key × BitVec 24)) : StationFrame × BitVec 24 :=
  let k := derivedKey base tag usage n serial
  match transport with
  | some (t, tcv) => (.package ksi (wrapKey t ksi serial k) tcv .wrapped, checkValue k)
  | none => (.package ksi k 0 .clear, checkValue k)

/-- The station in PREPARING takes its package's result and enters SENDING (R144). -/
def applyPackage (st : StationId) (r : StationFrame × BitVec 24) (s : State) : State :=
  s.modifyStation st fun k =>
    match k.package with
    | some p =>
      if k.state = .preparing then
        { k with
          state := .sending, package := some { p with expected := some r.2 },
          transmitter := placeFrame r.1 k.transmitter }
      else k
    | none => k

def execPackageJobDone (s : State) : Host.Outcome State Fault Refusal :=
  .next (completion
    (fun j c => match j, c with
      | .package st _ n ksi serial _, .packageKeys base tag usage transport =>
        some (applyPackage st (packageResult n ksi serial base tag usage transport))
      | _, _ => none) s)

/-! ## The verification (R110) -/

/-- The outcome at completion, from the record as its read-check left it. The job is no longer held, so the quarantine of
a MISMATCH finds no VERIFY to abandon. -/
def applyVerify (i : SlotId) (key : Key) (s : State) : State :=
  let t := check i s
  match t.account i with
  | none => endVerify .abandoned i t
  | some a =>
    if a.state.isLive then
      if a.checkValue = some (checkValue key) then endVerify .matched i t
      else quarantine [] i (endVerify .mismatch i t)
    else endVerify .abandoned i t

def execVerifyJobDone (s : State) : Host.Outcome State Fault Refusal :=
  .next (completion
    (fun j c => match j, c with
      | .verify i, .stored key _ => some (applyVerify i key)
      | _, _ => none) s)

/-! ## The job marked discard (R107) -/

def execDiscardedJobDone (s : State) : Host.Outcome State Fault Refusal :=
  .next
    (if s.powered then
      match s.engine.service with
      | some v => if v.discard then settleEngine (freeEngine s) else s
      | none => s
     else s)

end Sys2Proof.Machine
end

