-- ==== Sys2Proof/Machine/Link.lean ====
section
/-!
DEFINITION. The console commands of the Console Link and the Event Unit: STATUS, READ_EVENTS, SET_ALERT_MASK,
READ_SETTINGS, SET_SETTINGS, ACK_RESTART, RESTART, UNKNOWN_COMMAND; the console frame error and the supervision lapse
(chapters 10 and 11, R174, R177).
-/
namespace Sys2Proof.Machine

/-! ## STATUS (R184) -/

/-- The time left on the supervision timer in whole seconds, rounded up; 0 unless RUNNING. -/
def Supervision.secondsLeft : Supervision → Nat
  | .running left => secondsUp left
  | _ => 0

/-- The data of STATUS (R184, R202). R204 codes no tamper latch: the byte is 1 for set and 0 for clear, as its one-bit flags
are (DESIGN CHOICE, log entry 33). -/
def statusData (t : State) : List Byte :=
  [t.console.unitAddress.setWidth 8, (if t.tamper.latch then 1 else 0), t.tamper.cause.setWidth 8, t.tamper.band.code,
   t.console.lastVerify.code, BitVec.ofNat 8 t.console.lastVerifySlot.val, t.console.supervision.code] ++
    bytesOfNat 2 t.console.supervision.secondsLeft ++ [BitVec.ofNat 8 (heldCount t)]

def execStatus (p : Payload) (s : State) : Host.Outcome State Fault Refusal :=
  .next (consoleCommand Kind.status p
    ((noOperands p).map fun _ s => { state := s, code := .ok, data := statusData }) s)

/-! ## Events and the alert mask (R191, R192) -/

def readEvents (s : State) : Reply :=
  { state := s.setEvents { s.events with latched := 0 }, code := .ok, data := fun _ => eventBytes s.events.latched }

def execReadEvents (p : Payload) (s : State) : Host.Outcome State Fault Refusal :=
  .next (consoleCommand Kind.readEvents p ((noOperands p).map fun _ => readEvents) s)

/-- SET_ALERT_MASK replaces the mask; bits that name no event are dropped (CLAMPED). -/
def setAlertMask (carried : Nat) (s : State) : Reply :=
  let mask : BitVec 19 := BitVec.ofNat 19 carried
  { state := s.setEvents { s.events with mask := mask }
    code := if mask.toNat = carried then .ok else .clamped
    data := fun _ => eventBytes mask }

def execSetAlertMask (p : Payload) (s : State) : Host.Outcome State Fault Refusal :=
  .next (consoleCommand Kind.setAlertMask p ((exactly 4 p).map fun p => setAlertMask (natOfBytes p)) s)

/-! ## Settings (R194, R195, R196) -/

/-- A value raised to the lowest or lowered to the highest of its range. -/
def clamp (lo hi v : Nat) : Nat := max lo (min hi v)

/-- The clamping of R195. -/
def Settings.clamped (x : Settings) : Settings :=
  { identityTimeout := clamp 1 10 x.identityTimeout
    receiptTimeout := clamp 1 30 x.receiptTimeout
    approvalWindow := clamp 30 600 x.approvalWindow
    supervisionPeriod := if x.supervisionPeriod = 0 then 0 else clamp 10 600 x.supervisionPeriod
    sweepPeriod := clamp 20 2000 x.sweepPeriod
    allowanceLow := x.allowanceLow }

def setSettings (carried : Settings) (s : State) : Reply :=
  { state := s.setConsole { s.console with settings := carried.clamped }
    code := if carried.clamped = carried then .ok else .clamped
    data := fun _ => carried.clamped.bytes }

def execSetSettings (p : Payload) (s : State) : Host.Outcome State Fault Refusal :=
  .next (consoleCommand Kind.setSettings p ((settingsOperands p).map setSettings) s)

def readSettings (s : State) : Reply :=
  { state := s, code := .ok, data := fun t => t.console.settings.bytes ++ eventBytes t.events.mask }

def execReadSettings (p : Payload) (s : State) : Host.Outcome State Fault Refusal :=
  .next (consoleCommand Kind.readSettings p ((noOperands p).map fun _ => readSettings) s)

/-! ## ACK_RESTART and RESTART (R177, R174) -/

def ackRestart (s : State) : Reply := reply .ok (s.setEvents { s.events with restartIndication := false })

def execAckRestart (p : Payload) (s : State) : Host.Outcome State Fault Refusal :=
  .next (consoleCommand Kind.ackRestart p ((noOperands p).map fun _ => ackRestart) s)

/-- An accepted RESTART is answered OK and changes nothing else; its restart event comes at the end of that answer
(R174), see `ConsoleAnswer.restarts`. -/
def execRestart (p : Payload) (s : State) : Host.Outcome State Fault Refusal :=
  .next (consoleCommand Kind.restart p ((noOperands p).map fun _ => reply .ok) s)

/-- The answer is that of an accepted RESTART (R174). -/
def ConsoleAnswer.restarts (a : ConsoleAnswer) : Bool := a.kind == answerKind Kind.restart && a.code == .ok

/-! ## Frames that are no command -/

/-- An addressed frame whose KIND names no console command is answered UNKNOWN_COMMAND and feeds supervision (R180 check
1); one of an answer kind is ignored (R178). A KIND that names a console command is not this event. -/
def execUnknownCommand (kind : Byte) (_p : Payload) (s : State) : Host.Outcome State Fault Refusal :=
  .next
    (if isAnswerKind kind ∨ kind ∈ consoleKinds then s
     else if s.takesCommand then deliver kind (reply .unknownCommand s)
     else s)

/-- A frame that failed the receive rules is discarded and LINE_ERROR_CONSOLE latched; nothing is received while the
receiver is CLOSED (R179, R199). -/
def execConsoleFrameError (s : State) : Host.Outcome State Fault Refusal :=
  .next
    (if s.consoleOpen then (s.setConsole { s.console with receiver := .hunting }).latch .lineErrorConsole else s)

/-! ## The supervision lapse (R187, R132) -/

def lapse (s : State) : State :=
  let t := (s.setConsole { s.console with supervision := .lapsed }).latch .supervisionLapsed
  allStations.foldl (fun s st => s.modifyStation st (·.stopLine)) t

/-- The supervision timer runs out; a stopped timer does not. -/
def execSupervisionLapse (s : State) : Host.Outcome State Fault Refusal :=
  .next
    (if s.powered then
      match s.console.supervision with
      | .running _ => lapse s
      | _ => s
     else s)

end Sys2Proof.Machine
end

