-- ==== Sys2Proof/Machine/Records.lean ====
section
/-!
DEFINITION. The console commands on records: READ_RECORDS, FIND_LABEL, FIND_MODEL, CREATE, CANCEL_ASSEMBLY, NARROW,
SUSPEND, RESUME, RETIRE, RELEASE, VERIFY (chapters 1, 3 and 5).
-/
namespace Sys2Proof.Machine

/-! ## READ_RECORDS (R24) -/

/-- The count delivered (R24): 0 is taken as 1, at most 3, and no slot past 191. -/
def countDelivered (first : SlotId) (count : Nat) : Nat := min (min (max count 1) 3) (192 - first.val)

/-- One summary for each slot in turn, each record in use read-checked first. -/
def summariseSlots : List SlotId → State → State × List Byte
  | [], s => (s, [])
  | i :: rest, s =>
    let s := check i s
    let r := summariseSlots rest s
    (r.1, (s.slot i).summary i ++ r.2)

/-- `n` consecutive slots from `first`, within the table. -/
def slotsFrom (first : SlotId) (n : Nat) : List SlotId := (allSlots.drop first.val).take n

def readRecords (firstByte count : Byte) (s : State) : Reply :=
  withSlot firstByte s fun first =>
    let n := countDelivered first count.toNat
    let r := summariseSlots (slotsFrom first n) s
    { state := settleEngine r.1, code := if n = count.toNat then .ok else .clamped,
      data := fun _ => BitVec.ofNat 8 n :: r.2 }

def execReadRecords (p : Payload) (s : State) : Host.Outcome State Fault Refusal :=
  .next (consoleCommand Kind.readRecords p ((twoBytes p).map fun x => readRecords x.1 x.2) s)

/-! ## FIND_LABEL and FIND_MODEL (R12, R13) -/

/-- A search of the table as a whole event's work. -/
def findRecord (found : Account → Bool) (data : SlotId → State → List Byte) (s : State) : Reply :=
  let r := search found s
  match r.2 with
  | some i => { state := settleEngine r.1, code := .ok, data := data i }
  | none => reply .notFound (settleEngine r.1)

def findLabel (label : List Byte) (s : State) : Reply :=
  if labelValid label then findRecord (fun a => a.label == BitVec.ofNat 64 (natOfBytes label)) slotAndState s
  else reply .badValue s

def execFindLabel (p : Payload) (s : State) : Host.Outcome State Fault Refusal :=
  .next (consoleCommand Kind.findLabel p ((exactly 8 p).map findLabel) s)

def findModel (hi lo : Byte) (s : State) : Reply :=
  let model : BitVec 16 := BitVec.ofNat 16 (natOfBytes [hi, lo])
  if model = 0 then reply .badValue s
  else findRecord (servesModel model) (fun i _ => [BitVec.ofNat 8 i.val]) s

def execFindModel (p : Payload) (s : State) : Host.Outcome State Fault Refusal :=
  .next (consoleCommand Kind.findModel p ((twoBytes p).map fun x => findModel x.1 x.2) s)

/-! ## CREATE (R14, R15, R16) -/

/-- Checks 2 to 4 of R14: the class part to store, with key length and quorum; none is BAD_VALUE. -/
def createPart (c : CreateOperands) : Option (KeyLength × Quorum × ClassPart) :=
  match keyLengthOf c.keyLength, quorumOf c.quorum with
  | some k, some q =>
    if labelValid c.label then
      if c.cls = 1 then
        let iss := c.issuance
        if iss.first > iss.last ∨ iss.last > Config.lastNumber ∨ iss.usage = 0 ∨ iss.usage = 0xFF then none
        else some (k, q, .base iss)
      else if c.cls = 2 then
        if c.model = 0 then none else some (k, q, .transport c.model)
      else none
    else none
  | _, _ => none

/-- A TRANSPORT record that holds the model class (R10, R14 check 7). -/
def holdsModelClass (model : BitVec 16) (a : Account) : Bool := a.state.holdsModel && a.isTransportOf model

/-- Check 7 of R14: the search for the model class, for TRANSPORT only. -/
def modelSearch (part : ClassPart) (s : State) : State × Option SlotId :=
  match part with
  | .base _ => (s, none)
  | .transport m => search (holdsModelClass m) s

/-- A CREATE whose operands passed checks 1 to 4. -/
def createRecord (i : SlotId) (c : CreateOperands) (k : KeyLength) (q : Quorum) (part : ClassPart) (s : State) : Reply :=
  if (s.account i).isSome then reply .badState s
  else
    let label : BitVec 64 := BitVec.ofNat 64 (natOfBytes c.label)
    let r := search (fun a => a.label == label) s
    if r.2.isSome then reply .labelInUse (settleEngine r.1)
    else
      let m := modelSearch part r.1
      if m.2.isSome then reply .modelInUse (settleEngine m.1)
      else
        let stored := c.permissions.setWidth 4 &&& part.validFlags
        { state := settleEngine (m.1.setSlot i (newRecord label k q stored part))
          code := if stored.setWidth 8 = c.permissions then .ok else .clamped
          data := fun _ => [BitVec.ofNat 8 i.val, stored.setWidth 8] }

def create (c : CreateOperands) (s : State) : Reply :=
  withSlot c.slot s fun i =>
    match createPart c with
    | none => reply .badValue s
    | some (k, q, part) => createRecord i c k q part s

def execCreate (p : Payload) (s : State) : Host.Outcome State Fault Refusal :=
  .next (consoleCommand Kind.create p ((createOperands p).map create) s)

/-! ## CANCEL_ASSEMBLY (R66) -/

/-- The custodian jobs for the slot are abandoned, the record is emptied, its lines are CANCELLED. -/
def cancelAssembly (b : Byte) (s : State) : Reply :=
  withSlot b s fun i =>
    let s := check i s
    match s.account i with
    | none => reply .badState (settleEngine s)
    | some a =>
      if a.state = .assembling then
        reply .ok (settleEngine (cancelLines a.involvedLines i
          ((abandonJobs (Job.isCustodianFor i) s).setSlot i Slot.empty)))
      else reply .badState (settleEngine s)

def execCancelAssembly (p : Payload) (s : State) : Host.Outcome State Fault Refusal :=
  .next (consoleCommand Kind.cancelAssembly p ((oneByte p).map cancelAssembly) s)

/-! ## NARROW (R17, R18) -/

/-- NARROW removed LINE: the stations bound to the record in LINE mode are told (R18). -/
def tellLineStations (i : SlotId) (s : State) : State :=
  (boundTo i s).foldl (fun s st => s.modifyStation st (·.stopLine)) s

def narrow (b mask : Byte) (s : State) : Reply :=
  withSlot b s fun i =>
    let s := check i s
    match s.account i with
    | none => reply .badState (settleEngine s)
    | some a =>
      if a.state.isLive then
        let stored := a.permissions &&& mask.setWidth 4
        let t := s.modifySlot i (·.update fun a => { a with permissions := stored })
        let t := if a.has .line ∧ ¬ Permission.line.isIn stored then tellLineStations i t else t
        { state := settleEngine t, code := .ok, data := fun _ => [stored.setWidth 8] }
      else reply .badState (settleEngine s)

def execNarrow (p : Payload) (s : State) : Host.Outcome State Fault Refusal :=
  .next (consoleCommand Kind.narrow p ((twoBytes p).map fun x => narrow x.1 x.2) s)

/-! ## SUSPEND and RESUME (R20, R21) -/

/-- The record goes from one state to another with all its fields kept; BAD_STATE in any other state. -/
def moveRecord (i : SlotId) (source target : RecordState) (s : State) : Reply :=
  let s := check i s
  if (s.slot i).recordState = some source then
    { state := settleEngine (s.modifySlot i (·.update fun a => { a with state := target })), code := .ok,
      data := slotAndState i }
  else reply .badState (settleEngine s)

def execSuspend (p : Payload) (s : State) : Host.Outcome State Fault Refusal :=
  .next (consoleCommand Kind.suspend p
    ((oneByte p).map fun b s => withSlot b s fun i => moveRecord i .active .suspended s) s)

def execResume (p : Payload) (s : State) : Host.Outcome State Fault Refusal :=
  .next (consoleCommand Kind.resume p
    ((oneByte p).map fun b s => withSlot b s fun i => moveRecord i .suspended .active s) s)

/-! ## RETIRE and RELEASE (R22, R23) -/

/-- A station depends on the record: bound to it, or holding a package that names it (R22). -/
def Station.dependsOn (k : Station) (i : SlotId) : Bool :=
  k.base == some i || (match k.package with
    | some p => p.base == i || p.transport == some i
    | none => false)

/-- Condition 2 of R22. -/
def recordBusy (i : SlotId) (a : Account) (s : State) : Bool :=
  allStations.any (fun st => (s.station st).dependsOn i) ||
    (match a.part with
     | .base iss => iss.outstanding != 0
     | .transport _ => false)

def retire (b : Byte) (s : State) : Reply :=
  withSlot b s fun i =>
    let s := check i s
    match s.account i with
    | none => reply .badState (settleEngine s)
    | some a =>
      if a.state.isLive then
        if recordBusy i a s then reply .busy (settleEngine s)
        else { state := settleEngine (s.modifySlot i Slot.retire), code := .ok, data := slotAndState i }
      else reply .badState (settleEngine s)

def execRetire (p : Payload) (s : State) : Host.Outcome State Fault Refusal :=
  .next (consoleCommand Kind.retire p ((oneByte p).map retire) s)

def release (b : Byte) (s : State) : Reply :=
  withSlot b s fun i =>
    let s := check i s
    if (s.slot i).recordState = some .retired then
      if s.engine.verifies i then reply .busy (settleEngine s)
      else
        { state := settleEngine (failTicketsOn i (s.setSlot i Slot.empty)), code := .ok, data := slotAndState i }
    else reply .badState (settleEngine s)

def execRelease (p : Payload) (s : State) : Host.Outcome State Fault Refusal :=
  .next (consoleCommand Kind.release p ((oneByte p).map release) s)

/-! ## VERIFY (R109) -/

def verify (b : Byte) (s : State) : Reply :=
  withSlot b s fun i =>
    if s.engine.hasJobOf .console then reply .enginePending s
    else
      let s := check i s
      match s.account i with
      | none => reply .badState (settleEngine s)
      | some a =>
        if a.state.isLive then
          reply .ok (settleEngine (placeJob (.verify i) (s.setConsole { s.console with verifyPending := true })))
        else reply .badState (settleEngine s)

def execVerify (p : Payload) (s : State) : Host.Outcome State Fault Refusal :=
  .next (consoleCommand Kind.verify p ((oneByte p).map verify) s)

end Sys2Proof.Machine
end

