-- ==== Sys2Proof/Machine/Tamper.lean ====
section
/-!
DEFINITION. Zeroization, the tamper inputs, the temperature band, power and the restart event (chapter 9), with the end
of the console answer, which makes the restart event of an accepted RESTART.
-/
namespace Sys2Proof.Machine

/-! ## Zeroization (R169) -/

/-- Every record EMPTY (R27). -/
def emptyTable (s : State) : State := { s with table := Vector.replicate 192 Slot.empty }

/-- A station after zeroization (R134): presence follows the sense, all else is cleared. -/
def Station.zeroized (k : Station) : Station := Station.cleared k.present

/-- A custodian line after zeroization (R71): an answer being sent is sent to its end (R53). -/
def CustodianLine.zeroized (k : CustodianLine) : CustodianLine :=
  { receiver := .hunting, sending := k.sending, last := LastOutcome.initial }

/-- The engine after zeroization (R112). -/
def Engine.zeroized (e : Engine) : Engine :=
  { queue := [], service := e.service.map (fun v => { v with discard := true }), lastServed := 7 }

/-- Zeroization, block by block (the table of R169). Settings, events, mask, restart indication, console receiver and
supervision are kept. -/
def zeroize (s : State) : State :=
  { emptyTable s with
    approval := { tickets := [], finished := [], counter := s.approval.counter }
    engine := s.engine.zeroized
    stations := s.stations.map Station.zeroized
    lines := s.lines.map CustodianLine.zeroized
    checker := { sweepPosition := 191, sweepTimer := none }
    console := { s.console with lastVerify := .none, lastVerifySlot := 0, verifyPending := false } }

/-! ## Tamper causes (R168, R171, R173) -/

/-- The latch is set and the inputs join the cause. -/
def setLatch (inputs : BitVec 3) (s : State) : State :=
  s.setTamper { s.tamper with latch := true, cause := s.tamper.cause ||| inputs }

/-- A tamper cause: with main power, R168 in full; from the battery, the latch, the cause and the emptied records
alone (R173). -/
def tamper (inputs : BitVec 3) (s : State) : State :=
  if s.powered then (zeroize (setLatch inputs s)).setDevice .tampered else emptyTable (setLatch inputs s)

/-! ## The temperature band (R167) -/

/-- Beyond the limits: above 85 or below -20 degrees C. -/
def beyondLimits (c : Int) : Bool := c > 85 || c < -20

/-- Outside the operating range: above 70 or below -5 degrees C. -/
def beyondRange (c : Int) : Bool := c > 70 || c < -5

/-- Back in the operating range with its hysteresis: 68 or below and -3 or above. -/
def wellInside (c : Int) : Bool := c ≤ 68 && c ≥ -3

/-- Back within the limits with their hysteresis: 83 or below and -18 or above. -/
def backWithinLimits (c : Int) : Bool := c ≤ 83 && c ≥ -18

/-- The band after a reading. -/
def Band.after (b : Band) (c : Int) : Band :=
  match b with
  | .normal => if beyondLimits c then .limit else if beyondRange c then .warning else .normal
  | .warning => if beyondLimits c then .limit else if wellInside c then .normal else .warning
  | .limit => if wellInside c then .normal else if backWithinLimits c then .warning else .limit

/-- The band moves: TEMPERATURE_WARNING when it leaves NORMAL under main power, a tamper cause when it enters LIMIT. -/
def moveBand (b : Band) (s : State) : State :=
  let t := s.setTamper { s.tamper with band := b }
  let t := if s.powered ∧ s.tamper.band = .normal ∧ b ≠ .normal then t.latch .temperatureWarning else t
  if b = .limit ∧ s.tamper.band ≠ .limit then tamper TamperInput.temperature.bit t else t

def execTemperatureReading (celsius : Int) (s : State) : Host.Outcome State Fault Refusal :=
  .next (moveBand (s.tamper.band.after celsius) s)

/-! ## The tamper inputs (R166) -/

/-- An input becomes active. An input that is active already does not repeat its cause; the supply input is not watched
without main power; the temperature input is the band LIMIT. -/
def activate (input : TamperInput) (s : State) : State :=
  match input with
  | .enclosure =>
    if s.tamper.enclosureActive then s
    else tamper input.bit (s.setTamper { s.tamper with enclosureActive := true })
  | .supply =>
    if s.tamper.supplyActive ∨ s.powered = false then s
    else tamper input.bit (s.setTamper { s.tamper with supplyActive := true })
  | .temperature => moveBand .limit s

def execTamperCause (input : TamperInput) (s : State) : Host.Outcome State Fault Refusal := .next (activate input s)

/-- An input becomes inactive: its level changes and nothing more. The temperature input follows the band, which only
readings move. -/
def deactivate (input : TamperInput) (s : State) : State :=
  match input with
  | .enclosure => s.setTamper { s.tamper with enclosureActive := false }
  | .supply => s.setTamper { s.tamper with supplyActive := false }
  | .temperature => s

def execTamperInputInactive (input : TamperInput) (s : State) : Host.Outcome State Fault Refusal :=
  .next (deactivate input s)

/-! ## The restart event (R175) -/

/-- Step 1: volatile state is cleared; the straps (R178) and the presence senses (R133) are read. With the waiting lists
the records in ASSEMBLING are emptied (step 3; the steps between act on other blocks). -/
def clearVolatile (straps : BitVec 4) (senses : BitVec 8) (s : State) : State :=
  { s with
    console :=
      { unitAddress := straps, receiver := .hunting,
        supervision := (if s.console.settings.supervisionPeriod = 0 then .off else .stopped),
        lastVerify := .none, lastVerifySlot := 0, verifyPending := false, settings := s.console.settings }
    lines := Vector.replicate 3 { receiver := .hunting, sending := none, last := LastOutcome.initial }
    approval := { tickets := [], finished := [], counter := 0 }
    engine := { queue := [], service := none, lastServed := 7 }
    stations := Vector.ofFn fun st => Station.cleared (senses.getLsbD st.val)
    checker := { sweepPosition := 191, sweepTimer := none }
    table := s.table.map Slot.restart }

/-- The set of active inputs. -/
def TamperMonitor.activeInputs (m : TamperMonitor) : BitVec 3 :=
  (if m.enclosureActive then TamperInput.enclosure.bit else 0) |||
    (if m.band = .limit then TamperInput.temperature.bit else 0) |||
    (if m.supplyActive then TamperInput.supply.bit else 0)

/-- Steps 4 to 6: active inputs are a tamper cause when the latch is clear, and join the cause when it is set; then
TAMPERED or the start-up check. -/
def enterService (s : State) : State :=
  let active := s.tamper.activeInputs
  if s.tamper.latch then
    (s.setTamper { s.tamper with cause := s.tamper.cause ||| active }).setDevice .tampered
  else if active = 0 then s.setDevice (.starting 0)
  else tamper active s

/-- The restart indication is set (R177). -/
def indicateRestart (s : State) : State := s.setEvents { s.events with restartIndication := true }

/-- The restart event of an accepted RESTART. -/
def restartEvent (straps : BitVec 4) (senses : BitVec 8) (s : State) : State :=
  enterService (indicateRestart (clearVolatile straps senses s))

/-- At power-on the band is set from the first reading, TEMPERATURE_WARNING latched unless it is NORMAL, and the supply
input is inactive (R166, R167). -/
def firstReading (celsius : Int) (s : State) : State :=
  let b := Band.normal.after celsius
  let t := s.setTamper { s.tamper with band := b, supplyActive := false }
  if b = .normal then t else t.latch .temperatureWarning

/-- POWER_ON (R173): the restart event with the first reading in its place. -/
def execPowerOn (straps : BitVec 4) (senses : BitVec 8) (celsius : Int) (s : State) : Host.Outcome State Fault Refusal :=
  .next
    (enterService (firstReading celsius (indicateRestart { clearVolatile straps senses s with powered := true })))

/-- A slot without its volatile waiting list. -/
def Slot.clearWaiting (sl : Slot) : Slot := { sl with waiting := [] }

/-- POWER_DOWN (R173): every volatile value is lost. What stands in its place without power is the model's (log entry
10). The battery-backed state is kept: the table, latch, cause, settings, latched events and mask, and the enclosure
input and the band, which the battery watches. -/
def execPowerDown (s : State) : Host.Outcome State Fault Refusal :=
  .next
    ({ clearVolatile 0 0 s with
        powered := false
        device := .starting 0
        table := s.table.map Slot.clearWaiting
        events := { s.events with restartIndication := false }
        tamper := { s.tamper with supplyActive := false } })

/-! ## The end of the console answer (R179, R174) -/

/-- The last character of an answer leaves: the receiver hunts again; after the answer to an accepted RESTART comes its
restart event. -/
def execConsoleAnswerEnd (straps : BitVec 4) (senses : BitVec 8) (s : State) : Host.Outcome State Fault Refusal :=
  .next
    (if s.powered then
      match s.console.receiver with
      | .closed a =>
        let t := s.setConsole { s.console with receiver := .hunting }
        if a.restarts then restartEvent straps senses t else t
      | _ => s
     else s)

end Sys2Proof.Machine
end

