-- ==== Sys2Proof/Machine/Dispatch.lean ====
section
/-!
DEFINITION. One arm for each command: the call of its meaning.
-/
namespace Sys2Proof.Machine

/-- The effect of a command or event on everything but the queue. -/
def exec (i : Instr) (s : State) : Host.Outcome State Fault Refusal :=
  match i with
  | .status p => Sys2Proof.Machine.execStatus p s
  | .readRecords p => Sys2Proof.Machine.execReadRecords p s
  | .findLabel p => Sys2Proof.Machine.execFindLabel p s
  | .findModel p => Sys2Proof.Machine.execFindModel p s
  | .create p => Sys2Proof.Machine.execCreate p s
  | .cancelAssembly p => Sys2Proof.Machine.execCancelAssembly p s
  | .narrow p => Sys2Proof.Machine.execNarrow p s
  | .suspend p => Sys2Proof.Machine.execSuspend p s
  | .resume p => Sys2Proof.Machine.execResume p s
  | .retire p => Sys2Proof.Machine.execRetire p s
  | .release p => Sys2Proof.Machine.execRelease p s
  | .verify p => Sys2Proof.Machine.execVerify p s
  | .openTicket p => Sys2Proof.Machine.execOpenTicket p s
  | .readTickets p => Sys2Proof.Machine.execReadTickets p s
  | .dismissTicket p => Sys2Proof.Machine.execDismissTicket p s
  | .bind p => Sys2Proof.Machine.execBind p s
  | .unbind p => Sys2Proof.Machine.execUnbind p s
  | .arm p => Sys2Proof.Machine.execArm p s
  | .disarm p => Sys2Proof.Machine.execDisarm p s
  | .abort p => Sys2Proof.Machine.execAbort p s
  | .clearHold p => Sys2Proof.Machine.execClearHold p s
  | .readStations p => Sys2Proof.Machine.execReadStations p s
  | .readEvents p => Sys2Proof.Machine.execReadEvents p s
  | .setAlertMask p => Sys2Proof.Machine.execSetAlertMask p s
  | .readSettings p => Sys2Proof.Machine.execReadSettings p s
  | .setSettings p => Sys2Proof.Machine.execSetSettings p s
  | .ackRestart p => Sys2Proof.Machine.execAckRestart p s
  | .restart p => Sys2Proof.Machine.execRestart p s
  | .disarmAll p => Sys2Proof.Machine.execDisarmAll p s
  | .abortAll p => Sys2Proof.Machine.execAbortAll p s
  | .unknownCommand kind p => Sys2Proof.Machine.execUnknownCommand kind p s
  | .consoleFrameError => Sys2Proof.Machine.execConsoleFrameError s
  | .broadcastDiscard kind p => Sys2Proof.Machine.execBroadcastDiscard kind p s
  | .consoleAnswerEnd straps senses => Sys2Proof.Machine.execConsoleAnswerEnd straps senses s
  | .powerOn straps senses celsius => Sys2Proof.Machine.execPowerOn straps senses celsius s
  | .powerDown => Sys2Proof.Machine.execPowerDown s
  | .supervisionLapse => Sys2Proof.Machine.execSupervisionLapse s
  | .component l p => Sys2Proof.Machine.execComponent l p s
  | .lineStatus l p => Sys2Proof.Machine.execLineStatus l p s
  | .ticketQuery l p => Sys2Proof.Machine.execTicketQuery l p s
  | .approve l p => Sys2Proof.Machine.execApprove l p s
  | .decline l p => Sys2Proof.Machine.execDecline l p s
  | .custodianFrameError l => Sys2Proof.Machine.execCustodianFrameError l s
  | .ticketExpiry number => Sys2Proof.Machine.execTicketExpiry number s
  | .componentCheckDone => Sys2Proof.Machine.execComponentCheckDone s
  | .keyCheckDone => Sys2Proof.Machine.execKeyCheckDone s
  | .packageJobDone => Sys2Proof.Machine.execPackageJobDone s
  | .verifyJobDone => Sys2Proof.Machine.execVerifyJobDone s
  | .discardedJobDone => Sys2Proof.Machine.execDiscardedJobDone s
  | .present st => Sys2Proof.Machine.execPresent st s
  | .absent st => Sys2Proof.Machine.execAbsent st s
  | .identity st p => Sys2Proof.Machine.execIdentity st p s
  | .receipt st p => Sys2Proof.Machine.execReceipt st p s
  | .refuse st p => Sys2Proof.Machine.execRefuse st p s
  | .stationFrameError st => Sys2Proof.Machine.execStationFrameError st s
  | .identityTimerExpiry st => Sys2Proof.Machine.execIdentityTimerExpiry st s
  | .receiptTimerExpiry st => Sys2Proof.Machine.execReceiptTimerExpiry st s
  | .endOfTransmission st => Sys2Proof.Machine.execEndOfTransmission st s
  | .storageError slot changes => Sys2Proof.Machine.execStorageError slot changes s
  | .sweepTimerExpiry => Sys2Proof.Machine.execSweepTimerExpiry s
  | .startUpCheckCompletion => Sys2Proof.Machine.execStartUpCheckCompletion s
  | .tamperCause input => Sys2Proof.Machine.execTamperCause input s
  | .tamperInputInactive input => Sys2Proof.Machine.execTamperInputInactive input s
  | .temperatureReading celsius => Sys2Proof.Machine.execTemperatureReading celsius s
  | .custodianAnswerEnd l => Sys2Proof.Machine.execCustodianAnswerEnd l s
  | .stationFrameSent st => Sys2Proof.Machine.execStationFrameSent st s

end Sys2Proof.Machine
end

