-- ==== Sys2Proof/Machine/Tick.lean ====
section
/-!
DEFINITION. One millisecond of quiet: what a step on an empty queue does in place of idling (DESIGN CHOICE, log entry 4).
Every running timer counts down; one that runs out puts its own expiry event in the queue. The start-up check passes one
slot (log entry 7).
-/
namespace Sys2Proof.Machine

/-- A ticket's expiry timer a millisecond later. -/
def Ticket.countDown (t : Ticket) : Ticket :=
  match t.state with
  | .stillOpen left => { t with state := .stillOpen (left - 1) }
  | _ => t

/-- A ticket whose timer runs out within the millisecond. -/
def Ticket.runsOut (t : Ticket) : Bool :=
  match t.state with
  | .stillOpen left => left ≤ 1
  | _ => false

def StationTimer.countDown : StationTimer → StationTimer
  | .stopped => .stopped
  | .identity left => .identity (left - 1)
  | .receipt left => .receipt (left - 1)

/-- The expiry event of a station timer that runs out within the millisecond. -/
def StationTimer.expiry (st : StationId) : StationTimer → Option Instr
  | .stopped => none
  | .identity left => if left ≤ 1 then some (.identityTimerExpiry st) else none
  | .receipt left => if left ≤ 1 then some (.receiptTimerExpiry st) else none

def Supervision.countDown : Supervision → Supervision
  | .running left => .running (left - 1)
  | x => x

def Supervision.runsOut : Supervision → Bool
  | .running left => left ≤ 1
  | _ => false

/-- The sweep timer runs out within the millisecond. -/
def sweepRunsOut : Option Nat → Bool
  | some left => left ≤ 1
  | none => false

/-- Every timer a millisecond later. -/
def countDown (s : State) : State :=
  { s with
    console := { s.console with supervision := s.console.supervision.countDown }
    approval := { s.approval with tickets := s.approval.tickets.map Ticket.countDown }
    stations := s.stations.map fun k => { k with timer := k.timer.countDown }
    checker := { s.checker with sweepTimer := s.checker.sweepTimer.map (· - 1) } }

/-- The expiries of the millisecond: tickets in table order, stations in ascending order, supervision, sweep. -/
def expiries (s : State) : List Instr :=
  (s.approval.tickets.filter Ticket.runsOut).map (fun t => .ticketExpiry t.number) ++
    allStations.filterMap (fun st => (s.station st).timer.expiry st) ++
    (if s.console.supervision.runsOut then [.supervisionLapse] else []) ++
    (if sweepRunsOut s.checker.sweepTimer then [.sweepTimerExpiry] else [])

/-- The start-up check passes one slot; after the last its completion is due (R163). -/
def startUpProgress (s : State) : State × List Instr :=
  match s.device with
  | .starting k =>
    let t := match allSlots[k]? with
      | some i => settleEngine (check i s)
      | none => s
    (t.setDevice (.starting (k + 1)), if k + 1 ≥ 192 then [.startUpCheckCompletion] else [])
  | _ => (s, [])

/-- A step on an empty queue. Without main power nothing runs. -/
def tick (s : State) : State :=
  if s.powered then
    let r := startUpProgress (countDown s)
    { r.1 with pending := r.1.pending ++ expiries s ++ r.2 }
  else s

end Sys2Proof.Machine
end

