-- ==== Sys2Proof/Machine/Character.lean ====
section
/-!
DEFINITION. The characters of a line and their bits (R197): start bit, 8 data bits with the least significant first, even
parity bit, stop bit; the parity and stop tests of a received character; the rates; the gap limit of R199. A level is a
Bool, `true` for the idle and stop level and `false` for the start level.
-/
namespace Sys2Proof.Machine

/-! ## Rates and times (the table of R197) -/

/-- The three kinds of line. -/
inductive LineKind where
  | console
  | custodian
  | station
  deriving DecidableEq, Repr

/-- Bits per second. -/
def LineKind.rate : LineKind → Nat
  | .console => 38400
  | .custodian => 9600
  | .station => 19200

/-- The bits of a character. -/
def characterLength : Nat := 11

/-- The bit times of the gap limit: 4 characters. -/
def gapLimit : Nat := 4 * characterLength

/-- The time that so many bits take, in whole microseconds. -/
def LineKind.microseconds (k : LineKind) (bits : Nat) : Nat := bits * 1000000 / k.rate

/-! ## Sending -/

/-- The data bits of a byte, least significant first. -/
def dataBits (b : Byte) : List Bool := (List.range 8).map fun i => b.getLsbD i

/-- The even parity bit: with it the count of ones in data and parity is even. -/
def parityBit (b : Byte) : Bool := (dataBits b).count true % 2 == 1

/-- The 11 bits of a character. -/
def characterBits (b : Byte) : List Bool := false :: dataBits b ++ [parityBit b, true]

/-- The bits of a frame: its characters one after the other, with no gap beyond the stop bit of each. -/
def Frame.lineBits (f : Frame) : List Bool := f.bytes.flatMap characterBits

/-! ## Receiving -/

/-- What a receiver sees: a character with its parity verdict, or the running over of the gap limit. -/
inductive LineItem where
  | character (byte : Byte) (parityOk : Bool)
  | gap
  deriving DecidableEq, Repr

/-- The byte that data bits spell, least significant first. -/
def byteOfBits (l : List Bool) : Byte := BitVec.ofNat 8 (l.foldr (fun b n => b.toNat + 2 * n) 0)

/-- The character that 11 bits make, the first at the start level. Its parity is good when the ones in data and parity are
even; a stop bit at the start level counts as a parity error. -/
def characterOfBits (l : List Bool) : Option LineItem :=
  match l with
  | [false, d0, d1, d2, d3, d4, d5, d6, d7, parity, stop] =>
    let data := [d0, d1, d2, d3, d4, d5, d6, d7]
    some (.character (byteOfBits data) ((data ++ [parity]).count true % 2 == 0 && stop))
  | _ => none

/-- Where the bits of a line stand between two samples, one sample a bit time: the idle bit times since the last
character, or the bits of the character in progress (whole bit times: DESIGN CHOICE, log entry 30). -/
inductive Sampling where
  | idle (since : Nat)
  | inside (bits : List Bool)
  deriving DecidableEq, Repr

/-- One bit time at a level. An idle line gives `gap` once, when more than 4 character times have passed; a start level
begins a character; the eleventh bit ends it. R199 speaks of a gap up to the start of the next character: that the gap is seen
as soon as its limit has passed, whether or not a character follows, is the model's choice (DESIGN CHOICE, log entry 36). -/
def Sampling.sample (x : Sampling) (level : Bool) : Sampling × Option LineItem :=
  match x with
  | .idle since =>
    if level = false then (.inside [false], none)
    else (.idle (since + 1), if since = gapLimit then some .gap else none)
  | .inside bits =>
    let l := bits ++ [level]
    if l.length = characterLength then (.idle 0, characterOfBits l) else (.inside l, none)

/-- What a receiver sees in a run of bit times. -/
def itemsOfBits : Sampling → List Bool → List LineItem
  | _, [] => []
  | x, level :: rest =>
    let r := x.sample level
    match r.2 with
    | some item => item :: itemsOfBits r.1 rest
    | none => itemsOfBits r.1 rest

end Sys2Proof.Machine
end

