-- ==== Sys2Proof/Machine/Wire.lean ====
section
/-!
DEFINITION. From the bits and characters on a line to the commands of the table (chapter 12): the receivers of R199 and
the treatment of a received frame by R178 and R185 (console), R53 and R200 (custodian lines), R136 and R137 (stations);
and what the controller puts on its lines: driver enables and bits (R197). The environment uses it to put commands at the
back of the queue; `step` does not call it.
-/
namespace Sys2Proof.Machine

/-- What one item makes of the bytes taken since SYNC. -/
inductive Reception where
  | still (bytes : List Byte)
  | bad
  | frame (f : Frame)
  deriving DecidableEq, Repr

/-- The frame that the bytes after SYNC spell: ADDRESS, KIND, LENGTH, payload, CHECK. -/
def frameOfBytes (bytes : List Byte) : Frame :=
  { address := byteAt bytes 0, kind := byteAt bytes 1, payload := (bytes.drop 3).dropLast }

/-- The receiver inside a frame (R199). -/
def receiveItem (bytes : List Byte) : LineItem → Reception
  | .gap => .bad
  | .character b ok =>
    let l := bytes ++ [b]
    if ok = false then .bad
    else if l.length = 3 ∧ b.toNat > 200 then .bad
    else if l.length ≥ 4 ∧ l.length = (byteAt l 2).toNat + 4 then
      if l.sum = 0x5C then .frame (frameOfBytes l) else .bad
    else .still l

/-- Outside a frame only a sound 0xA7 begins one (R199). -/
def beginsFrame : LineItem → Bool
  | .character b ok => ok && b == syncByte
  | .gap => false

/-- A command joins the back of the queue. -/
def enqueue (c : Instr) (s : State) : State := { s with pending := s.pending ++ [c] }

/-- A command that may be absent. -/
def enqueue? (c : Option Instr) (s : State) : State :=
  match c with
  | some c => enqueue c s
  | none => s

/-! ## The console line (R178, R180, R185) -/

/-- The command of an addressed frame. -/
def addressedCommand (k : Byte) (p : Payload) : Instr :=
  if k = Kind.status then .status p
  else if k = Kind.restart then .restart p
  else if k = Kind.ackRestart then .ackRestart p
  else if k = Kind.readEvents then .readEvents p
  else if k = Kind.setAlertMask then .setAlertMask p
  else if k = Kind.readSettings then .readSettings p
  else if k = Kind.setSettings then .setSettings p
  else if k = Kind.readRecords then .readRecords p
  else if k = Kind.findLabel then .findLabel p
  else if k = Kind.findModel then .findModel p
  else if k = Kind.create then .create p
  else if k = Kind.cancelAssembly then .cancelAssembly p
  else if k = Kind.narrow then .narrow p
  else if k = Kind.suspend then .suspend p
  else if k = Kind.resume then .resume p
  else if k = Kind.retire then .retire p
  else if k = Kind.release then .release p
  else if k = Kind.verify then .verify p
  else if k = Kind.openTicket then .openTicket p
  else if k = Kind.readTickets then .readTickets p
  else if k = Kind.dismissTicket then .dismissTicket p
  else if k = Kind.bind then .bind p
  else if k = Kind.unbind then .unbind p
  else if k = Kind.arm then .arm p
  else if k = Kind.disarm then .disarm p
  else if k = Kind.abort then .abort p
  else if k = Kind.clearHold then .clearHold p
  else if k = Kind.readStations then .readStations p
  else .unknownCommand k p

/-- The command of a broadcast frame (R185). -/
def broadcastFrame (k : Byte) (p : Payload) : Instr :=
  if k = Kind.disarmAll ∧ p = [] then .disarmAll p
  else if k = Kind.abortAll ∧ p = [] then .abortAll p
  else .broadcastDiscard k p

/-- The treatment of a console frame by its ADDRESS and KIND (R178): answer kinds and other units' frames are ignored. A
unit strapped 15 takes broadcasts alone. -/
def consoleFrame (unit : BitVec 4) (f : Frame) : Option Instr :=
  if isAnswerKind f.kind then none
  else if f.address = unit.setWidth 8 ∧ unit ≠ 15 then some (addressedCommand f.kind f.payload)
  else if f.address = 15 then some (broadcastFrame f.kind f.payload)
  else none

/-- One item on the console line (R179, R199). While CLOSED nothing is received. -/
def consoleItem (x : LineItem) (s : State) : State :=
  let receiver (r : ConsoleReceiver) : State := s.setConsole { s.console with receiver := r }
  if s.powered then
    match s.console.receiver with
    | .closed _ => s
    | .hunting => if beginsFrame x then receiver (.receiving []) else s
    | .receiving bytes =>
      match receiveItem bytes x with
      | .still l => receiver (.receiving l)
      | .bad => enqueue .consoleFrameError (receiver .hunting)
      | .frame f => enqueue? (consoleFrame s.console.unitAddress f) (receiver .hunting)
  else s

/-! ## Custodian and station lines -/

/-- One item on a line whose receiver notes whether the line's own transmitter was sending meanwhile: the receiver after
it, and the frame or error it ended in. A frame that overlapped a transmission is an error (R53, R136). -/
def lineItem (sending : Bool) (x : LineItem) : Receiver → Receiver × Option (Option Frame)
  | .hunting => (if beginsFrame x then .receiving [] sending else .hunting, none)
  | .receiving bytes overlap =>
    let overlap := overlap || sending
    match receiveItem bytes x with
    | .still l => (.receiving l overlap, none)
    | .bad => (.hunting, some none)
    | .frame f => (.hunting, some (if overlap then none else some f))

/-- The request of a custodian frame (R53, R200): another kind or a non-zero ADDRESS is an error. -/
def custodianFrame (l : Line) (f : Frame) : Instr :=
  if f.address ≠ 0 then .custodianFrameError l
  else if f.kind = Kind.component then .component l f.payload
  else if f.kind = Kind.lineStatus then .lineStatus l f.payload
  else if f.kind = Kind.ticketQuery then .ticketQuery l f.payload
  else if f.kind = Kind.approve then .approve l f.payload
  else if f.kind = Kind.decline then .decline l f.payload
  else .custodianFrameError l

def custodianItem (l : Line) (x : LineItem) (s : State) : State :=
  if s.powered then
    let r := lineItem (s.line l).sending.isSome x (s.line l).receiver
    enqueue?
      (match r.2 with
       | none => none
       | some none => some (.custodianFrameError l)
       | some (some f) => some (custodianFrame l f))
      (s.modifyLine l fun k => { k with receiver := r.1 })
  else s

/-- The terminal frame of a station frame (R137): another kind or a non-zero ADDRESS is an error. -/
def stationFrame (st : StationId) (f : Frame) : Instr :=
  if f.address ≠ 0 then .stationFrameError st
  else if f.kind = Kind.identity then .identity st f.payload
  else if f.kind = Kind.receipt then .receipt st f.payload
  else if f.kind = Kind.refuse then .refuse st f.payload
  else .stationFrameError st

def stationItem (st : StationId) (x : LineItem) (s : State) : State :=
  if s.powered then
    let r := lineItem (!(s.station st).transmitter.isEmpty) x (s.station st).receiver
    enqueue?
      (match r.2 with
       | none => none
       | some none => some (.stationFrameError st)
       | some (some f) => some (stationFrame st f))
      (s.modifyStation st fun k => { k with receiver := r.1 })
  else s

/-! ## From bits to commands -/

/-- A run of bit times on the console line. -/
def consoleBits (x : Sampling) (l : List Bool) (s : State) : State :=
  (itemsOfBits x l).foldl (fun s item => consoleItem item s) s

/-- A run of bit times on a custodian line. -/
def custodianBits (l : Line) (x : Sampling) (bits : List Bool) (s : State) : State :=
  (itemsOfBits x bits).foldl (fun s item => custodianItem l item s) s

/-- A run of bit times on a station line. -/
def stationBits (st : StationId) (x : Sampling) (bits : List Bool) (s : State) : State :=
  (itemsOfBits x bits).foldl (fun s item => stationItem st item s) s

/-! ## What the controller sends (R197) -/

/-- The frame in the console transmitter. -/
def consoleSending (s : State) : Option Frame :=
  match s.console.receiver with
  | .closed a => if s.powered then some a.frame else none
  | _ => none

/-- The frame in a custodian line's transmitter. -/
def custodianSending (l : Line) (s : State) : Option Frame :=
  match (s.line l).sending with
  | some a => if s.powered then some a.frame else none
  | none => none

/-- The frame at the front of a station line's transmitter list. -/
def stationSending (st : StationId) (s : State) : Option Frame :=
  match (s.station st).transmitter with
  | f :: _ => if s.powered then some (f.frame st) else none
  | [] => none

/-- The driver of a line is enabled only while its transmitter is sending: CON_DE, and the drivers of the custodian and
station lines (R197, section 12.7). -/
def consoleDriven (s : State) : Bool := (consoleSending s).isSome

def custodianDriven (l : Line) (s : State) : Bool := (custodianSending l s).isSome

def stationDriven (st : StationId) (s : State) : Bool := (stationSending st s).isSome

/-- The bits of a transmitter's frame; a line that is not driven carries none of the controller's. -/
def sentBits (f : Option Frame) : List Bool :=
  match f with
  | some f => f.lineBits
  | none => []

end Sys2Proof.Machine
end

