-- ==== Sys2Proof/Safety.lean ====
section
/-!
DEFINITION. What counts as a safe state, in the terms the claims use: the laws of a record (chapters 1 to 3), of the names
in the table (R10), of the approval table (R72), of the stations and their packages (R113, R114, R118), of the tamper
latch (R168, R170) and of STARTING (R163); the idle condition of the engine between events (R101), records that pass their read-checks (R157); the
shape of an answer (R182, R186), and what the giving up of packages leaves (R43, R125).
-/
namespace Sys2Proof.Machine

/-! ## The laws of a record -/

/-- The laws of a BASE record's issuance part: ranges (R28, R29), the window (R29, R30), the account of numbers (R31) and
the allowance (R32). -/
def Issuance.Lawful (s : Issuance) : Prop :=
  (s.first ≤ s.floor ∧ s.floor ≤ s.next ∧ s.next ≤ s.last + 1 ∧ s.last + 1 ≤ 16777215) ∧
    s.next - s.floor ≤ 16 ∧
    s.window.length = s.next - s.floor ∧
    (s.window ≠ [] → s.window.head? = some .outstanding) ∧
    s.issued = s.next - s.first ∧
    s.issued = s.confirmed + s.voided + s.outstanding ∧
    s.allowance ≤ 65535

/-- What a class carries: a BASE record's issuance part is lawful, EXHAUSTED exactly at the end of its range among the
states that hold a key or await one (R35, note of R21), and a TRANSPORT record is never EXHAUSTED (section 1.3). -/
def Account.partLawful (a : Account) : Prop :=
  match a.part with
  | .base s =>
    s.Lawful ∧ (a.state = .exhausted → s.next = s.last + 1) ∧
      (a.state = .assembling ∨ a.state = .active ∨ a.state = .suspended → s.next ≤ s.last)
  | .transport _ => a.state ≠ .exhausted

/-- The assembly part stands in ASSEMBLING alone (R2), and there contributed and reserved lines share no line and number
at most the quorum (R52). -/
def Account.assemblyLawful (a : Account) : Prop :=
  match a.assembly with
  | none => a.state ≠ .assembling
  | some m =>
    a.state = .assembling ∧ m.contributed &&& m.reserved = 0 ∧
      lineCount m.contributed + lineCount m.reserved ≤ a.quorum.toNat

/-- The laws of a record in use: permissions are a subset of the valid flags of the class (R3), a record with key material
or RETIRED has a check value and one in ASSEMBLING has none (R2), and the laws of its parts. -/
def Account.Lawful (a : Account) : Prop :=
  a.permissions &&& ~~~ a.part.validFlags = 0 ∧
    (a.state.isLive ∨ a.state = .retired → a.checkValue.isSome) ∧
    (a.state = .assembling → a.checkValue = none) ∧
    a.assemblyLawful ∧ a.partLawful

/-- The laws of a slot: an EMPTY one carries nothing (R4, R154); stations wait only on a BASE record that still holds its
key (R7). -/
def Slot.Lawful (sl : Slot) : Prop :=
  match sl.account with
  | none => sl.words = [] ∧ sl.waiting = []
  | some a => a.Lawful ∧ (sl.waiting ≠ [] → a.part.isBase = true ∧ a.state.isLive = true)

/-- Every record of the table is lawful. -/
def State.RecordsLawful (s : State) : Prop := ∀ i, (s.slot i).Lawful

/-- No two records bear one label, and no two hold one model class (R10). -/
def State.NamesDistinct (s : State) : Prop :=
  ∀ i j a b, i ≠ j → s.account i = some a → s.account j = some b →
    a.label ≠ b.label ∧
      ∀ m, a.part = .transport m → b.part = .transport m → ¬ (a.state.holdsModel = true ∧ b.state.holdsModel = true)

/-! ## The laws of the approval table (R72, R74) -/

/-- A ticket: its number, the amount of its action, and at most two approvals by its state. -/
def Ticket.Lawful (t : Ticket) : Prop :=
  (1 ≤ t.number ∧ t.number ≤ 255) ∧
    (match t.action with
     | .grant => t.amount ≠ 0
     | .widen => t.amount ≠ 0 ∧ t.amount.toNat < 16
     | .clearTamper => t.amount = 0 ∧ t.slot = 0
     | _ => t.amount = 0) ∧
    match t.state with
    | .stillOpen _ => lineCount t.approvals ≤ 1
    | .executed => lineCount t.approvals = 2
    | .failed .declined => lineCount t.approvals ≤ 1
    | .failed .badState => lineCount t.approvals ≤ 2
    | .expired => t.approvals = 0

/-- The approval table: at most four lawful tickets with distinct numbers, no two OPEN alike, the finished order made of
exactly the finished tickets, and the counter within its range. -/
def ApprovalUnit.Lawful (u : ApprovalUnit) : Prop :=
  u.tickets.length ≤ 4 ∧ (∀ t ∈ u.tickets, t.Lawful) ∧ (u.tickets.map (·.number)).Nodup ∧
    (u.tickets.Pairwise fun t x =>
      t.isOpen = true → x.isOpen = true → ¬ (t.action = x.action ∧ t.slot = x.slot)) ∧
    u.finished.Nodup ∧ (∀ n, n ∈ u.finished ↔ ∃ t ∈ u.tickets, t.number = n ∧ t.isOpen = false) ∧ u.counter ≤ 255

/-! ## The laws of the tamper latch (R168, R170, R73) -/

/-- Under main power the device is TAMPERED exactly while the latch is set; the latch is set exactly while a cause is
named; with it set every record is EMPTY; and while the device is TAMPERED every ticket is a CLEAR_TAMPER. -/
def State.TamperLawful (s : State) : Prop :=
  (s.device = .tampered → s.powered = true ∧ s.tamper.latch = true) ∧
    (s.powered = true → s.tamper.latch = true → s.device = .tampered) ∧
    (s.tamper.latch = true ↔ s.tamper.cause ≠ 0) ∧
    (s.tamper.latch = true → ∀ i, s.account i = none) ∧
    (s.device = .tampered → ∀ t ∈ s.approval.tickets, t.action = .clearTamper)

/-! ## The laws of the stations (R113, R114, R118) -/

/-- The fields of a station by its state: the tables of R113 and R114, with R115 and R116 for armed and the mark. -/
def Station.Shaped (k : Station) : Prop :=
  (k.state = .unbound → k.base = none) ∧
    (k.state ∉ [StationState.unbound, .departing, .held] → k.base.isSome = true) ∧
    (k.state ∈ [StationState.unbound, .bound, .held] → k.armed = false) ∧
    (k.state = .waiting → k.armed = true) ∧
    (k.state = .departing → k.mode = .single → k.armed = false) ∧
    (k.disarmAfter = true → k.mode = .line ∧ k.state.hasTerminal = true) ∧
    (k.state ∈ [StationState.unbound, .bound, .waiting, .identifying, .held] → k.identity = none) ∧
    (k.state ∈ [StationState.stalled, .preparing, .sending, .awaitingReceipt] → k.identity.isSome = true) ∧
    (match k.package with
     | none => k.state ∉ [StationState.preparing, .sending, .awaitingReceipt]
     | some p =>
       k.state = .preparing ∧ p.expected = none ∨
         (k.state = .sending ∨ k.state = .awaitingReceipt) ∧ p.expected.isSome = true) ∧
    (k.holds ≠ 0 ↔ k.state = .held) ∧
    match k.timer with
    | .stopped => k.state ≠ .identifying ∧ k.state ≠ .awaitingReceipt
    | .identity _ => k.state = .identifying
    | .receipt _ => k.state = .awaitingReceipt

/-- Number n stands OUTSTANDING in the window of the record in slot i. -/
def State.outstandingAt (s : State) (i : SlotId) (n : Nat) : Prop :=
  ∃ a iss, s.account i = some a ∧ a.part = .base iss ∧ iss.entry? n = some .outstanding

/-- The station's package names number n of slot i. -/
def Station.claims (k : Station) (i : SlotId) (n : Nat) : Prop :=
  ∃ p, k.package = some p ∧ p.base = i ∧ p.number = n

/-- The law of R118 with the shapes of the stations: a bound station is bound to a BASE record that holds its key; the
waiting lists hold exactly the STALLED stations; every package names an OUTSTANDING entry of its station's base record, no
two the same; in OPERATIONAL every OUTSTANDING entry of a record that is not QUARANTINED is named; and outside OPERATIONAL
no station is bound (R133, R134). -/
def State.StationsLawful (s : State) : Prop :=
  (∀ st, (s.station st).Shaped) ∧
    (∀ st i, (s.station st).base = some i → ∃ a, s.account i = some a ∧ a.part.isBase = true ∧ a.state.isLive = true) ∧
    (∀ i, (s.slot i).waiting.Nodup ∧
      ∀ st, st ∈ (s.slot i).waiting ↔ (s.station st).state = .stalled ∧ (s.station st).base = some i) ∧
    (∀ st p, (s.station st).package = some p → (s.station st).base = some p.base ∧ s.outstandingAt p.base p.number) ∧
    (∀ st tt i n, (s.station st).claims i n → (s.station tt).claims i n → st = tt) ∧
    (s.powered = true → s.device = .operational → ∀ i n, s.outstandingAt i n →
      (s.slot i).recordState ≠ some .quarantined → ∃ st, (s.station st).claims i n) ∧
    (∀ i n a, s.account i = some a → a.state = .assembling ∨ a.state = .retired → ¬ s.outstandingAt i n) ∧
    (¬ (s.powered = true ∧ s.device = .operational) → ∀ st, (s.station st).state = .unbound)

/-! ## Read-checks -/

/-- The record passes its read-check, or is QUARANTINED, where the check has no effect (R157); an EMPTY slot is not
checked (R6). -/
def Slot.readable (sl : Slot) : Bool := sl.agrees || sl.recordState == some .quarantined

/-- Every record passes its read-check. -/
def State.Sound (s : State) : Prop := ∀ i, (s.slot i).readable = true

/-! ## The start-up check (R163) -/

/-- Nothing hangs on a record, so that a quarantine stops nothing (R163): no job is held, no station has a binding or a
package, no station waits on a list, and no record has an assembly part. -/
def State.NothingHangs (s : State) : Prop :=
  (s.engine.queue = [] ∧ s.engine.service = none) ∧
    (∀ st, (s.station st).base = none ∧ (s.station st).package = none) ∧
    ∀ i, (s.slot i).waiting = [] ∧ ∀ a, s.account i = some a → a.assembly = none

/-- The law of STARTING under main power. -/
def State.StartUpLawful (s : State) : Prop := s.powered = true → ∀ k, s.device = .starting k → s.NothingHangs

/-- What a read-check makes of a slot when nothing hangs on its record (R157, R160): a record that disagrees is QUARANTINED,
its secrets wiped, its words those of its account copy; one that passes is left alone. -/
def Slot.checked (sl : Slot) : Slot :=
  match sl.account with
  | none => sl
  | some a =>
    if sl.readable then sl
    else
      { account := some { a with state := .quarantined, assembly := none }
        words := recordWords { a with state := .quarantined, assembly := none } none
        waiting := [] }

/-! ## The engine between events -/

/-- The engine is not in WAITING_CHOICE: it serves or drains a job, or its queue is empty (R101). -/
def Engine.Settled (e : Engine) : Prop := e.service.isSome = true ∨ e.queue = []

/-! ## Commands and answers -/

/-- The console is heard, the device is OPERATIONAL: a command of fitting length reaches its owning rule (R178 to
R181). -/
def State.Serves (s : State) : Prop := s.takesCommand = true ∧ s.device = .operational

/-- The supervision condition as a feed leaves it (R186). -/
def fedSupervision (s : State) : Supervision :=
  if s.console.settings.supervisionPeriod = 0 then .off else .running (s.console.settings.supervisionPeriod * 1000)

/-- The console line after a command: supervision fed, and the answer of code and data on its way with the status summary
of the state it was formed in (R182, R183, R186). Nothing else of the state differs. -/
def answered (kind : Byte) (code : AnswerCode) (data : List Byte) (s : State) : State :=
  { s with
    console :=
      { s.console with
        supervision := fedSupervision s
        receiver := .closed
          { address := s.console.unitAddress, kind := kind + 0x80, status := statusSummary s, code := code, data := data } } }

/-- A custodian line after a request: the answer is on its way (R53). -/
def answeredLine (l : Line) (kind : Byte) (code : AnswerCode) (data : List Byte) (s : State) : State :=
  s.setLine l { s.line l with sending := some { kind := kind + 0x80, code := code, data := data } }

/-- The KIND and payload of a console command (R202); none for the other rows. -/
def consoleForm : Instr → Option (Byte × Payload)
  | .status p => some (0x01, p)
  | .restart p => some (0x02, p)
  | .ackRestart p => some (0x03, p)
  | .readEvents p => some (0x04, p)
  | .setAlertMask p => some (0x05, p)
  | .readSettings p => some (0x06, p)
  | .setSettings p => some (0x07, p)
  | .readRecords p => some (0x10, p)
  | .findLabel p => some (0x11, p)
  | .findModel p => some (0x12, p)
  | .create p => some (0x13, p)
  | .cancelAssembly p => some (0x14, p)
  | .narrow p => some (0x15, p)
  | .suspend p => some (0x16, p)
  | .resume p => some (0x17, p)
  | .retire p => some (0x18, p)
  | .release p => some (0x19, p)
  | .verify p => some (0x1A, p)
  | .openTicket p => some (0x20, p)
  | .readTickets p => some (0x21, p)
  | .dismissTicket p => some (0x22, p)
  | .bind p => some (0x30, p)
  | .unbind p => some (0x31, p)
  | .arm p => some (0x32, p)
  | .disarm p => some (0x33, p)
  | .abort p => some (0x34, p)
  | .clearHold p => some (0x35, p)
  | .readStations p => some (0x36, p)
  | _ => none

/-- The payload lengths that fit a console command (R202); a CREATE payload fits the class it names (R200). -/
def fitsKind (kind : Byte) (p : Payload) : Bool :=
  if kind ∈ [0x01, 0x02, 0x03, 0x04, 0x06, 0x21] then p.length == 0
  else if kind ∈ [0x14, 0x16, 0x17, 0x18, 0x19, 0x1A, 0x22, 0x31, 0x32, 0x33, 0x34, 0x36] then p.length == 1
  else if kind ∈ [0x10, 0x12, 0x15, 0x35] then p.length == 2
  else if kind = 0x30 then p.length == 3
  else if kind ∈ [0x05, 0x20] then p.length == 4
  else if kind = 0x11 then p.length == 8
  else if kind = 0x07 then p.length == 10
  else if kind = 0x13 then p.length == 29 && p[1]? != some 2 || p.length == 15 && p[1]? != some 1
  else false

/-- A line that takes requests: power is on and no answer of the line is being sent (R53). -/
def State.Hears (s : State) (l : Line) : Prop := s.powered = true ∧ (s.line l).sending = none

/-- What an aborted station is left as (R124 steps 1, 3 and 6 to 8): DEPARTING with CLOSE(ABORTED) while the terminal is
present, at rest otherwise; the transmission is ended (R92, R136; log entry 35). -/
def abortedStation (k : Station) : Station :=
  { k with
    state := if k.present then .departing else if k.base = none then .unbound else .bound
    armed := false, disarmAfter := false, identity := none, package := none, timer := .stopped
    holds := if k.present then k.holds else 0
    transmitter := if k.present then [.close .aborted] else [] }

/-- What a station is left as when a quarantine reaches it at work (R130, R131): HELD with INTEGRITY, CLOSE(ABORTED) while
the terminal is present, the transmission ended (R136; log entry 35). The binding is `base`. -/
def haltedStation (base : Option SlotId) (k : Station) : Station :=
  { k with
    state := .held, base := base, holds := k.holds ||| HoldCondition.integrity.bit, timer := .stopped, identity := none,
    package := none, armed := false, disarmAfter := false
    transmitter := if k.present then [.close .aborted] else [] }

/-! ## The giving up of several packages -/

/-- The stations that `hit` picks whose packages name slot i, in the order of R125: descending by number. -/
def State.PackagesInOrder (s : State) (hit : StationId → Bool) (i : SlotId) (order : List StationId) : Prop :=
  (∀ st, st ∈ order ↔ hit st = true ∧ ∃ p, (s.station st).package = some p ∧ p.base = i) ∧
    order.Pairwise fun st tt =>
      ∃ p r, (s.station st).package = some p ∧ (s.station tt).package = some r ∧
        (r.number < p.number ∨ r.number = p.number ∧ st < tt)

/-- The slot of a base record after the packages of `order` are given up one after the other. -/
def State.slotAfter (s : State) (d : StationId → Disposal) (order : List StationId) (sl : Slot) : Slot :=
  order.foldl
    (fun sl st => match (s.station st).package with
      | some p => sl.dispose (d st) p.number
      | none => sl) sl

/-- A job of one of the stations that `hit` picks. -/
def ofStations (hit : StationId → Bool) (j : Job) : Bool :=
  (List.finRange 8).any fun st => hit st && j.requester == .station st

end Sys2Proof.Machine
end

