-- ==== Sys2Proof/Certificates/Slice0/Obligations.lean ====
section
/-!
DEFINITION. The statements for the provers. Each docstring names the rules of spec/ its clauses come from; a convention of
the model is marked with its log entry.

Three hypotheses recur, all on the state alone: `Serves` (the unit is heard on the console line and the device is
OPERATIONAL, R178 to R181), `Sound` or `readable` (the records that are read pass their read-checks, R157), and `Settled`
(the engine is not in WAITING_CHOICE, R101, which `StepKeepsEngineSettled` states to hold between events).
-/

open Sys2Proof Sys2Proof.Machine

/-! ## The machine -/

/-- A step carries out the command at the front of the queue on the state with the queue's rest. -/
def Obligations.StepRunsFrontCommand : Prop :=
  ∀ (c : Instr) (rest : List Instr) (s : State),
    step { s with pending := c :: rest } = exec c { s with pending := rest }

/-- A step on an empty queue is one millisecond: every running timer counts down (R86, R139, R147, R158, R186) and those
that run out put their expiries in the queue (the model's choice, log entry 4). Without main power nothing happens (R173). In STARTING it also read-checks
the next slot in ascending order: a record that disagrees is quarantined, RECORD_QUARANTINED is latched, nothing else happens
(R163), and after slot 191 the completion joins the queue; that this goes one slot a millisecond is the model's choice (log
entry 7). A record's words are those of `recordWords`, in the model's order (log entry 6). -/
def Obligations.QuietMillisecond : Prop :=
  ∀ s : State, s.pending = [] →
    (s.powered = false → step s = .next s) ∧
    (s.powered = true → (∀ k, s.device ≠ .starting k) →
      step s = .next
        { s with
          console := { s.console with supervision := s.console.supervision.countDown }
          approval := { s.approval with tickets := s.approval.tickets.map Ticket.countDown }
          stations := s.stations.map fun k => { k with timer := k.timer.countDown }
          checker := { s.checker with sweepTimer := s.checker.sweepTimer.map (· - 1) }
          pending := expiries s }) ∧
    ∀ k, s.powered = true → s.device = .starting k → s.NothingHangs →
      ∃ t, step s = .next t ∧
        t = { s with
          device := .starting (k + 1)
          table := t.table
          events :=
            { s.events with
              latched :=
                if (List.finRange 192).any fun i => i.val == k && !(s.slot i).readable then
                  s.events.latched ||| Event.recordQuarantined.bit
                else s.events.latched }
          console := { s.console with supervision := s.console.supervision.countDown }
          approval := { s.approval with tickets := s.approval.tickets.map Ticket.countDown }
          stations := s.stations.map fun k => { k with timer := k.timer.countDown }
          checker := { s.checker with sweepTimer := s.checker.sweepTimer.map (· - 1) }
          pending := expiries s ++ (if 191 ≤ k then [.startUpCheckCompletion] else []) } ∧
        ∀ i, t.slot i = if i.val = k then (s.slot i).checked else s.slot i

/-- The controller right after the power-on of a new part (R175, R190, R192, R194, R54, R111, R112, R133): the values the
rules give. That this first power-on is the reset, that every record is EMPTY and that the latch is clear, so that the device is
STARTING, is the model's choice (log entry 1). The levels of the pins are the model's choice too (log entry 2) and are not
stated. -/
def Obligations.ResetState : Prop :=
  State.reset.pending = [] ∧ State.reset.device = .starting 0 ∧ State.reset.events.restartIndication = true ∧
    State.reset.events.latched = 0 ∧ State.reset.events.mask = 0 ∧
    State.reset.engine = { queue := [], service := none, lastServed := 7 } ∧
    State.reset.approval = { tickets := [], finished := [], counter := 0 } ∧
    State.reset.checker = { sweepPosition := 191, sweepTimer := none } ∧
    State.reset.console.receiver = .hunting ∧ State.reset.console.supervision = .off ∧
    State.reset.console.lastVerify = .none ∧ State.reset.console.lastVerifySlot = 0 ∧
    State.reset.console.verifyPending = false ∧
    State.reset.console.settings =
      { identityTimeout := 2, receiptTimeout := 5, approvalWindow := 120, supervisionPeriod := 0, sweepPeriod := 200,
        allowanceLow := 100 } ∧
    (∀ l, (State.reset.line l).last = { outcome := .none, slot := 0, check := none }) ∧
    (∀ st, (State.reset.station st).state = .unbound ∧ (State.reset.station st).base = none ∧
      (State.reset.station st).package = none ∧ (State.reset.station st).timer = .stopped ∧
      (State.reset.station st).transmitter = []) ∧
    ∀ i, State.reset.account i = none ∧ (State.reset.slot i).waiting = []

/-- No command or event touches the queue of those that wait (the queue is the model's, log entry 3). Nor does a step break
the order among the stations that wait and serve: from every state with lawful records and latch, it keeps `StationsLawful`:
the shape of every context (R113, R114), bindings to BASE records that hold their key, waiting lists of exactly the STALLED
stations, and the law that packages and OUTSTANDING entries name one another (R118). And from every state with lawful records
it keeps `StartUpLawful`: in STARTING no job is held, no station is bound or waits, and no record is being assembled (R163). -/
def Obligations.ExecKeepsQueue : Prop :=
  (∀ (c : Instr) (s t : State), exec c s = .next t → t.pending = s.pending) ∧
    (∀ s t : State, s.RecordsLawful → s.TamperLawful → s.StationsLawful → step s = .next t → t.StationsLawful) ∧
    ∀ s t : State, s.RecordsLawful → s.StartUpLawful → step s = .next t → t.StartUpLawful

/-- Without main power no event of a block is processed (R173). Tamper inputs, readings and storage errors change the
battery-backed table and Tamper Monitor alone. That a reading then latches no TEMPERATURE_WARNING is log entry 14, and that a
storage error acts without main power is log entry 29. -/
def Obligations.PowerlessEvents : Prop :=
  ∀ (c : Instr) (s t : State), s.powered = false → exec c s = .next t →
    match c with
    | .powerOn _ _ _ => True
    | .powerDown => True
    | .tamperCause _ => t = { s with table := t.table, tamper := t.tamper }
    | .tamperInputInactive _ => t = { s with tamper := t.tamper }
    | .temperatureReading _ => t = { s with table := t.table, tamper := t.tamper }
    | .storageError _ _ => t = { s with table := t.table }
    | _ => t = s

/-- The tamper latch, once set, and the names in the cause stay through every command and event but an APPROVE (R168: the
execution of a CLEAR_TAMPER ticket, and no other event, clears them). Every step keeps `TamperLawful`: under main power the
device is TAMPERED exactly while the latch is set, the latch is set exactly while a cause is named, every record is then
EMPTY, and the tickets of a TAMPERED device are CLEAR_TAMPER tickets (R170, R73). -/
def Obligations.TamperLatchStays : Prop :=
  (∀ (c : Instr) (s t : State), (∀ l p, c ≠ .approve l p) → exec c s = .next t →
    (s.tamper.latch = true → t.tamper.latch = true) ∧ s.tamper.cause &&& t.tamper.cause = s.tamper.cause) ∧
    ∀ s t : State, s.TamperLawful → step s = .next t → t.TamperLawful

/-- The settings change by SET_SETTINGS alone, the alert mask by SET_ALERT_MASK alone, and a latched event leaves its set
by READ_EVENTS alone (R190, R191, R192, R194): all three are kept through every reset. -/
def Obligations.StoredValuesStay : Prop :=
  ∀ (c : Instr) (s t : State), exec c s = .next t →
    ((∀ p, c ≠ .setSettings p) → t.console.settings = s.console.settings) ∧
    ((∀ p, c ≠ .setAlertMask p) → t.events.mask = s.events.mask) ∧
    ((∀ p, c ≠ .readEvents p) → s.events.latched &&& t.events.latched = s.events.latched)

/-- At reset every record is lawful, the engine is settled, and the laws of names (R10), of the approval table (R72), of the
tamper latch (R168, R170), of the stations (R113, R114, R118) and of STARTING (R163) hold. -/
def Obligations.ResetIsSafe : Prop :=
  (State.reset.RecordsLawful ∧ State.reset.engine.Settled) ∧
    State.reset.NamesDistinct ∧ State.reset.approval.Lawful ∧ State.reset.TamperLawful ∧ State.reset.StationsLawful ∧
    State.reset.StartUpLawful

/-- Every step keeps the laws of the records: the ranges, the window and the account of numbers of R28 to R32, EXHAUSTED at
the end of the range (R35), permissions within the class (R3), the assembly part in ASSEMBLING alone and within the quorum
(R2, R52), and waiting lists on BASE records that hold their key (R7). From EVERY state with lawful records. And every step keeps labels
distinct among the records in use, and model classes distinct among those that hold one (R10). -/
def Obligations.StepKeepsRecordsLawful : Prop :=
  (∀ s t : State, s.RecordsLawful → step s = .next t → t.RecordsLawful) ∧
    ∀ s t : State, s.NamesDistinct → step s = .next t → t.NamesDistinct

/-- Between events the engine is never in WAITING_CHOICE (R101, R103). -/
def Obligations.StepKeepsEngineSettled : Prop :=
  ∀ s t : State, s.engine.Settled → step s = .next t → t.engine.Settled

/-! ## Frames and the console line -/

/-- The frame of R198: its parts in order, CHECK, the acceptance of a check, the longest frame, and the address of the
frames the controller sends, with the two worked cases. -/
def Obligations.FrameFormat : Prop :=
  (∀ f : Frame, f.payload.length ≤ 200 →
    f.bytes =
        [0xA7, f.address, f.kind, BitVec.ofNat 8 f.payload.length] ++ f.payload ++
          [0x5C - (f.address + f.kind + BitVec.ofNat 8 f.payload.length + f.payload.sum)] ∧
      f.bytes.tail.sum = 0x5C ∧ f.bytes.length = f.payload.length + 5 ∧ f.bytes.length ≤ 205) ∧
    (∀ (l : List Byte) (b : Byte), 3 ≤ l.length → (l[2]?.getD 0).toNat ≤ 200 →
      l.length = (l[2]?.getD 0).toNat + 3 →
        (receiveItem l (.character b true) = .frame (frameOfBytes (l ++ [b])) ↔ (l ++ [b]).sum = 0x5C)) ∧
    (∀ (kind : Byte) (r : Reply), ∃ a, (deliver kind r).console.receiver = .closed a ∧
      a.frame.address = r.state.console.unitAddress.setWidth 8) ∧
    (∀ a : CustodianAnswer, a.frame.address = 0) ∧
    (∀ (st : StationId) (f : StationFrame), (f.frame st).address = 0) ∧
    (Frame.mk 3 0x10 [0, 5]).bytes = [0xA7, 3, 0x10, 2, 0, 5, 0x42] ∧
    (Frame.mk 3 0x82 [0x40, 0]).bytes = [0xA7, 3, 0x82, 2, 0x40, 0, 0x95]

/-- The bytes of any frame, received one after the other on the console line from HUNTING, are taken as exactly the command
that R178 makes of the frame, and leave the receiver HUNTING and everything else as it was (R179, R198, R199). So are its
bits, 11 for each byte: a start bit, the data bits with the least significant first, the even parity bit, the stop bit
(R197). The queue, and the way from a line's characters to it, are the model's (log entries 3 and 28). -/
def Obligations.ConsoleFrameBecomesCommand : Prop :=
  ∀ (f : Frame) (s : State), f.payload.length ≤ 200 → s.powered = true → s.console.receiver = .hunting →
    ((f.bytes.map fun b => LineItem.character b true).foldl (fun s x => consoleItem x s) s =
      match consoleFrame s.console.unitAddress f with
      | none => s
      | some c => { s with pending := s.pending ++ [c] }) ∧
    ∀ since : Nat,
      consoleBits (.idle since)
          (f.bytes.flatMap fun b =>
            let data := (List.range 8).map fun i => b.getLsbD i
            false :: data ++ [data.count true % 2 == 1, true]) s =
        match consoleFrame s.console.unitAddress f with
        | none => s
        | some c => { s with pending := s.pending ++ [c] }

/-- The refusals of the Console Link (R179, R180, R181): a console command is not received while the unit is not heard; a
KIND that names no command is answered UNKNOWN_COMMAND; a length that does not fit, BAD_LENGTH; the device state refuses
with NOT_READY or TAMPERED. Each refusal feeds supervision, is answered and changes nothing else. -/
def Obligations.ConsoleRefusals : Prop :=
  (∀ (s : State) (kind : Byte) (p : Payload), s.takesCommand = true → kind.toNat < 0x80 → kind ∉ consoleKinds →
    exec (.unknownCommand kind p) s = .next (answered kind .unknownCommand [] s)) ∧
  ∀ (c : Instr) (kind : Byte) (p : Payload) (s : State), consoleForm c = some (kind, p) →
    (s.takesCommand = false → exec c s = .next s) ∧
    (s.takesCommand = true → fitsKind kind p = false → exec c s = .next (answered kind .badLength [] s)) ∧
    (s.takesCommand = true → fitsKind kind p = true → (∃ k, s.device = .starting k) → kind ≠ 0x01 → kind ≠ 0x02 →
      exec c s = .next (answered kind .notReady [] s)) ∧
    (s.takesCommand = true → fitsKind kind p = true → s.device = .tampered →
      kind ∉ ([0x01, 0x04, 0x21, 0x06, 0x22] : List Byte) → ¬ (kind = 0x20 ∧ p[0]? = some 5) →
        exec c s = .next (answered kind .tampered [] s))

/-- STATUS is answered OK in every device state with the nine fields of R184, changing nothing; READ_EVENTS gives the latched
set and empties it (R191); SET_ALERT_MASK stores the set carried, less the bits that name
no event (R192); ACK_RESTART clears the restart indication (R177); RESTART is answered OK and changes nothing yet (R174). The status summary of
every answer has the parts of R183 in the bits of R204, and under main power the alert output follows the four causes of R193.
The byte of the tamper latch in STATUS is the model's (log entry 33). -/
def Obligations.LinkCommands : Prop :=
  (∀ s : State,
    (s.powered = true →
      (alertAsserted s = true ↔
        s.events.latched &&& ~~~ s.events.mask ≠ 0 ∨ (∃ st, (s.station st).state = .held) ∨
          s.events.restartIndication = true ∨ s.device = .tampered)) ∧
    (statusSummary s).extractLsb' 6 2 =
        (match s.device with
         | .starting _ => 0
         | .operational => 1
         | .tampered => 2) ∧
    (statusSummary s).getLsbD 5 = alertAsserted s ∧ (statusSummary s).getLsbD 4 = s.events.restartIndication ∧
    (statusSummary s).getLsbD 3 = s.console.verifyPending ∧
    ((statusSummary s).getLsbD 2 = true ↔ ∃ st, (s.station st).state = .held) ∧
    ((statusSummary s).getLsbD 1 = true ↔ s.events.latched ≠ 0) ∧ (statusSummary s).getLsbD 0 = false) ∧
  (∀ s : State, s.takesCommand = true →
    exec (.status []) s = .next (answered 0x01 .ok
      ([s.console.unitAddress.setWidth 8, if s.tamper.latch then 1 else 0, s.tamper.cause.setWidth 8, s.tamper.band.code,
        s.console.lastVerify.code, BitVec.ofNat 8 s.console.lastVerifySlot.val, (fedSupervision s).code] ++
        bytesOfNat 2 (fedSupervision s).secondsLeft ++ [BitVec.ofNat 8 (heldCount s)]) s)) ∧
  (∀ s : State, s.takesCommand = true → (∀ k, s.device ≠ .starting k) →
    exec (.readEvents []) s = .next
      (answered 0x04 .ok (bytesOfNat 4 s.events.latched.toNat) { s with events := { s.events with latched := 0 } })) ∧
  (∀ (s : State) (p : Payload), s.Serves → p.length = 4 →
    exec (.setAlertMask p) s = .next
      (answered 0x05 (if natOfBytes p < 2 ^ 19 then .ok else .clamped) (bytesOfNat 4 (natOfBytes p % 2 ^ 19))
        { s with events := { s.events with mask := BitVec.ofNat 19 (natOfBytes p) } })) ∧
  (∀ s : State, s.Serves →
    exec (.ackRestart []) s = .next
      (answered 0x03 .ok [] { s with events := { s.events with restartIndication := false } })) ∧
  ∀ s : State, s.takesCommand = true → s.device ≠ .tampered →
    exec (.restart []) s = .next (answered 0x02 .ok [] s)

/-- SET_SETTINGS (R195): refused in STARTING and TAMPERED; else all six values are clamped and stored, CLAMPED when any was
changed, and the answer gives them as stored. A power-down afterwards keeps them. -/
def Obligations.SetSettings : Prop :=
  (∀ (s : State) (p : Payload), s.takesCommand = true → p.length = 10 →
    let carried : Settings :=
      { identityTimeout := natOfBytes (p.take 1), receiptTimeout := natOfBytes ((p.drop 1).take 1),
        approvalWindow := natOfBytes ((p.drop 2).take 2), supervisionPeriod := natOfBytes ((p.drop 4).take 2),
        sweepPeriod := natOfBytes ((p.drop 6).take 2), allowanceLow := natOfBytes ((p.drop 8).take 2) }
    let stored : Settings :=
      { identityTimeout := max 1 (min 10 carried.identityTimeout)
        receiptTimeout := max 1 (min 30 carried.receiptTimeout)
        approvalWindow := max 30 (min 600 carried.approvalWindow)
        supervisionPeriod :=
          if carried.supervisionPeriod = 0 then 0 else max 10 (min 600 carried.supervisionPeriod)
        sweepPeriod := max 20 (min 2000 carried.sweepPeriod)
        allowanceLow := carried.allowanceLow }
    (s.device = .operational →
      exec (.setSettings p) s = .next
        (answered 0x07 (if stored = carried then .ok else .clamped)
          (bytesOfNat 1 stored.identityTimeout ++ bytesOfNat 1 stored.receiptTimeout ++
            bytesOfNat 2 stored.approvalWindow ++ bytesOfNat 2 stored.supervisionPeriod ++
            bytesOfNat 2 stored.sweepPeriod ++ bytesOfNat 2 stored.allowanceLow)
          { s with console := { s.console with settings := stored } })) ∧
    ((∃ k, s.device = .starting k) → exec (.setSettings p) s = .next (answered 0x07 .notReady [] s)) ∧
    (s.device = .tampered → exec (.setSettings p) s = .next (answered 0x07 .tampered [] s))) ∧
  ∀ s t : State, exec .powerDown s = .next t → t.console.settings = s.console.settings

/-- READ_SETTINGS (R196): NOT_READY in STARTING; else OK with the six settings and the alert mask as stored, changing
nothing. Power-down, power-on, RESTART and zeroization keep all seven, so the answer is the same after any reset. -/
def Obligations.ReadSettings : Prop :=
  (∀ s : State, s.takesCommand = true → (∀ k, s.device ≠ .starting k) →
    exec (.readSettings []) s = .next
      (answered 0x06 .ok
        (bytesOfNat 1 s.console.settings.identityTimeout ++ bytesOfNat 1 s.console.settings.receiptTimeout ++
          bytesOfNat 2 s.console.settings.approvalWindow ++ bytesOfNat 2 s.console.settings.supervisionPeriod ++
          bytesOfNat 2 s.console.settings.sweepPeriod ++ bytesOfNat 2 s.console.settings.allowanceLow ++
          bytesOfNat 4 s.events.mask.toNat) s)) ∧
  (∀ s : State, s.takesCommand = true → (∃ k, s.device = .starting k) →
    exec (.readSettings []) s = .next (answered 0x06 .notReady [] s)) ∧
  ∀ (c : Instr) (s t : State),
    (c = .powerDown ∨ (∃ a b x, c = .powerOn a b x) ∨ (∃ a b, c = .consoleAnswerEnd a b) ∨ (∃ x, c = .tamperCause x)) →
      exec c s = .next t → t.console.settings = s.console.settings ∧ t.events.mask = s.events.mask

/-- A discarded frame changes the receiver's state and the event set alone (R179, R53, R137), and a discarded broadcast also
feeds supervision (R185). A station frame discarded outside OPERATIONAL causes no event (R137). A custodian request whose
length does not fit its kind, or that arrives while the line's answer is being sent, latches LINE_ERROR_CUSTODIAN and does
nothing else (R53). A received character has its eight data bits in the order of R197, and is a parity error unless the ones
of data and parity are even and the stop bit is at the stop level; a parity error or a gap inside a frame discards it (R199). -/
def Obligations.DiscardedFrames : Prop :=
  (∀ (data : Byte) (parity stop : Bool),
    let bits := (List.range 8).map fun i => data.getLsbD i
    characterOfBits (false :: bits ++ [parity, stop]) =
      some (.character data ((bits ++ [parity]).count true % 2 == 0 && stop))) ∧
  (∀ (bytes : List Byte) (b : Byte), receiveItem bytes (.character b false) = .bad ∧ receiveItem bytes .gap = .bad) ∧
  (∀ (s : State) (l : Line) (p : Payload) (c : Instr), s.powered = true →
    (c = .component l p ∧ (p.length ≠ 20 ∧ p.length ≠ 36 ∨ (s.line l).sending ≠ none) ∨
      c = .lineStatus l p ∧ (p.length ≠ 0 ∨ (s.line l).sending ≠ none) ∨
      c = .ticketQuery l p ∧ (p.length ≠ 1 ∨ (s.line l).sending ≠ none) ∨
      c = .approve l p ∧ (p.length ≠ 5 ∨ (s.line l).sending ≠ none) ∨
      c = .decline l p ∧ (p.length ≠ 1 ∨ (s.line l).sending ≠ none)) →
    exec c s = .next
      { s with events := { s.events with latched := s.events.latched ||| Event.lineErrorCustodian.bit } }) ∧
  (∀ s : State, s.consoleOpen = true →
    exec .consoleFrameError s = .next
      { s with
        console := { s.console with receiver := .hunting }
        events := { s.events with latched := s.events.latched ||| Event.lineErrorConsole.bit } }) ∧
  (∀ (s : State) (l : Line), s.powered = true →
    exec (.custodianFrameError l) s = .next
      { s.setLine l { s.line l with receiver := .hunting } with
        events := { s.events with latched := s.events.latched ||| Event.lineErrorCustodian.bit } }) ∧
  (∀ (s : State) (st : StationId), s.powered = true →
    exec (.stationFrameError st) s = .next
      { s.setStation st { s.station st with receiver := .hunting } with
        events :=
          { s.events with
            latched :=
              if s.device = .operational then s.events.latched ||| Event.lineErrorStation.bit
              else s.events.latched } }) ∧
  ∀ (s : State) (kind : Byte) (p : Payload), s.consoleOpen = true → kind.toNat < 0x80 →
    exec (.broadcastDiscard kind p) s = .next
      { s with
        console := { s.console with supervision := fedSupervision s }
        events := { s.events with latched := s.events.latched ||| Event.lineErrorConsole.bit } }

/-- DISARM_ALL (R129, R123, R185): in OPERATIONAL a WAITING station goes to BOUND disarmed, a station with a terminal loses
armed alone, every other station is unchanged; in STARTING and TAMPERED nothing happens; either way supervision is fed. -/
def Obligations.DisarmAllDisarms : Prop :=
  ∀ s : State, s.consoleOpen = true →
    (s.device ≠ .operational →
      exec (.disarmAll []) s = .next { s with console := { s.console with supervision := fedSupervision s } }) ∧
    (s.device = .operational → ∃ t, exec (.disarmAll []) s = .next t ∧
      t = { s with stations := t.stations, console := { s.console with supervision := fedSupervision s } } ∧
      ∀ st,
        ((s.station st).state = .waiting → t.station st = (s.station st).rest) ∧
        ((s.station st).state.hasTerminal = true → t.station st = { s.station st with armed := false }) ∧
        ((s.station st).state ≠ .waiting → (s.station st).state.hasTerminal = false → t.station st = s.station st))

/-- The supervision timer runs out (R187, R132): LAPSED, SUPERVISION_LAPSED, LINE-mode stations in WAITING to BOUND and
those with a terminal marked; nothing else changes. The next feed restarts the timer and touches no station. -/
def Obligations.SupervisionLapse : Prop :=
  (∀ s : State, feed s = { s with console := { s.console with supervision := fedSupervision s } }) ∧
  ∀ (s : State) (left : Nat), s.powered = true → s.console.supervision = .running left →
    ∃ t, exec .supervisionLapse s = .next t ∧
      t = { s with
        stations := t.stations
        console := { s.console with supervision := .lapsed }
        events := { s.events with latched := s.events.latched ||| Event.supervisionLapsed.bit } } ∧
      ∀ st,
        ((s.station st).mode = .line → (s.station st).state = .waiting → t.station st = (s.station st).rest) ∧
        ((s.station st).mode = .line → (s.station st).state.hasTerminal = true →
          t.station st = { s.station st with disarmAfter := true }) ∧
        ((s.station st).mode = .single ∨
          ((s.station st).state ≠ .waiting ∧ (s.station st).state.hasTerminal = false) → t.station st = s.station st)

/-- The end of an answer opens the receiver (R179), and after the answer to an accepted RESTART makes the restart event,
which from a clear latch with no input active leaves STARTING with the volatile state cleared (R174, R175). With the latch set
the inputs found active join the cause and the device is TAMPERED; with the latch clear an active input is a tamper cause, and
every record is EMPTY (R175 steps 4 and 5, R168, R169). -/
def Obligations.AnswerEnds : Prop :=
  ∀ (s : State) (a : ConsoleAnswer) (straps : BitVec 4) (senses : BitVec 8), s.powered = true →
    s.console.receiver = .closed a →
    (¬ (a.kind = 0x82 ∧ a.code = .ok) →
      exec (.consoleAnswerEnd straps senses) s = .next { s with console := { s.console with receiver := .hunting } }) ∧
    (a.kind = 0x82 → a.code = .ok → s.tamper.latch = false → s.tamper.enclosureActive = false →
      s.tamper.supplyActive = false → s.tamper.band ≠ .limit →
      exec (.consoleAnswerEnd straps senses) s = .next
        { clearVolatile straps senses s with
          device := .starting 0, events := { s.events with restartIndication := true } }) ∧
    (a.kind = 0x82 → a.code = .ok →
      let active : BitVec 3 :=
        (if s.tamper.enclosureActive then 1 else 0) ||| (if s.tamper.band = .limit then 2 else 0) |||
          (if s.tamper.supplyActive then 4 else 0)
      (s.tamper.latch = true →
        exec (.consoleAnswerEnd straps senses) s = .next
          { clearVolatile straps senses s with
            device := .tampered, events := { s.events with restartIndication := true }
            tamper := { s.tamper with cause := s.tamper.cause ||| active } }) ∧
      (s.tamper.latch = false → active ≠ 0 →
        exec (.consoleAnswerEnd straps senses) s = .next
          { clearVolatile straps senses s with
            device := .tampered, events := { s.events with restartIndication := true }
            tamper := { s.tamper with latch := true, cause := s.tamper.cause ||| active }
            table := Vector.replicate 192 { account := none, words := [], waiting := [] } }))

/-- POWER_ON is a restart event with the band set from the first reading (R173, R175, R167): with the latch clear, the
enclosure closed and the reading within limits it leads to STARTING, a first reading in the WARNING band latching
TEMPERATURE_WARNING; with the latch set, or an input active, to TAMPERED. That the first reading is judged as from NORMAL,
whatever the band was before power-down, is log entry 14; that POWER_ON under main power is the same event is log entry 8.
POWER_DOWN loses the volatile state and keeps the battery-backed state. The first clause says what a restart event clears and
keeps: nothing volatile is left, the records in ASSEMBLING are EMPTY, every other record keeps its account copy and words. What stands
in a volatile place without power is the model's (log entry 10). -/
def Obligations.PowerOnAndDown : Prop :=
  (∀ (s : State) (straps : BitVec 4) (senses : BitVec 8),
    (clearVolatile straps senses s).approval = { tickets := [], finished := [], counter := 0 } ∧
    (clearVolatile straps senses s).engine = { queue := [], service := none, lastServed := 7 } ∧
    (clearVolatile straps senses s).checker = { sweepPosition := 191, sweepTimer := none } ∧
    (clearVolatile straps senses s).console =
      { unitAddress := straps, receiver := .hunting,
        supervision := if s.console.settings.supervisionPeriod = 0 then .off else .stopped,
        lastVerify := .none, lastVerifySlot := 0, verifyPending := false, settings := s.console.settings } ∧
    (∀ l, (clearVolatile straps senses s).line l =
      { receiver := .hunting, sending := none, last := { outcome := .none, slot := 0, check := none } }) ∧
    (∀ st, (clearVolatile straps senses s).station st = Station.cleared (senses.getLsbD st.val)) ∧
    (∀ i a, s.account i = some a →
      (clearVolatile straps senses s).slot i =
        if a.state = .assembling then { account := none, words := [], waiting := [] }
        else { s.slot i with waiting := [] }) ∧
    (clearVolatile straps senses s).events = s.events ∧ (clearVolatile straps senses s).tamper = s.tamper) ∧
  (∀ (s : State) (straps : BitVec 4) (senses : BitVec 8) (c : Int), s.tamper.latch = false →
    s.tamper.enclosureActive = false → -5 ≤ c → c ≤ 70 →
      exec (.powerOn straps senses c) s = .next
        { clearVolatile straps senses s with
          powered := true, device := .starting 0, events := { s.events with restartIndication := true }
          tamper := { s.tamper with band := .normal, supplyActive := false } }) ∧
  (∀ (s : State) (straps : BitVec 4) (senses : BitVec 8) (c : Int), s.tamper.latch = false →
    s.tamper.enclosureActive = false → 70 < c ∧ c ≤ 85 ∨ -20 ≤ c ∧ c < -5 →
      exec (.powerOn straps senses c) s = .next
        { clearVolatile straps senses s with
          powered := true, device := .starting 0
          events :=
            { s.events with
              restartIndication := true, latched := s.events.latched ||| Event.temperatureWarning.bit }
          tamper := { s.tamper with band := .warning, supplyActive := false } }) ∧
  (∀ (s : State) (straps : BitVec 4) (senses : BitVec 8) (c : Int),
    s.tamper.latch = true ∨ s.tamper.enclosureActive = true ∨ c > 85 ∨ c < -20 →
      ∃ t, exec (.powerOn straps senses c) s = .next t ∧ t.powered = true ∧ t.device = .tampered ∧
        t.tamper.latch = true ∧ t.events.restartIndication = true ∧ t.console.unitAddress = straps ∧
        t.console.settings = s.console.settings) ∧
  ∀ s : State, ∃ t, exec .powerDown s = .next t ∧ t.powered = false ∧ t.console.settings = s.console.settings ∧
    t.events.latched = s.events.latched ∧ t.events.mask = s.events.mask ∧ t.tamper.latch = s.tamper.latch ∧
    t.tamper.cause = s.tamper.cause ∧ t.tamper.enclosureActive = s.tamper.enclosureActive ∧
    t.tamper.band = s.tamper.band ∧ t.engine = { queue := [], service := none, lastServed := 7 } ∧
    t.approval = { tickets := [], finished := [], counter := 0 } ∧
    ∀ i, t.slot i = { s.slot i with waiting := [] }

/-! ## Records -/

/-- READ_RECORDS (R24): BAD_SLOT above 191; else the count delivered and the summaries of the slots from the first on,
CLAMPED when the count delivered is not the count carried. It changes no record. A summary has the 59 bytes of R25 in the order
of R203: an EMPTY slot's number and zeros; a TRANSPORT record with its model class; a BASE record with its issuance part, the
window map giving entry k of the window in bits 31 - 2k and 30 - 2k and none at and beyond next - floor. The contributed lines
are those of the assembly part, which stands in ASSEMBLING alone (R2). -/
def Obligations.ReadRecords : Prop :=
  (∀ (i : SlotId) (sl : Slot),
    (Slot.summary i sl).length = 59 ∧
    (sl.account = none → Slot.summary i sl = BitVec.ofNat 8 i.val :: List.replicate 58 0) ∧
    ∀ a, sl.account = some a →
      let head (cls : Byte) : List Byte :=
        [BitVec.ofNat 8 i.val, a.state.code, cls, BitVec.ofNat 8 a.keyLength.toNat] ++ bytesOfNat 8 a.label.toNat ++
          bytesOfNat 3 (a.checkValue.getD 0).toNat ++
          [a.permissions.setWidth 8, BitVec.ofNat 8 a.quorum.toNat,
           (match a.assembly with
            | none => 0
            | some m => m.contributed.setWidth 8)]
      (∀ m, a.part = .transport m → Slot.summary i sl = head 2 ++ bytesOfNat 2 m.toNat ++ List.replicate 39 0) ∧
      ∀ iss, a.part = .base iss →
        ∃ map : List Byte,
          Slot.summary i sl =
            head 1 ++ [0, 0] ++ bytesOfNat 5 iss.issuer.toNat ++ bytesOfNat 4 iss.tag.toNat ++ bytesOfNat 3 iss.first ++
              bytesOfNat 3 iss.last ++ bytesOfNat 3 iss.next ++ bytesOfNat 3 iss.floor ++ map ++
              bytesOfNat 2 iss.allowance ++ bytesOfNat 4 iss.issued ++ bytesOfNat 4 iss.confirmed ++
              bytesOfNat 4 iss.voided ∧
          map.length = 4 ∧
          ∀ k, k < 16 →
            natOfBytes map / 4 ^ (15 - k) % 4 =
              if iss.next - iss.floor ≤ k then 0
              else
                match iss.window[k]? with
                | none => 0
                | some .outstanding => 1
                | some .confirmed => 2
                | some .voided => 3) ∧
  ∀ (s : State) (first count : Byte), s.Serves → s.Sound → s.engine.Settled →
    (192 ≤ first.toNat → exec (.readRecords [first, count]) s = .next (answered 0x10 .badSlot [] s)) ∧
    (first.toNat < 192 →
      let n := min (min (max count.toNat 1) 3) (192 - first.toNat)
      exec (.readRecords [first, count]) s = .next
        (answered 0x10 (if n = count.toNat then .ok else .clamped)
          (BitVec.ofNat 8 n ::
            ((List.finRange 192).drop first.toNat |>.take n).flatMap fun i => Slot.summary i (s.slot i)) s))

/-- FIND_LABEL (R12, R11): BAD_VALUE for a byte outside 0x20 to 0x7E; the lowest slot whose record bears the label, with its
state; NOT_FOUND when none does. FIND_MODEL (R13): the ACTIVE TRANSPORT record of the model class. Neither changes a record. -/
def Obligations.FindsRecords : Prop :=
  ∀ s : State, s.Serves → s.Sound → s.engine.Settled →
    (∀ p : Payload, p.length = 8 →
      (p.all (fun b => 0x20 ≤ b.toNat && b.toNat ≤ 0x7E) = false →
        exec (.findLabel p) s = .next (answered 0x11 .badValue [] s)) ∧
      (p.all (fun b => 0x20 ≤ b.toNat && b.toNat ≤ 0x7E) = true →
        (∀ i a, s.account i = some a → a.label = BitVec.ofNat 64 (natOfBytes p) →
          (∀ j b, j < i → s.account j = some b → b.label ≠ BitVec.ofNat 64 (natOfBytes p)) →
          exec (.findLabel p) s = .next (answered 0x11 .ok [BitVec.ofNat 8 i.val, a.state.code] s)) ∧
        ((∀ i a, s.account i = some a → a.label ≠ BitVec.ofNat 64 (natOfBytes p)) →
          exec (.findLabel p) s = .next (answered 0x11 .notFound [] s)))) ∧
    ∀ hi lo : Byte,
      (hi = 0 → lo = 0 → exec (.findModel [hi, lo]) s = .next (answered 0x12 .badValue [] s)) ∧
      (¬ (hi = 0 ∧ lo = 0) →
        (∀ i a, s.account i = some a → a.state = .active → a.part = .transport (hi ++ lo) →
          (∀ j b, j < i → s.account j = some b → ¬ (b.state = .active ∧ b.part = .transport (hi ++ lo))) →
          exec (.findModel [hi, lo]) s = .next (answered 0x12 .ok [BitVec.ofNat 8 i.val] s)) ∧
        ((∀ i a, s.account i = some a → ¬ (a.state = .active ∧ a.part = .transport (hi ++ lo))) →
          exec (.findModel [hi, lo]) s = .next (answered 0x12 .notFound [] s)))

/-- A CREATE that passes the checks of R14 sets the record of R16 in its slot, with the permissions cut to the flags of the
class (R15), CLAMPED when the cut dropped a flag. No other slot changes. The first clauses give the operands where R202 and
R200 put them, and the parts of R16: an issuance part with next and floor at first, an empty window, and allowance and counts
at 0, or a model class. A record's
words are those of `recordWords`, in the model's order (log entry 6). -/
def Obligations.CreateMakesRecord : Prop :=
  (∀ p : Payload,
    (p.length = 29 ∧ p[1]? ≠ some 2 ∨ p.length = 15 ∧ p[1]? ≠ some 1 ↔ ∃ c, createOperands p = some c) ∧
    ∀ c, createOperands p = some c →
      (some c.slot = p[0]? ∧ some c.cls = p[1]? ∧ c.label = (p.drop 2).take 8 ∧ some c.keyLength = p[10]? ∧
        some c.quorum = p[11]? ∧ some c.permissions = p[12]?) ∧
      ∀ k q part, createPart c = some (k, q, part) →
        (c.keyLength = 16 ∧ k = .bytes16 ∨ c.keyLength = 32 ∧ k = .bytes32) ∧
        (c.quorum = 2 ∧ q = .two ∨ c.quorum = 3 ∧ q = .three) ∧
        (c.cls = 1 ∧ part = .base
            { issuer := BitVec.ofNat 40 (natOfBytes ((p.drop 13).take 5))
              tag := BitVec.ofNat 32 (natOfBytes ((p.drop 18).take 4))
              usage := p.getD 22 0
              first := natOfBytes ((p.drop 23).take 3), last := natOfBytes ((p.drop 26).take 3)
              next := natOfBytes ((p.drop 23).take 3), floor := natOfBytes ((p.drop 23).take 3)
              window := [], allowance := 0, issued := 0, confirmed := 0, voided := 0 } ∨
          c.cls = 2 ∧ part = .transport (BitVec.ofNat 16 (natOfBytes ((p.drop 13).take 2))))) ∧
  ∀ (s : State) (p : Payload) (c : CreateOperands) (i : SlotId) (k : KeyLength) (q : Quorum) (part : ClassPart),
    s.Serves → s.Sound → s.engine.Settled → createOperands p = some c → c.slot.toNat = i.val →
    createPart c = some (k, q, part) → s.account i = none →
    (∀ j a, s.account j = some a → a.label ≠ BitVec.ofNat 64 (natOfBytes c.label)) →
    (∀ j a m, part = .transport m → s.account j = some a → a.part = .transport m → a.state.holdsModel = false) →
    let stored := c.permissions.setWidth 4 &&& part.validFlags
    let a : Account :=
      { state := .assembling, label := BitVec.ofNat 64 (natOfBytes c.label), keyLength := k, quorum := q,
        permissions := stored, checkValue := none, assembly := some { contributed := 0, reserved := 0, checks := [] },
        part := part }
    exec (.create p) s = .next
      (answered 0x13 (if stored.setWidth 8 = c.permissions then .ok else .clamped)
        [BitVec.ofNat 8 i.val, stored.setWidth 8]
        (s.setSlot i { account := some a, words := recordWords a (some (Key.zero k)), waiting := [] }))

/-- CREATE is refused in the order of R14: BAD_SLOT, BAD_VALUE, BAD_STATE for a slot in use, LABEL_IN_USE, MODEL_IN_USE;
a refused CREATE changes no record. The first clause says which operands are the BAD_VALUE of checks 2 to 4: class, key length,
quorum or label byte; for BASE a range out of order or past 16,777,214 or a usage byte of 0x00 or 0xFF; for TRANSPORT model
class 0. -/
def Obligations.CreateRefuses : Prop :=
  (∀ (p : Payload) (c : CreateOperands), createOperands p = some c →
    let first := natOfBytes ((p.drop 23).take 3)
    let last := natOfBytes ((p.drop 26).take 3)
    (createPart c = none ↔
      (c.cls ≠ 1 ∧ c.cls ≠ 2) ∨ (c.keyLength ≠ 16 ∧ c.keyLength ≠ 32) ∨ (c.quorum ≠ 2 ∧ c.quorum ≠ 3) ∨
        (∃ b ∈ c.label, b.toNat < 0x20 ∨ 0x7E < b.toNat) ∨
        (c.cls = 1 ∧ (last < first ∨ 16777214 < last ∨ p.getD 22 0 = 0x00 ∨ p.getD 22 0 = 0xFF)) ∨
        (c.cls = 2 ∧ natOfBytes ((p.drop 13).take 2) = 0))) ∧
  ∀ (s : State) (p : Payload) (c : CreateOperands), s.Serves → s.Sound → s.engine.Settled → createOperands p = some c →
    (192 ≤ c.slot.toNat → exec (.create p) s = .next (answered 0x13 .badSlot [] s)) ∧
    ∀ i : SlotId, c.slot.toNat = i.val →
      (createPart c = none → exec (.create p) s = .next (answered 0x13 .badValue [] s)) ∧
      ∀ x, createPart c = some x →
        ((∃ a, s.account i = some a) → exec (.create p) s = .next (answered 0x13 .badState [] s)) ∧
        (s.account i = none →
          ((∃ j a, s.account j = some a ∧ a.label = BitVec.ofNat 64 (natOfBytes c.label)) →
            exec (.create p) s = .next (answered 0x13 .labelInUse [] s)) ∧
          ((∀ j a, s.account j = some a → a.label ≠ BitVec.ofNat 64 (natOfBytes c.label)) →
            (∃ j a m, x.2.2 = .transport m ∧ s.account j = some a ∧ a.part = .transport m ∧
              a.state.holdsModel = true) →
            exec (.create p) s = .next (answered 0x13 .modelInUse [] s)))

/-- CANCEL_ASSEMBLY (R66) of a record in ASSEMBLING: the custodian jobs for the slot are abandoned, the record is EMPTY,
every line reserved or contributed whose last outcome names the slot is CANCELLED. -/
def Obligations.CancelAssembly : Prop :=
  ∀ (s : State) (i : SlotId) (a : Account) (m : Assembly), s.Serves → (s.slot i).readable = true → s.engine.Settled →
    s.account i = some a → a.state = .assembling → a.assembly = some m →
    ∃ t, exec (.cancelAssembly [BitVec.ofNat 8 i.val]) s = .next (answered 0x14 .ok [] t) ∧
      t = { s with table := t.table, engine := t.engine, lines := t.lines } ∧
      t.slot i = { account := none, words := [], waiting := [] } ∧ (∀ j, j ≠ i → t.slot j = s.slot j) ∧
      t.engine =
        { s.engine with
          queue := s.engine.queue.filter fun j => !j.isCustodianFor i
          service := s.engine.service.map fun v => if v.job.isCustodianFor i then { v with discard := true } else v } ∧
      ∀ l, t.line l =
        if (m.contributed ||| m.reserved) &&& lineBit l = lineBit l ∧ (s.line l).last.slot = i ∧
            (s.line l).last.outcome ≠ .none then
          { s.line l with last := { outcome := .cancelled, slot := i, check := none } }
        else s.line l

/-- NARROW (R17, R18): the permissions become their intersection with the mask and the state does not change; BAD_STATE, and
no change, for a record that is EMPTY, ASSEMBLING, RETIRED or QUARANTINED. When it removes LINE, a LINE-mode station bound to
the record goes from WAITING to BOUND, or is marked when it has a terminal; every other station is unchanged (R18). A record's
words are those of `recordWords`, in the model's order (log entry 6). -/
def Obligations.NarrowIntersects : Prop :=
  ∀ (s : State) (i : SlotId) (mask : Byte), s.Serves → (s.slot i).readable = true → s.engine.Settled →
    (∀ a, s.account i = some a → a.state = .active ∨ a.state = .suspended ∨ a.state = .exhausted →
      ∃ t, exec (.narrow [BitVec.ofNat 8 i.val, mask]) s =
          .next (answered 0x15 .ok [(a.permissions &&& mask.setWidth 4).setWidth 8] t) ∧
        t = { s with table := t.table, stations := t.stations } ∧
        t.slot i =
          (s.slot i).write { a with permissions := a.permissions &&& mask.setWidth 4 } (s.slot i).secret ∧
        (∀ j, j ≠ i → t.slot j = s.slot j) ∧
        ∀ st,
          (a.has .line = true ∧ mask &&& 2 = 0 ∧ (s.station st).base = some i ∧ (s.station st).mode = .line →
            ((s.station st).state = .waiting →
              t.station st =
                { s.station st with
                  state := .bound, armed := false, disarmAfter := false, identity := none, package := none,
                  timer := .stopped, holds := 0 }) ∧
            ((s.station st).state.hasTerminal = true → t.station st = { s.station st with disarmAfter := true }) ∧
            ((s.station st).state ∈ [StationState.bound, .held, .unbound] → t.station st = s.station st)) ∧
          (¬ (a.has .line = true ∧ mask &&& 2 = 0 ∧ (s.station st).base = some i ∧ (s.station st).mode = .line) →
            t.station st = s.station st)) ∧
    (s.account i = none ∨
        (∃ a, s.account i = some a ∧
          (a.state = .assembling ∨ a.state = .retired ∨ a.state = .quarantined)) →
      exec (.narrow [BitVec.ofNat 8 i.val, mask]) s = .next (answered 0x15 .badState [] s))

/-- SUSPEND takes ACTIVE to SUSPENDED and RESUME takes SUSPENDED to ACTIVE, all fields kept; in any other state each is
refused with BAD_STATE; BAD_SLOT above 191 (R8, R20, R21). A record's
words are those of `recordWords`, in the model's order (log entry 6). -/
def Obligations.SuspendAndResume : Prop :=
  ∀ (s : State) (b : Byte), s.Serves → s.engine.Settled →
    (192 ≤ b.toNat → exec (.suspend [b]) s = .next (answered 0x16 .badSlot [] s) ∧
      exec (.resume [b]) s = .next (answered 0x17 .badSlot [] s)) ∧
    ∀ i : SlotId, b.toNat = i.val → (s.slot i).readable = true →
      (∀ a, s.account i = some a → a.state = .active →
        exec (.suspend [b]) s = .next
          (answered 0x16 .ok [b, 3] (s.setSlot i ((s.slot i).write { a with state := .suspended } (s.slot i).secret)))) ∧
      ((∀ a, s.account i = some a → a.state ≠ .active) →
        exec (.suspend [b]) s = .next (answered 0x16 .badState [] s)) ∧
      (∀ a, s.account i = some a → a.state = .suspended →
        exec (.resume [b]) s = .next
          (answered 0x17 .ok [b, 2] (s.setSlot i ((s.slot i).write { a with state := .active } (s.slot i).secret)))) ∧
      ((∀ a, s.account i = some a → a.state ≠ .suspended) →
        exec (.resume [b]) s = .next (answered 0x17 .badState [] s))

/-- RETIRE by the conditions of R22, in order: BAD_STATE; BUSY while a station or package depends on the record or a number
is OUTSTANDING; else RETIRED, the key wiped, all else kept. A record's
words are those of `recordWords`, in the model's order (log entry 6). -/
def Obligations.Retire : Prop :=
  ∀ (s : State) (i : SlotId), s.Serves → s.engine.Settled → (s.slot i).readable = true →
    ((∀ a, s.account i = some a → a.state = .assembling ∨ a.state = .retired ∨ a.state = .quarantined) →
      exec (.retire [BitVec.ofNat 8 i.val]) s = .next (answered 0x18 .badState [] s)) ∧
    ∀ a, s.account i = some a → a.state = .active ∨ a.state = .suspended ∨ a.state = .exhausted →
      ((∃ st, (s.station st).base = some i ∨
          ∃ p, (s.station st).package = some p ∧ (p.base = i ∨ p.transport = some i)) ∨
        (∃ iss, a.part = .base iss ∧ Entry.outstanding ∈ iss.window) →
        exec (.retire [BitVec.ofNat 8 i.val]) s = .next (answered 0x18 .busy [] s)) ∧
      ((∀ st, (s.station st).base ≠ some i ∧
          ∀ p, (s.station st).package = some p → p.base ≠ i ∧ p.transport ≠ some i) →
        (∀ iss, a.part = .base iss → Entry.outstanding ∉ iss.window) →
        exec (.retire [BitVec.ofNat 8 i.val]) s = .next
          (answered 0x18 .ok [BitVec.ofNat 8 i.val, 5]
            (s.setSlot i
              { account := some { a with state := .retired }, words := recordWords { a with state := .retired } none,
                waiting := [] })))

/-- RELEASE (R23): BAD_STATE unless RETIRED; BUSY while the console holds a VERIFY of the slot; else the slot is EMPTY, and
every OPEN ticket naming it is FAILED with TICKET_FAILED latched (R89), the tickets joining the finished order in the order of
the table (R72), nothing else changing. A CLEAR_TAMPER ticket names no record. -/
def Obligations.Release : Prop :=
  ∀ (s : State) (i : SlotId), s.Serves → s.engine.Settled → (s.slot i).readable = true →
    ((∀ a, s.account i = some a → a.state ≠ .retired) →
      exec (.release [BitVec.ofNat 8 i.val]) s = .next (answered 0x19 .badState [] s)) ∧
    ∀ a, s.account i = some a → a.state = .retired →
      (Job.verify i ∈ s.engine.heldJobs →
        exec (.release [BitVec.ofNat 8 i.val]) s = .next (answered 0x19 .busy [] s)) ∧
      (Job.verify i ∉ s.engine.heldJobs →
        (∀ t ∈ s.approval.tickets, t.isOpen = true → t.slot = i → t.action = .clearTamper) →
        exec (.release [BitVec.ofNat 8 i.val]) s = .next
          (answered 0x19 .ok [BitVec.ofNat 8 i.val, 0]
            (s.setSlot i { account := none, words := [], waiting := [] }))) ∧
      (Job.verify i ∉ s.engine.heldJobs → ∀ t, s.approval.tickets = [t] → t.isOpen = true → t.slot = i →
        t.action ≠ .clearTamper →
        exec (.release [BitVec.ofNat 8 i.val]) s = .next
          (answered 0x19 .ok [BitVec.ofNat 8 i.val, 0]
            { s.setSlot i { account := none, words := [], waiting := [] } with
              approval :=
                { s.approval with
                  tickets := [{ t with state := .failed .badState }]
                  finished := s.approval.finished ++ [t.number] }
              events := { s.events with latched := s.events.latched ||| Event.ticketFailed.bit } })) ∧
      (Job.verify i ∉ s.engine.heldJobs → (s.approval.tickets.map (·.number)).Nodup →
        let falls (t : Ticket) : Bool := t.isOpen && t.slot == i && t.action != .clearTamper
        exec (.release [BitVec.ofNat 8 i.val]) s = .next
          (answered 0x19 .ok [BitVec.ofNat 8 i.val, 0]
            { s.setSlot i { account := none, words := [], waiting := [] } with
              approval :=
                { s.approval with
                  tickets := s.approval.tickets.map fun t =>
                    if falls t then { t with state := .failed .badState } else t
                  finished := s.approval.finished ++ (s.approval.tickets.filter falls).map (·.number) }
              events :=
                { s.events with
                  latched :=
                    if s.approval.tickets.any falls then s.events.latched ||| Event.ticketFailed.bit
                    else s.events.latched } }))

/-- VERIFY (R109): ENGINE_PENDING while the console has a job; BAD_STATE for a record without key material; else verify
pending is set, the VERIFY job joins the queue, and the engine chooses (R102, R103). -/
def Obligations.VerifyCommand : Prop :=
  ∀ (s : State) (i : SlotId), s.Serves → s.engine.Settled → (s.slot i).readable = true →
    ((∃ j, Job.verify j ∈ s.engine.heldJobs) →
      exec (.verify [BitVec.ofNat 8 i.val]) s = .next (answered 0x1A .enginePending [] s)) ∧
    ((∀ j, Job.verify j ∉ s.engine.heldJobs) →
      ((∀ a, s.account i = some a → a.state = .assembling ∨ a.state = .retired ∨ a.state = .quarantined) →
        exec (.verify [BitVec.ofNat 8 i.val]) s = .next (answered 0x1A .badState [] s)) ∧
      ∀ a, s.account i = some a → a.state = .active ∨ a.state = .suspended ∨ a.state = .exhausted →
        exec (.verify [BitVec.ofNat 8 i.val]) s = .next
          (answered 0x1A .ok []
            (settleEngine
              { s with
                console := { s.console with verifyPending := true }
                engine := { s.engine with queue := s.engine.queue ++ [.verify i] } })))

/-- A record in use that disagrees and is not QUARANTINED is quarantined by the read that finds it (R157, R160, R161): the
record is rewritten without its secrets and agrees again, RECORD_QUARANTINED is latched, no held job names the slot, and every
station bound to it is unbound and HELD with INTEGRITY. Stated where no station waits on a list, so that no room is served; the
last clauses also where every other record is readable, so that no quarantine nests: they say all that changes. A VERIFY of the
record ends ABANDONED (R111); lines reserved or contributed whose last outcome names the slot are CANCELLED (R68); bound
stations are as R130 says; a station whose package names the record as its transport keeps its binding, is HELD with INTEGRITY,
and its number is returned or voided in its own base record by R43, several in the order of R125 (R131); the jobs of these
stations are abandoned. A station's transmission is ended in every serving state (R136; deduced, log entry 35), and a line whose record
is not ASSEMBLING, or for which it is neither reserved nor contributed, keeps its outcome (log entry 34). A record's words are those of `recordWords`, in the model's order (log entry
6). -/
def Obligations.FailedReadCheckQuarantines : Prop :=
  ∀ (s : State) (i : SlotId) (a : Account), s.account i = some a → a.state ≠ .quarantined →
    wordSum (s.slot i).words ≠ 0xFFFFFFFF → (∀ j, (s.slot j).waiting = []) →
    (check i s).slot i =
        { account := some { a with state := .quarantined, assembly := none },
          words := recordWords { a with state := .quarantined, assembly := none } none, waiting := [] } ∧
      wordSum ((check i s).slot i).words = 0xFFFFFFFF ∧
      (check i s).events.latched &&& Event.recordQuarantined.bit = Event.recordQuarantined.bit ∧
      (∀ j ∈ (check i s).engine.heldJobs, j.names i = false) ∧
      (∀ st, (s.station st).base = some i →
        ((check i s).station st).state = .held ∧ ((check i s).station st).base = none ∧
          ((check i s).station st).package = none ∧ ((check i s).station st).armed = false ∧
          ((check i s).station st).holds &&& HoldCondition.integrity.bit = HoldCondition.integrity.bit) ∧
      ((∀ j, j ≠ i → (s.slot j).readable = true) →
        let t := check i s
        let bound (st : StationId) : Bool := (s.station st).base == some i
        let user (st : StationId) : Bool :=
          !bound st && (match (s.station st).package with
            | some p => p.transport == some i
            | none => false)
        let verified : Bool := s.engine.heldJobs.any (· == .verify i)
        let involved : BitVec 3 :=
          match a.assembly with
          | some m => m.contributed ||| m.reserved
          | none => 0
        t = { s with
          table := t.table, stations := t.stations, lines := t.lines
          console :=
            if verified then { s.console with lastVerify := .abandoned, lastVerifySlot := i, verifyPending := false }
            else s.console
          engine :=
            s.engine.abandon fun j =>
              j.names i || ofStations (fun st => bound st && (s.station st).state.isServing || user st) j
          events :=
            { s.events with
              latched :=
                s.events.latched ||| Event.recordQuarantined.bit |||
                  (if verified then Event.verifyDone.bit else 0) |||
                  (if (List.finRange 8).any fun st =>
                      (bound st || user st) && (s.station st).holds &&& HoldCondition.integrity.bit == 0 then
                    Event.stationHeld.bit
                  else 0) } } ∧
        (∀ l, t.line l =
          if involved &&& lineBit l = lineBit l ∧ (s.line l).last.slot = i ∧ (s.line l).last.outcome ≠ .none then
            { s.line l with last := { outcome := .cancelled, slot := i, check := none } }
          else s.line l) ∧
        (∀ st, t.station st =
          if bound st then
            if (s.station st).state.isServing then haltedStation none (s.station st)
            else
              { s.station st with
                state := .held, base := none, holds := (s.station st).holds ||| HoldCondition.integrity.bit
                timer := .stopped, identity := none, package := none, armed := false, disarmAfter := false }
          else if user st then haltedStation (s.station st).base (s.station st)
          else s.station st) ∧
        ∀ j, j ≠ i → ∃ order, s.PackagesInOrder user j order ∧
          t.slot j = s.slotAfter (fun st => disposalIn (s.station st).state) order (s.slot j))

/-! ## Tickets -/

/-- OPEN_TICKET (R75 to R79): BAD_VALUE for an action code that names none; for a record action whose precondition holds, no
like ticket OPEN and room in the table, the ticket is added OPEN with the operands as stored and its timer at the approval
window, and answered with its number; DUPLICATE; TABLE_FULL; BAD_STATE when the precondition fails. CLEAR_TAMPER in TAMPERED
likewise. BAD_SLOT above 191, and BAD_VALUE for a GRANT of 0 and a WIDEN of no flag or of one that does not exist (R76 checks 2
and 3). With four tickets of which one is finished the front of the finished order makes room (R78). The number is the first
candidate after the counter, 255 being followed by 1, that no ticket left in the table bears (R74). CLEAR_TAMPER is refused
with BAD_STATE in OPERATIONAL, and in TAMPERED while an input is active (R77). -/
def Obligations.OpenTicket : Prop :=
  (∀ (s : State) (a b c d : Byte), s.Serves → s.engine.Settled →
    (1 ≤ a.toNat ∧ a.toNat ≤ 4 → 192 ≤ b.toNat →
      exec (.openTicket [a, b, c, d]) s = .next (answered 0x20 .badSlot [] s)) ∧
    (a = 1 → b.toNat < 192 → c = 0 → d = 0 →
      exec (.openTicket [a, b, c, d]) s = .next (answered 0x20 .badValue [] s)) ∧
    (a = 2 → b.toNat < 192 → c = 0 ∧ d = 0 ∨ c ≠ 0 ∨ 16 ≤ d.toNat →
      exec (.openTicket [a, b, c, d]) s = .next (answered 0x20 .badValue [] s)) ∧
    (a = 5 → exec (.openTicket [a, b, c, d]) s = .next (answered 0x20 .badState [] s))) ∧
  (∀ (s : State) (b c d : Byte), s.takesCommand = true → s.engine.Settled → s.device = .tampered →
    s.tamper.enclosureActive = true ∨ s.tamper.supplyActive = true ∨ s.tamper.band = .limit →
      exec (.openTicket [5, b, c, d]) s = .next (answered 0x20 .badState [] s)) ∧
  (∀ (s : State) (a b c d : Byte), s.Serves → a = 0 ∨ 5 < a.toNat →
    exec (.openTicket [a, b, c, d]) s = .next (answered 0x20 .badValue [] s)) ∧
  (∀ (s : State) (act : Action) (i : SlotId) (hi lo : Byte) (amount : BitVec 16), s.Serves → s.engine.Settled →
    (s.slot i).readable = true →
    (act = .grant ∧ amount = hi ++ lo ∧ amount ≠ 0 ∨ act = .widen ∧ amount = hi ++ lo ∧ amount ≠ 0 ∧ amount.toNat < 16 ∨
      (act = .forceRetire ∨ act = .releaseQuarantined) ∧ amount = 0) →
    let holds : Prop := ∃ a, s.account i = some a ∧
      (act = .grant ∧ a.part.isBase = true ∧ (a.state = .active ∨ a.state = .suspended) ∨
        act = .widen ∧ (a.state = .active ∨ a.state = .suspended) ∨
        act = .forceRetire ∧ (a.state = .active ∨ a.state = .suspended ∨ a.state = .exhausted) ∨
        act = .releaseQuarantined ∧ a.state = .quarantined)
    let like : Prop := ∃ t ∈ s.approval.tickets, t.isOpen = true ∧ t.action = act ∧ t.slot = i
    (¬ holds → exec (.openTicket [act.code, BitVec.ofNat 8 i.val, hi, lo]) s =
      .next (answered 0x20 .badState [] s)) ∧
    (holds → like → exec (.openTicket [act.code, BitVec.ofNat 8 i.val, hi, lo]) s =
      .next (answered 0x20 .duplicate [] s)) ∧
    (holds → ¬ like → 4 ≤ s.approval.tickets.length → (∀ t ∈ s.approval.tickets, t.isOpen = true) →
      exec (.openTicket [act.code, BitVec.ofNat 8 i.val, hi, lo]) s = .next (answered 0x20 .tableFull [] s)) ∧
    (holds → ¬ like → s.approval.tickets.length < 4 → s.approval.counter < 255 →
      (∀ t ∈ s.approval.tickets, t.number ≠ s.approval.counter + 1) →
      exec (.openTicket [act.code, BitVec.ofNat 8 i.val, hi, lo]) s = .next
        (answered 0x20 .ok [BitVec.ofNat 8 (s.approval.counter + 1)]
          { s with
            approval :=
              { s.approval with
                tickets := s.approval.tickets ++
                  [{ number := s.approval.counter + 1, action := act, slot := i, amount := amount, approvals := 0,
                     state := .stillOpen (s.console.settings.approvalWindow * 1000) }]
                counter := s.approval.counter + 1 } })) ∧
    (holds → ¬ like → s.approval.counter ≤ 255 → ∀ (left : List Ticket) (finished : List Nat) (k : Nat),
      (s.approval.tickets.length < 4 ∧ left = s.approval.tickets ∧ finished = s.approval.finished ∨
        4 ≤ s.approval.tickets.length ∧ (∃ t ∈ s.approval.tickets, t.isOpen = false) ∧
          ∃ n, s.approval.finished = n :: finished ∧ n ∉ finished ∧
            left = s.approval.tickets.filter fun t => t.number ≠ n) →
      let candidate (j : Nat) : Nat := (s.approval.counter + j) % 255 + 1
      k ≤ 4 → (∀ j, j < k → ∃ t ∈ left, t.number = candidate j) → (∀ t ∈ left, t.number ≠ candidate k) →
      exec (.openTicket [act.code, BitVec.ofNat 8 i.val, hi, lo]) s = .next
        (answered 0x20 .ok [BitVec.ofNat 8 (candidate k)]
          { s with
            approval :=
              { tickets := left ++
                  [{ number := candidate k, action := act, slot := i, amount := amount, approvals := 0,
                     state := .stillOpen (s.console.settings.approvalWindow * 1000) }]
                finished := finished
                counter := candidate k } }))) ∧
  ∀ (s : State) (b c d : Byte), s.takesCommand = true → s.engine.Settled → s.device = .tampered →
    s.tamper.enclosureActive = false → s.tamper.supplyActive = false → s.tamper.band ≠ .limit →
    s.approval.tickets = [] → s.approval.counter < 255 →
      exec (.openTicket [5, b, c, d]) s = .next
        (answered 0x20 .ok [BitVec.ofNat 8 (s.approval.counter + 1)]
          { s with
            approval :=
              { s.approval with
                tickets :=
                  [{ number := s.approval.counter + 1, action := .clearTamper, slot := 0, amount := 0, approvals := 0,
                     state := .stillOpen (s.console.settings.approvalWindow * 1000) }]
                counter := s.approval.counter + 1 } })

/-- READ_TICKETS gives the count and one summary for each ticket in the table's order (R80), TICKET_QUERY the summary of the
ticket it names, UNKNOWN_TICKET for a number no ticket bears, NOT_READY in STARTING (R82, R83). Neither changes a ticket. A
summary has 10 bytes (R203). -/
def Obligations.TicketsRead : Prop :=
  (∀ s : State, s.takesCommand = true → (∀ k, s.device ≠ .starting k) →
    exec (.readTickets []) s = .next
      (answered 0x21 .ok
        (BitVec.ofNat 8 s.approval.tickets.length :: s.approval.tickets.flatMap Ticket.summary) s)) ∧
  (∀ (s : State) (l : Line) (n : Byte), s.Hears l →
    ((∃ k, s.device = .starting k) → exec (.ticketQuery l [n]) s = .next (answeredLine l 0x42 .notReady [] s)) ∧
    ((∀ k, s.device ≠ .starting k) →
      ((∀ t ∈ s.approval.tickets, t.number ≠ n.toNat) →
        exec (.ticketQuery l [n]) s = .next (answeredLine l 0x42 .unknownTicket [] s)) ∧
      ∀ before t after, s.approval.tickets = before ++ t :: after → (∀ x ∈ before, x.number ≠ n.toNat) →
        t.number = n.toNat →
        exec (.ticketQuery l [n]) s = .next (answeredLine l 0x42 .ok t.summary s))) ∧
  ∀ t : Ticket, t.summary.length = 10

/-- How a ticket leaves OPEN without executing, and leaves the table: DECLINE makes it FAILED with reason DECLINED and its
approvals kept, and is answered UNKNOWN_TICKET, EXPIRED or CLOSED otherwise (R85); its timer makes it EXPIRED with its
approvals discarded, after which APPROVE is answered EXPIRED too (R86); a stopped timer does nothing (R87); DISMISS_TICKET
removes a finished ticket, and is refused for an OPEN one and for a number that no ticket bears (R81). That an expiry event
for a number no ticket bears, or at a stopped timer, changes nothing is log entry 8. Every step keeps the laws of the approval
table: at most four tickets, distinct numbers, at most two approvals, none alike OPEN, the finished order (R72, R74). -/
def Obligations.TicketsEnd : Prop :=
  (∀ s t : State, s.approval.Lawful → step s = .next t → t.approval.Lawful) ∧
  (∀ (s : State) (n : Byte), (∀ x ∈ s.approval.tickets, x.number ≠ n.toNat) → (∀ k, s.device ≠ .starting k) →
    (∀ l, s.Hears l → exec (.decline l [n]) s = .next (answeredLine l 0x44 .unknownTicket [] s)) ∧
    (s.takesCommand = true → exec (.dismissTicket [n]) s = .next (answered 0x22 .notFound [] s)) ∧
    exec (.ticketExpiry n.toNat) s = .next s) ∧
  ∀ (s : State) (before after : List Ticket) (t : Ticket) (n : Byte),
    s.approval.tickets = before ++ t :: after → (∀ x ∈ before ++ after, x.number ≠ n.toNat) → t.number = n.toNat →
    (∀ l, s.Hears l → (∀ k, s.device ≠ .starting k) →
      (∀ left, t.state = .stillOpen left →
        exec (.decline l [n]) s = .next
          (answeredLine l 0x44 .ok [2, 1, t.approvals.setWidth 8]
            { s with
              approval :=
                { s.approval with
                  tickets := before ++ { t with state := .failed .declined } :: after
                  finished := s.approval.finished ++ [t.number] }
              events := { s.events with latched := s.events.latched ||| Event.ticketFailed.bit } })) ∧
      (t.state = .expired → exec (.decline l [n]) s = .next (answeredLine l 0x44 .expired [] s) ∧
        ∀ act slot hi lo, exec (.approve l [n, act, slot, hi, lo]) s = .next (answeredLine l 0x43 .expired [] s)) ∧
      (t.state = .executed ∨ (∃ r, t.state = .failed r) →
        exec (.decline l [n]) s = .next (answeredLine l 0x44 .closed [] s))) ∧
    (∀ left, s.powered = true → t.state = .stillOpen left →
      exec (.ticketExpiry n.toNat) s = .next
        { s with
          approval :=
            { s.approval with
              tickets := before ++ { t with state := .expired, approvals := 0 } :: after
              finished := s.approval.finished ++ [t.number] }
          events := { s.events with latched := s.events.latched ||| Event.ticketExpired.bit } }) ∧
    (t.isOpen = false → exec (.ticketExpiry n.toNat) s = .next s) ∧
    (s.takesCommand = true → (∀ k, s.device ≠ .starting k) →
      (t.isOpen = true → exec (.dismissTicket [n]) s = .next (answered 0x22 .badState [] s)) ∧
      (t.isOpen = false →
        exec (.dismissTicket [n]) s = .next
          (answered 0x22 .ok []
            { s with
              approval :=
                { s.approval with
                  tickets := before ++ after
                  finished := s.approval.finished.filter (· ≠ n.toNat) } })))

/-- The checks of APPROVE in order (R84, R82): NOT_READY, UNKNOWN_TICKET, EXPIRED, CLOSED, MISMATCH, ALREADY_APPROVED; and
the first approval, which joins the set and leaves the ticket OPEN with its timer running. -/
def Obligations.ApproveChecks : Prop :=
  ∀ (s : State) (l : Line) (n act slot hi lo : Byte), s.Hears l →
    ((∃ k, s.device = .starting k) →
      exec (.approve l [n, act, slot, hi, lo]) s = .next (answeredLine l 0x43 .notReady [] s)) ∧
    ((∀ k, s.device ≠ .starting k) →
      ((∀ t ∈ s.approval.tickets, t.number ≠ n.toNat) →
        exec (.approve l [n, act, slot, hi, lo]) s = .next (answeredLine l 0x43 .unknownTicket [] s)) ∧
      ∀ before t after, s.approval.tickets = before ++ t :: after → (∀ x ∈ before ++ after, x.number ≠ n.toNat) →
        t.number = n.toNat →
        (t.state = .expired →
          exec (.approve l [n, act, slot, hi, lo]) s = .next (answeredLine l 0x43 .expired [] s)) ∧
        (t.state = .executed ∨ (∃ r, t.state = .failed r) →
          exec (.approve l [n, act, slot, hi, lo]) s = .next (answeredLine l 0x43 .closed [] s)) ∧
        (t.isOpen = true → ¬ (act = t.action.code ∧ slot.toNat = t.slot.val ∧ (hi ++ lo : BitVec 16) = t.amount) →
          exec (.approve l [n, act, slot, hi, lo]) s = .next (answeredLine l 0x43 .mismatch [] s)) ∧
        (t.isOpen = true → act = t.action.code ∧ slot.toNat = t.slot.val ∧ (hi ++ lo : BitVec 16) = t.amount →
          (t.approvals &&& lineBit l = lineBit l →
            exec (.approve l [n, act, slot, hi, lo]) s = .next (answeredLine l 0x43 .alreadyApproved [] s)) ∧
          (t.approvals = 0 →
            exec (.approve l [n, act, slot, hi, lo]) s = .next
              (answeredLine l 0x43 .ok [0, 0, (lineBit l).setWidth 8]
                { s with
                  approval :=
                    { s.approval with tickets := before ++ { t with approvals := lineBit l } :: after } }))))

/-- The second approval executes the ticket (R84, R88): a GRANT raises the allowance, saturating (R47); a WIDEN adds the
flags valid for the class (R90); a CLEAR_TAMPER in TAMPERED with no input active clears latch and cause and makes the device
OPERATIONAL with the sweep started (R172); and a GRANT whose precondition fails ends FAILED with BAD_STATE, these for a ticket
alone in the table. In any table a RELEASE_QUARANTINED empties the slot and the other OPEN tickets naming it fail (R94, R89); a
FORCE_RETIRE of a BASE record voids every OUTSTANDING number, retires the record and unbinds its stations by R92 (R91, R49); one
of a TRANSPORT record retires it, and the stations whose packages name it are aborted and unbound and their numbers voided in
the order of R125 (R93), where no station waits on a list, their transmissions ended in every serving state (R92). A
record's words are those of `recordWords`, in the model's order (log entry 6). -/
def Obligations.SecondApprovalExecutes : Prop :=
  (∀ (s : State) (l : Line) (t : Ticket) (before after : List Ticket) (n hi lo : Byte) (a : Account), s.Hears l →
    s.engine.Settled → s.device = .operational → s.approval.tickets = before ++ t :: after →
    (s.approval.tickets.map (·.number)).Nodup → t.isOpen = true → t.number = n.toNat →
    t.amount = (hi ++ lo : BitVec 16) → lineCount t.approvals = 1 → t.approvals &&& lineBit l = 0 →
    s.account t.slot = some a → (s.slot t.slot).readable = true →
    let both := t.approvals ||| lineBit l
    let executed : ApprovalUnit :=
      { s.approval with
        tickets := before ++ { t with approvals := both, state := .executed } :: after
        finished := s.approval.finished ++ [t.number] }
    let noticed : EventUnit := { s.events with latched := s.events.latched ||| Event.ticketExecuted.bit }
    let retired (b : Account) : Slot :=
      { account := some { b with state := .retired }, words := recordWords { b with state := .retired } none,
        waiting := [] }
    (t.action = .releaseQuarantined → a.state = .quarantined →
      let falls (x : Ticket) : Bool := x.isOpen && x.slot == t.slot && x.action != .clearTamper
      let fallen (x : Ticket) : Ticket := if falls x then { x with state := .failed .badState } else x
      exec (.approve l [n, 4, BitVec.ofNat 8 t.slot.val, hi, lo]) s = .next
        (answeredLine l 0x43 .ok [1, 0, both.setWidth 8]
          { s.setSlot t.slot { account := none, words := [], waiting := [] } with
            approval :=
              { s.approval with
                tickets :=
                  before.map fallen ++ { t with approvals := both, state := .executed } :: after.map fallen
                finished :=
                  s.approval.finished ++ t.number :: ((before ++ after).filter falls).map (·.number) }
            events :=
              { noticed with
                latched :=
                  if (before ++ after).any falls then noticed.latched ||| Event.ticketFailed.bit
                  else noticed.latched } })) ∧
    (∀ iss, t.action = .forceRetire → a.part = .base iss →
      a.state = .active ∨ a.state = .suspended ∨ a.state = .exhausted →
      let hit (st : StationId) : Bool :=
        (s.station st).base == some t.slot || (match (s.station st).package with
          | some p => p.base == t.slot
          | none => false)
      ∃ t', exec (.approve l [n, 3, BitVec.ofNat 8 t.slot.val, hi, lo]) s =
          .next (answeredLine l 0x43 .ok [1, 0, both.setWidth 8] t') ∧
        t' = { s with
          table := t'.table, stations := t'.stations, approval := executed, events := noticed
          engine := s.engine.abandon (ofStations hit) } ∧
        t'.slot t.slot =
          retired
            { a with
              part := .base
                { iss with
                  voided := iss.voided + iss.window.count .outstanding, floor := iss.next, window := [] } } ∧
        (∀ j, j ≠ t.slot → t'.slot j = s.slot j) ∧
        ∀ st,
          (hit st = false → t'.station st = s.station st) ∧
          (hit st = true →
            ((s.station st).state.isServing = true →
              t'.station st = abortedStation { s.station st with base := none }) ∧
            ((s.station st).state = .bound ∨ (s.station st).state = .waiting →
              t'.station st =
                { s.station st with
                  state := .unbound, base := none, armed := false, disarmAfter := false, identity := none,
                  package := none, timer := .stopped, holds := 0 }) ∧
            ((s.station st).state = .departing ∨ (s.station st).state = .held →
              t'.station st = { s.station st with base := none, armed := false }))) ∧
    (∀ m, t.action = .forceRetire → a.part = .transport m → a.state = .active ∨ a.state = .suspended → s.Sound →
      (∀ i, (s.slot i).waiting = []) →
      let user (st : StationId) : Bool :=
        match (s.station st).package with
        | some p => p.transport == some t.slot
        | none => false
      ∃ t', exec (.approve l [n, 3, BitVec.ofNat 8 t.slot.val, hi, lo]) s =
          .next (answeredLine l 0x43 .ok [1, 0, both.setWidth 8] t') ∧
        t' = { s with
          table := t'.table, stations := t'.stations, approval := executed, events := noticed
          engine := s.engine.abandon (ofStations user) } ∧
        t'.slot t.slot = retired a ∧
        (∀ j, j ≠ t.slot → ∃ order, s.PackagesInOrder user j order ∧
          t'.slot j = s.slotAfter (fun _ => .void) order (s.slot j)) ∧
        ∀ st,
          (user st = false → t'.station st = s.station st) ∧
          (user st = true → (s.station st).state.isServing = true →
            t'.station st = abortedStation { s.station st with base := none }))) ∧
  ∀ (s : State) (l : Line) (t : Ticket) (n hi lo : Byte), s.Hears l → s.engine.Settled → s.approval.tickets = [t] →
    t.isOpen = true → t.number = n.toNat → t.amount = (hi ++ lo : BitVec 16) → lineCount t.approvals = 1 →
    t.approvals &&& lineBit l = 0 →
    let both := t.approvals ||| lineBit l
    let executed : State :=
      { s with
        approval :=
          { s.approval with
            tickets := [{ t with approvals := both, state := .executed }]
            finished := s.approval.finished ++ [t.number] }
        events := { s.events with latched := s.events.latched ||| Event.ticketExecuted.bit } }
    (∀ a iss, t.action = .grant → s.device = .operational → (s.slot t.slot).readable = true →
      s.account t.slot = some a → a.part = .base iss → a.state = .active ∨ a.state = .suspended →
      exec (.approve l [n, 1, BitVec.ofNat 8 t.slot.val, hi, lo]) s = .next
        (answeredLine l 0x43 .ok [1, 0, both.setWidth 8]
          (executed.setSlot t.slot
            ((s.slot t.slot).write
              { a with part := .base { iss with allowance := min (iss.allowance + t.amount.toNat) 65535 } }
              (s.slot t.slot).secret)))) ∧
    (∀ a, t.action = .widen → s.device = .operational → (s.slot t.slot).readable = true →
      s.account t.slot = some a → a.state = .active ∨ a.state = .suspended →
      exec (.approve l [n, 2, BitVec.ofNat 8 t.slot.val, hi, lo]) s = .next
        (answeredLine l 0x43 .ok [1, 0, both.setWidth 8]
          (executed.setSlot t.slot
            ((s.slot t.slot).write
              { a with permissions := (a.permissions ||| t.amount.setWidth 4) &&& a.part.validFlags }
              (s.slot t.slot).secret)))) ∧
    (t.action = .clearTamper → t.slot = 0 → s.device = .tampered → s.tamper.enclosureActive = false →
      s.tamper.supplyActive = false → s.tamper.band ≠ .limit →
      exec (.approve l [n, 5, 0, hi, lo]) s = .next
        (answeredLine l 0x43 .ok [1, 0, both.setWidth 8]
          { executed with
            device := .operational
            tamper := { s.tamper with latch := false, cause := 0 }
            checker := { sweepPosition := 191, sweepTimer := some s.console.settings.sweepPeriod } })) ∧
    (t.action = .grant → s.device = .operational → (s.slot t.slot).readable = true →
      (∀ a, s.account t.slot = some a → a.state ≠ .active ∧ a.state ≠ .suspended) →
      exec (.approve l [n, 1, BitVec.ofNat 8 t.slot.val, hi, lo]) s = .next
        (answeredLine l 0x43 .ok [2, 2, both.setWidth 8]
          { s with
            approval :=
              { s.approval with
                tickets := [{ t with approvals := both, state := .failed .badState }]
                finished := s.approval.finished ++ [t.number] }
            events := { s.events with latched := s.events.latched ||| Event.ticketFailed.bit } }))

/-! ## Stations -/

/-- BIND and UNBIND of a station set (R119, R120, R121): BAD_STATION for an empty set; BIND to an ACTIVE BASE record with
ISSUE, and LINE for LINE mode, binds the members in UNBOUND and BOUND; UNBIND unbinds the members in BOUND; every other
station is unchanged; the answer gives each member's number, outcome and state. -/
def Obligations.BindAndUnbind : Prop :=
  ∀ (s : State) (set : Byte), s.Serves → s.engine.Settled →
    let members := (List.finRange 8).filter fun st => set.getLsbD st.val
    (set = 0 → (∀ b c, exec (.bind [set, b, c]) s = .next (answered 0x30 .badStation [] s)) ∧
      exec (.unbind [set]) s = .next (answered 0x31 .badStation [] s)) ∧
    (set ≠ 0 →
      (∀ (i : SlotId) (a : Account) (m : Mode) (mode : Byte), (s.slot i).readable = true → s.account i = some a →
        (mode = 0 ∧ m = .single ∨ mode = 1 ∧ m = .line) →
        (a.part.isBase = false ∨ a.state ≠ .active →
          exec (.bind [set, BitVec.ofNat 8 i.val, mode]) s = .next (answered 0x30 .badState [] s)) ∧
        (a.part.isBase = true → a.state = .active → a.has .issue = false ∨ m = .line ∧ a.has .line = false →
          exec (.bind [set, BitVec.ofNat 8 i.val, mode]) s = .next (answered 0x30 .notPermitted [] s)) ∧
        (a.part.isBase = true → a.state = .active → a.has .issue = true → (m = .line → a.has .line = true) →
          ∃ t, exec (.bind [set, BitVec.ofNat 8 i.val, mode]) s = .next
              (answered 0x30 .ok
                (members.flatMap fun st =>
                  [BitVec.ofNat 8 st.val,
                   if (s.station st).state = .unbound ∨ (s.station st).state = .bound then 0x00
                   else if (s.station st).state = .held then 0x15 else 0x1A,
                   (t.station st).state.code]) t) ∧
            t = { s with stations := t.stations } ∧
            ∀ st, t.station st =
              if set.getLsbD st.val = true ∧ ((s.station st).state = .unbound ∨ (s.station st).state = .bound) then
                { s.station st with
                  state := .bound, mode := m, base := some i, armed := false, disarmAfter := false, identity := none,
                  package := none, timer := .stopped, holds := 0 }
              else s.station st)) ∧
      ∃ t, exec (.unbind [set]) s = .next
          (answered 0x31 .ok
            (members.flatMap fun st =>
              [BitVec.ofNat 8 st.val,
               if (s.station st).state = .bound then 0x00
               else if (s.station st).state = .unbound then 0x15 else 0x1A,
               (t.station st).state.code]) t) ∧
        t = { s with stations := t.stations } ∧
        ∀ st, t.station st =
          if set.getLsbD st.val = true ∧ (s.station st).state = .bound then
            { s.station st with
              state := .unbound, base := none, armed := false, disarmAfter := false, identity := none, package := none,
              timer := .stopped, holds := 0 }
          else s.station st)

/-- ARM and DISARM of a non-empty station set whose members' base records pass their read-checks (R122, R123): a BOUND member
is armed and goes to WAITING, or greets its terminal at once; without LINE a LINE-mode member is answered NOT_PERMITTED.
DISARM takes WAITING to BOUND and clears armed of a member with a terminal. Outcomes and unchanged members as the rules
give. -/
def Obligations.ArmAndDisarm : Prop :=
  ∀ (s : State) (set : Byte), s.Serves → s.engine.Settled → s.Sound → set ≠ 0 →
    let members := (List.finRange 8).filter fun st => set.getLsbD st.val
    (∃ (t : State) (o : StationId → Byte), exec (.arm [set]) s = .next
        (answered 0x32 .ok
          (members.flatMap fun st => [BitVec.ofNat 8 st.val, o st, (t.station st).state.code]) t) ∧
      t = { s with stations := t.stations } ∧
      (∀ st, set.getLsbD st.val = false → t.station st = s.station st) ∧
      ∀ st, set.getLsbD st.val = true →
        (∀ i a, (s.station st).state = .bound → (s.station st).base = some i → s.account i = some a →
          ((s.station st).mode = .line → a.has .line = false → o st = 0x16 ∧ t.station st = s.station st) ∧
          ((s.station st).mode = .single ∨ a.has .line = true → o st = 0x00 ∧
            t.station st =
              if (s.station st).present then
                { s.station st with
                  state := .identifying, armed := true
                  timer := .identity (s.console.settings.identityTimeout * 1000)
                  transmitter := placeFrame .hello (s.station st).transmitter }
              else { s.station st with state := .waiting, armed := true, disarmAfter := false })) ∧
        ((s.station st).state = .waiting → o st = 0x00 ∧ t.station st = s.station st) ∧
        ((s.station st).state = .unbound ∨ (s.station st).state = .held →
          o st = 0x15 ∧ t.station st = s.station st) ∧
        ((s.station st).state.hasTerminal = true → o st = 0x1A ∧ t.station st = s.station st)) ∧
    ∃ t, exec (.disarm [set]) s = .next
        (answered 0x33 .ok
          (members.flatMap fun st =>
            [BitVec.ofNat 8 st.val, if (s.station st).state = .unbound then 0x15 else 0x00,
             (t.station st).state.code]) t) ∧
      t = { s with stations := t.stations } ∧
      ∀ st, t.station st =
        if set.getLsbD st.val = true then
          if (s.station st).state = .waiting then (s.station st).rest
          else if (s.station st).state.hasTerminal then { s.station st with armed := false }
          else s.station st
        else s.station st

/-- ABORT of a non-empty station set, and ABORT_ALL (R124, R125, R129), where the records pass their read-checks and no station
waits on a list: a member in a serving state is left as `abortedStation` says; its jobs are abandoned, those in the queue
removed and the one in service marked discard (R107), and nothing else of the engine changes; the transmission is ended in
every serving state (R136; deduced, log entry 35); the others are unchanged (ABORT)
or disarmed (ABORT_ALL). The number of an aborted package is returned or voided by R43 in its base record, several on one
record in the order of R125; a record that no aborted package names is unchanged; nothing is latched. -/
def Obligations.AbortStopsWork : Prop :=
  ∀ s : State, s.engine.Settled → s.Sound → (∀ i, (s.slot i).waiting = []) →
    let Effect (hit : StationId → Bool) (t : State) : Prop :=
      (∀ st, hit st = true → t.station st = abortedStation (s.station st)) ∧
      t.engine =
        { s.engine with
          queue := s.engine.queue.filter fun j => !ofStations hit j
          service := s.engine.service.map fun v => if ofStations hit v.job then { v with discard := true } else v } ∧
      (∀ st p a, hit st = true → (s.station st).package = some p → s.account p.base = some a →
        (∀ tt p', hit tt = true → tt ≠ st → (s.station tt).package = some p' → p'.base ≠ p.base) →
        t.account p.base = some ((a.afterDisposal (disposalIn (s.station st).state) p.number).getD a)) ∧
      (∀ i, ∃ order, s.PackagesInOrder hit i order ∧
        t.slot i = s.slotAfter (fun st => disposalIn (s.station st).state) order (s.slot i)) ∧
      ∀ i, (∀ st p, hit st = true → (s.station st).package = some p → p.base ≠ i) → t.slot i = s.slot i
    (∀ set : Byte, s.Serves → set ≠ 0 →
      let members := (List.finRange 8).filter fun st => set.getLsbD st.val
      let hit (st : StationId) : Bool := set.getLsbD st.val && (s.station st).state.isServing
      ∃ t, exec (.abort [set]) s = .next
          (answered 0x34 .ok
            (members.flatMap fun st =>
              [BitVec.ofNat 8 st.val, if (s.station st).state.isServing then 0x00 else 0x15,
               (t.station st).state.code]) t) ∧
        t = { s with table := t.table, stations := t.stations, engine := t.engine } ∧
        Effect hit t ∧ ∀ st, hit st = false → t.station st = s.station st) ∧
    (s.consoleOpen = true → s.device = .operational →
      ∃ t, exec (.abortAll []) s = .next
          { t with console := { s.console with supervision := fedSupervision s } } ∧
        t = { s with table := t.table, stations := t.stations, engine := t.engine } ∧
        Effect (fun st => (s.station st).state.isServing) t ∧
        (∀ st, (s.station st).state = .waiting → t.station st = (s.station st).rest) ∧
        (∀ st, (s.station st).state = .departing → t.station st = { s.station st with armed := false }) ∧
        ∀ st, (s.station st).state ∈ [StationState.unbound, .bound, .held] → t.station st = s.station st)

/-- CLEAR_HOLD (R127): BAD_VALUE for a condition set that is empty or names no condition; a HELD member loses the named
conditions, and with none left goes to BOUND or UNBOUND disarmed; a member in any other state is answered BAD_STATE and is
unchanged, as is every station outside the set. -/
def Obligations.ClearHold : Prop :=
  ∀ (s : State) (set conditions : Byte), s.Serves → set ≠ 0 →
    let members := (List.finRange 8).filter fun st => set.getLsbD st.val
    (conditions = 0 ∨ 32 ≤ conditions.toNat →
      exec (.clearHold [set, conditions]) s = .next (answered 0x35 .badValue [] s)) ∧
    (conditions ≠ 0 → conditions.toNat < 32 →
      ∃ t, exec (.clearHold [set, conditions]) s = .next
          (answered 0x35 .ok
            (members.flatMap fun st =>
              [BitVec.ofNat 8 st.val, if (s.station st).state = .held then 0x00 else 0x15,
               (t.station st).state.code]) t) ∧
        t = { s with stations := t.stations } ∧
        ∀ st,
          (¬ (set.getLsbD st.val = true ∧ (s.station st).state = .held) → t.station st = s.station st) ∧
          (set.getLsbD st.val = true → (s.station st).state = .held →
            ((s.station st).holds &&& ~~~ (conditions.setWidth 5) ≠ 0 →
              t.station st =
                { s.station st with holds := (s.station st).holds &&& ~~~ (conditions.setWidth 5) }) ∧
            ((s.station st).holds &&& ~~~ (conditions.setWidth 5) = 0 →
              t.station st =
                { s.station st with
                  state := if (s.station st).base = none then .unbound else .bound
                  armed := false, disarmAfter := false, identity := none, package := none, timer := .stopped,
                  holds := 0 })))

/-- Station summaries and READ_STATIONS (R201, R128): a summary is 33 bytes and six fill an answer of 200; a set of seven or
eight is refused with BAD_VALUE, an empty one with BAD_STATION before that; a set of one to six is answered with the
members' summaries in ascending order. Nothing changes. -/
def Obligations.ReadStations : Prop :=
  (∀ (st : StationId) (k : Station), (Station.summary st k).length = 33) ∧
  (∀ (a : ConsoleAnswer), a.data.length = 6 * 33 → a.frame.payload.length = 200) ∧
  ∀ (s : State) (set : Byte), s.Serves →
    let members := (List.finRange 8).filter fun st => set.getLsbD st.val
    (set = 0 → exec (.readStations [set]) s = .next (answered 0x36 .badStation [] s)) ∧
    (7 ≤ members.length → exec (.readStations [set]) s = .next (answered 0x36 .badValue [] s)) ∧
    (1 ≤ members.length → members.length ≤ 6 →
      exec (.readStations [set]) s = .next
        (answered 0x36 .ok (members.flatMap fun st => Station.summary st (s.station st)) s))

/-! ## Assembly -/

/-- COMPONENT by the checks of R55 in order, and a component that passes them (R57): the line is reserved in the record, its
COMPONENT_CHECK job placed, its last outcome PENDING, the answer TAKEN; then the engine chooses (R103). A record's
words are those of `recordWords`, in the model's order (log entry 6). -/
def Obligations.ComponentTaken : Prop :=
  ∀ (s : State) (l : Line) (b : Byte) (key check : Payload) (k : Key), s.Hears l → s.engine.Settled →
    check.length = 3 → keyOfBytes key = some k →
    let c : Instr := .component l (b :: key ++ check)
    let refused (code : AnswerCode) : Prop := exec c s = .next (answeredLine l 0x40 code [] s)
    ((∃ n, s.device = .starting n) → refused .notReady) ∧ (s.device = .tampered → refused .tampered) ∧
    (s.device = .operational →
      (192 ≤ b.toNat → refused .badSlot) ∧
      ∀ i : SlotId, b.toNat = i.val → (s.slot i).readable = true →
        ((∀ a, s.account i = some a → a.state ≠ .assembling) → refused .badState) ∧
        ∀ a m, s.account i = some a → a.state = .assembling → a.assembly = some m →
          (k.length ≠ a.keyLength → refused .badValue) ∧
          (k.length = a.keyLength →
            ((m.contributed ||| m.reserved) &&& lineBit l = lineBit l → refused .duplicateLine) ∧
            ((m.contributed ||| m.reserved) &&& lineBit l ≠ lineBit l →
              (a.quorum.toNat ≤ lineCount m.contributed + lineCount m.reserved → refused .quorumMet) ∧
              (lineCount m.contributed + lineCount m.reserved < a.quorum.toNat →
                ((∃ j ∈ s.engine.heldJobs, j.requester = .line l) → refused .lineBusy) ∧
                ((∀ j ∈ s.engine.heldJobs, j.requester ≠ .line l) →
                  exec c s = .next
                    (answeredLine l 0x40 .taken []
                      (settleEngine
                        { (s.setSlot i
                            ((s.slot i).write
                              { a with assembly := some { m with reserved := m.reserved ||| lineBit l } }
                              (s.slot i).secret)).setLine l
                            { s.line l with last := { outcome := .pending, slot := i, check := none } } with
                          engine :=
                            { s.engine with
                              queue := s.engine.queue ++
                                [.componentCheck l i k (BitVec.ofNat 24 (natOfBytes check))] } })))))))

/-- LINE_STATUS (R69) is answered OK in every device state with the last outcome, its slot and the check value: for
COMPLETED the one copied at completion, for ACCEPTED the line's entry in the record when that is ASSEMBLING, else three zero
bytes. An ACCEPTED line reserved or contributed for an ASSEMBLING record that fails its read-check is answered CANCELLED with
zeros (R69, R68); one whose slot holds a failing record that is no longer ASSEMBLING, or a later one for which the line is
neither reserved nor contributed, stays ACCEPTED with zeros (the model's choice, log entry 34).
CUSTODIAN_ANSWER_END ends the answer and nothing else (R53). -/
def Obligations.LineStatusAnswers : Prop :=
  (∀ (s : State) (l : Line), s.Hears l → s.engine.Settled →
    let o := (s.line l).last
    let answer (check : BitVec 24) : State :=
      answeredLine l 0x41 .ok ([o.outcome.code, BitVec.ofNat 8 o.slot.val] ++ bytesOfNat 3 check.toNat) s
    (o.outcome ≠ .accepted → o.outcome ≠ .completed → exec (.lineStatus l []) s = .next (answer 0)) ∧
    (∀ v, o.outcome = .completed → o.check = some v → exec (.lineStatus l []) s = .next (answer v)) ∧
    (o.outcome = .accepted → (s.slot o.slot).readable = true →
      (∀ a m v before after, s.account o.slot = some a → a.state = .assembling → a.assembly = some m →
        m.checks = before ++ (l, v) :: after → (∀ x ∈ before, x.1 ≠ l) →
        exec (.lineStatus l []) s = .next (answer v)) ∧
      ((∀ a, s.account o.slot = some a → a.state ≠ .assembling) →
        exec (.lineStatus l []) s = .next (answer 0))) ∧
    (o.outcome = .accepted → (s.slot o.slot).readable = false → ∀ a, s.account o.slot = some a →
      let found (code : Byte) : State :=
        answeredLine l 0x41 .ok [code, BitVec.ofNat 8 o.slot.val, 0, 0, 0] (settleEngine (check o.slot s))
      (∀ m, a.state = .assembling → a.assembly = some m →
        (m.contributed ||| m.reserved) &&& lineBit l = lineBit l →
        exec (.lineStatus l []) s = .next (found 0x04)) ∧
      (a.assembly = none → exec (.lineStatus l []) s = .next (found 0x02)) ∧
      (∀ m, a.state = .assembling → a.assembly = some m →
        (m.contributed ||| m.reserved) &&& lineBit l ≠ lineBit l →
        exec (.lineStatus l []) s = .next (found 0x02)))) ∧
  ∀ (s : State) (l : Line), s.powered = true →
    exec (.custodianAnswerEnd l) s = .next (s.setLine l { s.line l with sending := none })

/-- The component check completes (R59, R60, R61, R63, R106): on a match the component is XORed into the accumulator, the line
moves from reserved to contributed, its check value joins the list, its last outcome becomes ACCEPTED and a met quorum places
the KEY_CHECK job; on a mismatch the line is no longer reserved, CHECK_MISMATCH, COMPONENT_REFUSED; for a record that holds
the line no longer, nothing. Then the engine is free and chooses. A record's
words are those of `recordWords`, in the model's order (log entry 6). -/
def Obligations.ComponentCheckCompletes : Prop :=
  ∀ (s : State) (l : Line) (i : SlotId) (k : Key) (carried : BitVec 24) (copies : Copies), s.powered = true →
    s.engine.service = some { job := .componentCheck l i k carried, copies := copies, discard := false } →
    (s.slot i).readable = true → (s.line l).last.slot = i → (s.line l).last.outcome ≠ .none →
    let free : State := { s with engine := { s.engine with service := none } }
    (∀ a m acc, s.account i = some a → a.state = .assembling → a.assembly = some m →
      m.reserved &&& lineBit l = lineBit l → (s.slot i).secret = some acc →
      let m' : Assembly :=
        { contributed := m.contributed ||| lineBit l, reserved := m.reserved &&& ~~~ lineBit l,
          checks := m.checks ++ [(l, checkValue k)] }
      (checkValue k = carried →
        exec .componentCheckDone s = .next
          (settleEngine
            { (free.setSlot i ((s.slot i).write { a with assembly := some m' } (some (acc.xor k)))).setLine l
                { s.line l with last := { outcome := .accepted, slot := i, check := none } } with
              engine :=
                { s.engine with
                  service := none
                  queue :=
                    if lineCount m'.contributed = a.quorum.toNat then s.engine.queue ++ [.keyCheck l i]
                    else s.engine.queue } })) ∧
      (checkValue k ≠ carried →
        exec .componentCheckDone s = .next
          (settleEngine
            { (free.setSlot i
                ((s.slot i).write { a with assembly := some { m with reserved := m.reserved &&& ~~~ lineBit l } }
                  (some acc))).setLine l
                { s.line l with last := { outcome := .checkMismatch, slot := i, check := none } } with
              events := { s.events with latched := s.events.latched ||| Event.componentRefused.bit } }))) ∧
    ((∀ a m, s.account i = some a → a.assembly = some m →
        ¬ (a.state = .assembling ∧ m.reserved &&& lineBit l = lineBit l)) →
      exec .componentCheckDone s = .next (settleEngine free))

/-- The key check completes (R64): the accumulator becomes the key, the check value is computed from it, the assembly part is
wiped, the record is ACTIVE, the completing line's last outcome is COMPLETED with the check value, ASSEMBLY_COMPLETE is
latched; a record no longer ASSEMBLING is unchanged. Then the engine is free and chooses. A record's
words are those of `recordWords`, in the model's order (log entry 6). -/
def Obligations.KeyCheckCompletes : Prop :=
  ∀ (s : State) (l : Line) (i : SlotId) (acc : Key) (a : Account), s.powered = true →
    s.engine.service = some { job := .keyCheck l i, copies := .accumulator acc, discard := false } →
    (s.slot i).readable = true → (s.line l).last.slot = i → (s.line l).last.outcome ≠ .none → s.account i = some a →
    let free : State := { s with engine := { s.engine with service := none } }
    (a.state = .assembling →
      exec .keyCheckDone s = .next
        (settleEngine
          { (free.setSlot i
              ((s.slot i).write { a with state := .active, checkValue := some (checkValue acc), assembly := none }
                (some acc))).setLine l
              { s.line l with
                last := { outcome := .completed, slot := i, check := some (checkValue acc) } } with
            events := { s.events with latched := s.events.latched ||| Event.assemblyComplete.bit } })) ∧
    (a.state ≠ .assembling → exec .keyCheckDone s = .next (settleEngine free))

/-! ## The engine -/

/-- The arbiter's choice (R103, R104): the oldest job of a custodian line; else the job of the first station in rotating
order after the last-served station, which becomes the last served; else the oldest of the others. The jobs left keep their
order. A free engine starts the job it chose, and then chooses again if that left it free (R102, R103). The start of service
copies what the table of R105 says for the job's kind; a record that fails its read-check ends the job there, the engine being
free again, and a VERIFY of a record that holds no key ends ABANDONED (R110, R111). -/
def Obligations.ArbiterChoice : Prop :=
  (∀ s : State,
    (s.engine.service.isSome = true ∨ s.engine.queue = [] → settleEngine s = s) ∧
    ∀ j e, s.engine.service = none → s.engine.choose = some (j, e) →
      let t := startService j { s with engine := e }
      (t.engine.Settled → settleEngine s = t) ∧
      ((∀ i, (s.slot i).waiting = []) → settleEngine s = settleEngine t)) ∧
  (∀ (s : State) (j : Job),
    let started (c : Copies) : State :=
      { s with engine := { s.engine with service := some { job := j, copies := c, discard := false } } }
    let free (t : State) : State := { t with engine := { t.engine with service := none } }
    let fails (i : SlotId) : Prop :=
      wordSum (s.slot i).words ≠ 0xFFFFFFFF ∧ ∃ a, s.account i = some a ∧ a.state ≠ .quarantined
    (∀ l i k c, j = .componentCheck l i k c → startService j s = started .nothing) ∧
    (∀ l i, j = .keyCheck l i →
      (fails i → startService j s = free (check i (started .nothing))) ∧
      ∀ acc, (s.slot i).readable = true → (s.slot i).secret = some acc →
        startService j s = started (.accumulator acc)) ∧
    (∀ i, j = .verify i →
      (fails i → startService j s = free (check i (started .nothing))) ∧
      (∀ a key v, (s.slot i).readable = true → s.account i = some a →
        a.state = .active ∨ a.state = .suspended ∨ a.state = .exhausted → (s.slot i).secret = some key →
        a.checkValue = some v → startService j s = started (.stored key v)) ∧
      ((s.slot i).readable = true →
        (∀ a, s.account i = some a → a.state ∉ [RecordState.active, .suspended, .exhausted]) →
        startService j s =
          { s with
            engine := { s.engine with service := none }
            console := { s.console with lastVerify := .abandoned, lastVerifySlot := i, verifyPending := false }
            events := { s.events with latched := s.events.latched ||| Event.verifyDone.bit } })) ∧
    ∀ st b n ksi serial t, j = .package st b n ksi serial t →
      (fails b → startService j s = free (check b (started .nothing))) ∧
      ∀ a iss key, (s.slot b).readable = true → s.account b = some a → a.part = .base iss →
        a.state = .active ∨ a.state = .suspended ∨ a.state = .exhausted → (s.slot b).secret = some key →
        (t = none → startService j s = started (.packageKeys key iss.tag iss.usage none)) ∧
        ∀ i, t = some i →
          (fails i → startService j s = free (check i (started .nothing))) ∧
          ∀ x tkey v, (s.slot i).readable = true → s.account i = some x →
            x.state = .active ∨ x.state = .suspended → (s.slot i).secret = some tkey → x.checkValue = some v →
            startService j s = started (.packageKeys key iss.tag iss.usage (some (tkey, v)))) ∧
  ∀ (e : Engine) (before after : List Job) (j : Job), e.queue = before ++ j :: after →
    (j.isCustodian = true → (∀ x ∈ before, x.isCustodian = false) →
      e.choose = some (j, { e with queue := before ++ after })) ∧
    (∀ st : StationId, (∀ x ∈ e.queue, x.isCustodian = false) → j.requester = .station st →
      (∀ x ∈ before, x.requester ≠ .station st) →
      (∀ tt : StationId, (tt.val + 7 - e.lastServed.val) % 8 < (st.val + 7 - e.lastServed.val) % 8 →
        ∀ x ∈ e.queue, x.requester ≠ .station tt) →
      e.choose = some (j, { e with queue := before ++ after, lastServed := st })) ∧
    (before = [] → (∀ x ∈ e.queue, x.requester = .console) →
      e.choose = some (j, { e with queue := after }))

/-- The PACKAGE job completes (R108, R144): the station in PREPARING stores the check value of the derived key as its expected
check value and enters SENDING with the PACKAGE frame placed, the derived key wrapped under the transport key with its check
value, or clear with three zero bytes. No record changes. Then the engine is free and chooses. The first clauses give what the
names stand for, over the block transform E: a check value is the first 3 bytes of E(K, zeros) (R96); D takes a byte of the
serial and a byte of the tweak in turn, D* differs from it in its final byte alone (R97); the derived key is E(B, D), for a
base key of 32 bytes followed by E(B, D*) (R98); the wrapped key chains the key's blocks from the block of KSI and serial
(R99). -/
def Obligations.PackageJobCompletes : Prop :=
  (∀ k : Key, checkValue k = (Config.blockTransform k 0).extractLsb' 104 24) ∧
  (∀ (base : Key) (tag : BitVec 32) (usage : Byte) (n : Nat) (serial : BitVec 64) (d d' : Block),
    let tweak : BitVec 64 := tag ++ BitVec.ofNat 24 n ++ usage
    (∀ i, i < 8 →
      d.extractLsb' (120 - 16 * i) 8 = serial.extractLsb' (56 - 8 * i) 8 ∧
        d.extractLsb' (112 - 16 * i) 8 = tweak.extractLsb' (56 - 8 * i) 8) →
    d'.extractLsb' 8 120 = d.extractLsb' 8 120 → d'.extractLsb' 0 8 = usage ^^^ 0xFF →
    (∀ b, base = .k16 b → derivedKey base tag usage n serial = .k16 (Config.blockTransform base d)) ∧
    ∀ b0 b1, base = .k32 b0 b1 →
      derivedKey base tag usage n serial = .k32 (Config.blockTransform base d) (Config.blockTransform base d')) ∧
  (∀ (t : Key) (ksi serial : BitVec 64) (k0 k1 : Block),
    wrapKey t ksi serial (.k16 k0) = .k16 (Config.blockTransform t (k0 ^^^ (ksi ++ serial))) ∧
    wrapKey t ksi serial (.k32 k0 k1) =
      .k32 (Config.blockTransform t (k0 ^^^ (ksi ++ serial)))
        (Config.blockTransform t (k1 ^^^ Config.blockTransform t (k0 ^^^ (ksi ++ serial))))) ∧
  ∀ (s : State) (st : StationId) (b : SlotId) (n : Nat) (ksi serial : BitVec 64) (t : Option SlotId) (base : Key)
    (tag : BitVec 32) (usage : Byte) (transport : Option (Key × BitVec 24)) (p : Package), s.powered = true →
    s.engine.service =
      some { job := .package st b n ksi serial t, copies := .packageKeys base tag usage transport, discard := false } →
    (s.station st).state = .preparing → (s.station st).package = some p → (s.station st).transmitter = [] →
    let k := derivedKey base tag usage n serial
    exec .packageJobDone s = .next
      (settleEngine
        { s.setStation st
            { s.station st with
              state := .sending
              package := some { p with expected := some (checkValue k) }
              transmitter :=
                [match transport with
                 | some (tk, tcv) => .package ksi (wrapKey tk ksi serial k) tcv .wrapped
                 | none => .package ksi k 0 .clear] } with
          engine := { s.engine with service := none } })

/-- Two terminals, or one terminal and two numbers, have different derivation blocks (R97), and so different derived keys under
one base key with one tag and usage (R95, R98). -/
def Obligations.DerivedKeysDiffer : Prop :=
  ∀ (base : Key) (tag : BitVec 32) (usage : Byte) (n m : Nat) (serial serial' : BitVec 64), n < 2 ^ 24 → m < 2 ^ 24 →
    (n ≠ m ∨ serial ≠ serial') →
    derivedKey base tag usage n serial ≠ derivedKey base tag usage m serial'

/-- The VERIFY job completes (R110): ABANDONED for a record without key material, MATCH when the computed check value is the
stored one, each with VERIFY_DONE latched and verify pending clear; MISMATCH quarantines the record after that. A job marked
discard only frees the engine (R107). Then the engine chooses. -/
def Obligations.VerifyAndDiscardComplete : Prop :=
  (∀ (s : State) (i : SlotId) (key : Key) (read : BitVec 24) (a : Account), s.powered = true →
    s.engine.service = some { job := .verify i, copies := .stored key read, discard := false } →
    (s.slot i).readable = true → s.account i = some a →
    let ended (o : VerifyOutcome) : State :=
      { s with
        engine := { s.engine with service := none }
        console := { s.console with lastVerify := o, lastVerifySlot := i, verifyPending := false }
        events := { s.events with latched := s.events.latched ||| Event.verifyDone.bit } }
    (a.state ∉ [RecordState.active, .suspended, .exhausted] →
      exec .verifyJobDone s = .next (settleEngine (ended .abandoned))) ∧
    (a.state ∈ [RecordState.active, .suspended, .exhausted] →
      (a.checkValue = some (checkValue key) → exec .verifyJobDone s = .next (settleEngine (ended .matched))) ∧
      (a.checkValue ≠ some (checkValue key) →
        exec .verifyJobDone s = .next (settleEngine (quarantine [] i (ended .mismatch)))))) ∧
  ∀ (s : State) (v : Service), s.powered = true → s.engine.service = some v → v.discard = true →
    exec .discardedJobDone s = .next (settleEngine { s with engine := { s.engine with service := none } })

/-! ## The dialogue -/

/-- PRESENT (R135, R138): the presence field follows the sense; in OPERATIONAL a station in WAITING places HELLO, starts the
identity timer with the setting as it stands and enters IDENTIFYING; in any other state, and in STARTING and TAMPERED, nothing
more. -/
def Obligations.PresentGreets : Prop :=
  ∀ (s : State) (st : StationId), s.powered = true → (s.station st).present = false →
    (s.device = .operational → (s.station st).state = .waiting → (s.station st).transmitter = [] →
      exec (.present st) s = .next
        (s.setStation st
          { s.station st with
            present := true, state := .identifying
            timer := .identity (s.console.settings.identityTimeout * 1000), transmitter := [.hello] })) ∧
    (s.device ≠ .operational ∨ (s.station st).state ≠ .waiting →
      exec (.present st) s = .next (s.setStation st { s.station st with present := true }))

/-- ABSENT by the table of R150, with the end of a terminal (R117) and the disposal of R43: a package given up in PREPARING is
returned when R41 allows it, else voided. The base record of a package passes its read-check and has no waiting list. A record's
words are those of `recordWords`, in the model's order (log entry 6). -/
def Obligations.AbsentEndsTerminal : Prop :=
  (∀ k : Station,
    (k.base = none → k.endTerminal.state = .unbound) ∧
    (k.base ≠ none → k.armed = false ∨ k.disarmAfter = true →
      k.endTerminal.state = .bound ∧ k.endTerminal.armed = false ∧ k.endTerminal.disarmAfter = false) ∧
    (k.base ≠ none → k.armed = true → k.disarmAfter = false →
      k.endTerminal = { k with state := .waiting, identity := none, package := none, timer := .stopped })) ∧
  ∀ (s : State) (st : StationId), s.powered = true → (s.station st).present = true →
    let gone : Station := { s.station st with present := false }
    (s.device ≠ .operational ∨ (s.station st).state ∈ [StationState.unbound, .bound, .waiting] →
      exec (.absent st) s = .next (s.setStation st gone)) ∧
    (s.device = .operational →
      ((s.station st).state = .identifying ∨ (s.station st).state = .departing →
        exec (.absent st) s = .next (s.setStation st { gone with transmitter := [] }.endTerminal)) ∧
      ((s.station st).state = .held → exec (.absent st) s = .next (s.setStation st { gone with transmitter := [] })) ∧
      (∀ i, (s.station st).state = .stalled → (s.station st).base = some i →
        exec (.absent st) s = .next
          ((s.setSlot i { s.slot i with waiting := (s.slot i).waiting.filter (· ≠ st) }).setStation st
            gone.endTerminal)) ∧
      ∀ p a, (s.station st).state ∈ [StationState.preparing, .sending, .awaitingReceipt] →
        (s.station st).package = some p → s.account p.base = some a → (s.slot p.base).readable = true →
        (s.slot p.base).waiting = [] →
        ∀ iss, a.part = .base iss → a.state.isLive = true →
          iss.entry? p.number = some .outstanding →
          exec (.absent st) s = .next
            (settleEngine
              { (s.setSlot p.base
                  ((s.slot p.base).write
                    (if (s.station st).state = .preparing ∧ p.number + 1 = iss.next ∧
                        iss.window.getLast? = some .outstanding then
                      { a with
                        part := .base
                          { iss with
                            next := p.number, issued := iss.issued - 1, allowance := min (iss.allowance + 1) 65535,
                            window := iss.window.dropLast }
                        state := if a.state = .exhausted then .active else a.state }
                    else { a with part := .base (iss.settle .void p.number) })
                    (s.slot p.base).secret)).setStation st
                  { gone with
                    transmitter := []
                    package := none }.endTerminal with
                engine := s.engine.abandon fun j => j.requester == .station st }))

/-- A settlement and the floor (R38, R39): the entry of the number is CONFIRMED or VOIDED and its count rises; floor advances
over exactly the settled entries at the front, which leave the window, and stops at an OUTSTANDING one or at next. -/
def Obligations.FloorAdvances : Prop :=
  (∀ s : Issuance, ∃ gone,
    s.window = gone ++ s.advance.window ∧ (∀ e ∈ gone, e ≠ .outstanding) ∧
      s.advance.window.head? ∈ [none, some Entry.outstanding] ∧ s.advance.floor = s.floor + gone.length ∧
      s.advance = { s with floor := s.advance.floor, window := s.advance.window }) ∧
  (∀ s : Issuance, s.window.length = s.next - s.floor → s.floor ≤ s.next → s.advance.window = [] →
    s.advance.floor = s.next) ∧
  ∀ (s : Issuance) (n : Nat) (before after : List Entry), s.window = before ++ .outstanding :: after →
    n = s.floor + before.length →
    s.settle .confirm n =
        Issuance.advance { s with window := before ++ .confirmed :: after, confirmed := s.confirmed + 1 } ∧
      s.settle .void n = Issuance.advance { s with window := before ++ .voided :: after, voided := s.voided + 1 }

/-- IDENTITY taken in IDENTIFYING by a station whose transmitter is idle, with the records passing their read-checks (R140,
R141, R142, R33, R34, R44): an unsuited terminal, no transport, NO_NUMBER, a stall, or a number with its package and job. A record's
words are those of `recordWords`, in the model's order (log entry 6). -/
def Obligations.IdentityServed : Prop :=
  ∀ (s : State) (st : StationId) (p : Payload) (i : SlotId) (a : Account) (iss : Issuance), s.powered = true →
    s.device = .operational → s.Sound → s.engine.Settled → p.length = 11 → (s.station st).state = .identifying →
    (s.station st).transmitter = [] → (s.station st).present = true → (s.station st).base = some i →
    s.account i = some a → a.part = .base iss →
    let t : TerminalId :=
      { serial := BitVec.ofNat 64 (natOfBytes (p.take 8)), model := BitVec.ofNat 16 (natOfBytes ((p.drop 8).take 2)),
        acceptsClear := (p.getD 10 0).getLsbD 0, supports32 := (p.getD 10 0).getLsbD 1 }
    let k : Station := { s.station st with timer := .stopped, identity := some t }
    let serves (j : SlotId) (x : Account) : Prop :=
      s.account j = some x ∧ x.state = .active ∧ x.part = .transport t.model
    let wrapped (j : SlotId) : Prop :=
      ∃ x, serves j x ∧ x.has .wrap = true ∧ ∀ j' x', j' < j → ¬ serves j' x'
    let noWrap : Prop := ∀ j x, serves j x → x.has .wrap = false
    let clear : Prop := noWrap ∧ a.has .clear = true ∧ t.acceptsClear = true
    let suited : Prop := t.model ≠ 0 ∧ (a.keyLength = .bytes16 ∨ t.supports32 = true)
    (¬ suited →
      exec (.identity st p) s = .next
        { s.setStation st
            { k with
              state := .departing, package := none, transmitter := [.close .notServed]
              armed := if k.mode = .single then false else k.armed } with
          events := { s.events with latched := s.events.latched ||| Event.terminalUnsuited.bit } }) ∧
    (suited → noWrap → ¬ (a.has .clear = true ∧ t.acceptsClear = true) →
      exec (.identity st p) s = .next (refuseService .noTransport st (s.setStation st k))) ∧
    (suited → (∃ j, wrapped j) ∨ clear →
      (a.state ≠ .active ∨ a.has .issue = false ∨ iss.next > iss.last ∨ iss.allowance = 0 →
        exec (.identity st p) s = .next (refuseService .noNumber st (s.setStation st k))) ∧
      (a.state = .active → a.has .issue = true → iss.next ≤ iss.last → iss.allowance ≠ 0 →
        (iss.next - iss.floor = 16 →
          exec (.identity st p) s = .next
            { (s.setSlot i { s.slot i with waiting := (s.slot i).waiting ++ [st] }).setStation st
                { k with state := .stalled } with
              events := { s.events with latched := s.events.latched ||| Event.windowStall.bit } }) ∧
        (iss.next - iss.floor ≠ 16 →
          ∀ transport : Option SlotId, (∀ j, transport = some j → wrapped j) → (transport = none → clear) →
            let taken : Account :=
              { a with
                part := .base
                  { iss with
                    next := iss.next + 1, allowance := iss.allowance - 1, issued := iss.issued + 1,
                    window := iss.window ++ [.outstanding] }
                state := if iss.next = iss.last then .exhausted else .active }
            let low := s.console.settings.allowanceLow
            let ksi : BitVec 64 := iss.issuer ++ BitVec.ofNat 24 iss.next
            ∃ latched,
              exec (.identity st p) s = .next
                (settleEngine
                  { (s.setSlot i ((s.slot i).write taken (s.slot i).secret)).setStation st
                      { k with
                        state := .preparing
                        package := some
                          { base := i, number := iss.next, ksi := ksi, transport := transport, expected := none } } with
                    engine :=
                      { s.engine with
                        queue := s.engine.queue ++ [.package st i iss.next ksi t.serial transport] }
                    events := { s.events with latched := latched } }) ∧
              latched =
                s.events.latched ||| (if iss.next = iss.last then Event.recordExhausted.bit else 0) |||
                  (if low ≤ iss.allowance ∧ iss.allowance - 1 < low then Event.allowanceLow.bit else 0))))

/-- A station that is not served (R142, R126, R151): CLOSE(NOT_SERVED) when the terminal is present, HELD with the condition,
STATION_HELD latched when the condition is new, and nothing else changes. -/
def Obligations.RefusedServiceHolds : Prop :=
  ∀ (s : State) (st : StationId) (c : HoldCondition),
    refuseService c st s =
      { s.setStation st
          { s.station st with
            state := .held, holds := (s.station st).holds ||| c.bit, timer := .stopped, identity := none,
            package := none, armed := false, disarmAfter := false
            transmitter :=
              if (s.station st).present then placeFrame (.close .notServed) (s.station st).transmitter
              else (s.station st).transmitter } with
        events :=
          { s.events with
            latched :=
              if (s.station st).holds &&& c.bit = c.bit then s.events.latched
              else s.events.latched ||| Event.stationHeld.bit } }

/-- The ends of a dialogue in AWAITING_RECEIPT, on a base record that passes its read-check and has no waiting list, with the
terminal present and the transmitter idle: a matching RECEIPT confirms, CLOSE(ACCEPTED), DEPARTING; a differing one voids,
CLOSE(VOIDED), HELD with RECEIPT_MISMATCH (R146); the receipt timer voids, HELD with RECEIPT_TIMEOUT (R147); REFUSE voids,
DEPARTING, TERMINAL_REFUSED (R148). Armed is cleared on DEPARTING in SINGLE mode alone (R115). The second part takes a full window whose front number is confirmed
by a matching RECEIPT while one other station waits on the list: room opens and the list is served in the same event (R40,
R46, R143): with no number to take the station is HELD with NO_NUMBER, with no transport with NO_TRANSPORT, else it takes the next
number and its PACKAGE job joins the queue. A record's words are those of `recordWords`, in the model's order (log entry 6). -/
def Obligations.NumbersSettled : Prop :=
  (∀ (s : State) (st : StationId) (p : Package) (a : Account) (iss : Issuance), s.powered = true →
    s.device = .operational → s.engine.Settled → (s.station st).state = .awaitingReceipt →
    (s.station st).package = some p → (s.station st).transmitter = [] → (s.station st).present = true →
    (s.station st).holds = 0 → s.account p.base = some a → a.part = .base iss → (s.slot p.base).readable = true →
    (s.slot p.base).waiting = [] → a.state.isLive = true → iss.entry? p.number = some .outstanding →
    let settled (kind : Settlement) : State :=
      s.setSlot p.base
        ((s.slot p.base).write { a with part := .base (iss.settle kind p.number) } (s.slot p.base).secret)
    let departing (code : CloseCode) : Station :=
      { s.station st with
        state := .departing, timer := .stopped, package := none, transmitter := [.close code]
        armed := if (s.station st).mode = .single then false else (s.station st).armed }
    let held (c : HoldCondition) : Station :=
      { s.station st with
        state := .held, timer := .stopped, package := none, transmitter := [.close .voided], holds := c.bit,
        identity := none, armed := false, disarmAfter := false }
    let latching (e : Event) (t : State) : State :=
      { t with events := { s.events with latched := s.events.latched ||| e.bit } }
    (∀ r : Payload, r.length = 11 →
      (BitVec.ofNat 64 (natOfBytes (r.take 8)) = p.ksi ∧
          some (BitVec.ofNat 24 (natOfBytes ((r.drop 8).take 3))) = p.expected →
        exec (.receipt st r) s = .next ((settled .confirm).setStation st (departing .accepted))) ∧
      (¬ (BitVec.ofNat 64 (natOfBytes (r.take 8)) = p.ksi ∧
          some (BitVec.ofNat 24 (natOfBytes ((r.drop 8).take 3))) = p.expected) →
        exec (.receipt st r) s = .next
          (latching .stationHeld ((settled .void).setStation st (held .receiptMismatch))))) ∧
    (∀ reason : Byte,
      exec (.refuse st [reason]) s = .next
        (latching .terminalRefused ((settled .void).setStation st (departing .voided)))) ∧
    ∀ left, (s.station st).timer = .receipt left →
      exec (.receiptTimerExpiry st) s = .next
        (latching .stationHeld ((settled .void).setStation st (held .receiptTimeout)))) ∧
  ∀ (s : State) (st w : StationId) (p : Package) (a : Account) (iss : Issuance) (key : Key) (t : TerminalId) (r : Payload),
    s.powered = true → s.device = .operational → s.engine.Settled → s.Sound →
    (s.station st).state = .awaitingReceipt → (s.station st).package = some p → (s.station st).transmitter = [] →
    (s.station st).present = true → s.account p.base = some a → a.part = .base iss →
    a.state = .active ∨ a.state = .suspended ∨ a.state = .exhausted → (s.slot p.base).secret = some key →
    iss.window.length = 16 → iss.next = iss.floor + 16 → iss.window.head? = some .outstanding → p.number = iss.floor →
    st ≠ w → (s.slot p.base).waiting = [w] → (s.station w).state = .stalled → (s.station w).base = some p.base →
    (s.station w).identity = some t → r.length = 11 → BitVec.ofNat 64 (natOfBytes (r.take 8)) = p.ksi →
    some (BitVec.ofNat 24 (natOfBytes ((r.drop 8).take 3))) = p.expected →
    let confirmed : Issuance := iss.settle .confirm p.number
    let record (b : Account) : Slot :=
      { account := some b, words := recordWords b (some key), waiting := [] }
    let freed : State :=
      (s.setSlot p.base (record { a with part := .base confirmed })).setStation st
        { s.station st with
          state := .departing, timer := .stopped, package := none, transmitter := [.close .accepted]
          armed := if (s.station st).mode = .single then false else (s.station st).armed }
    let serves (j : SlotId) (x : Account) : Prop :=
      s.account j = some x ∧ x.state = .active ∧ x.part = .transport t.model
    let wrapped (j : SlotId) : Prop := ∃ x, serves j x ∧ x.has .wrap = true ∧ ∀ j' x', j' < j → ¬ serves j' x'
    let noWrap : Prop := ∀ j x, serves j x → x.has .wrap = false
    let clear : Prop := noWrap ∧ a.has .clear = true ∧ t.acceptsClear = true
    (a.state ≠ .active ∨ a.has .issue = false ∨ iss.next > iss.last ∨ iss.allowance = 0 →
      exec (.receipt st r) s = .next (refuseService .noNumber w freed)) ∧
    (a.state = .active → a.has .issue = true → iss.next ≤ iss.last → iss.allowance ≠ 0 →
      (noWrap → ¬ (a.has .clear = true ∧ t.acceptsClear = true) →
        exec (.receipt st r) s = .next (refuseService .noTransport w freed)) ∧
      ∀ transport : Option SlotId, (∀ j, transport = some j → wrapped j) → (transport = none → clear) →
        let low := s.console.settings.allowanceLow
        let ksi : BitVec 64 := iss.issuer ++ BitVec.ofNat 24 iss.next
        exec (.receipt st r) s = .next
          (settleEngine
            { (freed.setSlot p.base
                (record
                  { a with
                    part := .base
                      { confirmed with
                        next := iss.next + 1, allowance := iss.allowance - 1, issued := iss.issued + 1,
                        window := confirmed.window ++ [.outstanding] }
                    state := if iss.next = iss.last then .exhausted else .active })).setStation w
                { s.station w with
                  state := .preparing, timer := .stopped
                  package := some
                    { base := p.base, number := iss.next, ksi := ksi, transport := transport, expected := none } } with
              engine :=
                { s.engine with queue := s.engine.queue ++ [.package w p.base iss.next ksi t.serial transport] }
              events :=
                { s.events with
                  latched :=
                    s.events.latched ||| (if iss.next = iss.last then Event.recordExhausted.bit else 0) |||
                      (if low ≤ iss.allowance ∧ iss.allowance - 1 < low then Event.allowanceLow.bit else 0) } }))

/-- The end of a PACKAGE starts the receipt timer (R145); the end of a HELLO or CLOSE takes it off the list (R136); the identity
timer running out in IDENTIFYING sends CLOSE(NOT_SERVED) and leads to DEPARTING (R139); that an expiry event at a stopped timer
changes nothing is log entry 8 (R149). A terminal frame that the state does not await, whose length does not fit its kind, or
that arrives while the station's transmitter is sending is discarded with LINE_ERROR_STATION in OPERATIONAL, and without an
event in STARTING and TAMPERED (R137, R136). -/
def Obligations.StationLineEvents : Prop :=
  (∀ (s : State) (st : StationId) (p : Payload) (c : Instr), s.powered = true →
    c = .identity st p ∧ (p.length ≠ 11 ∨ (s.station st).transmitter ≠ [] ∨ s.device ≠ .operational) ∨
      c = .receipt st p ∧ (p.length ≠ 11 ∨ (s.station st).transmitter ≠ [] ∨ s.device ≠ .operational) ∨
      c = .refuse st p ∧ (p.length ≠ 1 ∨ (s.station st).transmitter ≠ [] ∨ s.device ≠ .operational) →
    (s.device = .operational →
      exec c s = .next
        { s with events := { s.events with latched := s.events.latched ||| Event.lineErrorStation.bit } }) ∧
    (s.device ≠ .operational → exec c s = .next s)) ∧
  ∀ (s : State) (st : StationId), s.powered = true →
    (∀ ksi key tcv kind rest, (s.station st).state = .sending →
      (s.station st).transmitter = .package ksi key tcv kind :: rest →
      exec (.endOfTransmission st) s = .next
        (s.setStation st
          { s.station st with
            state := .awaitingReceipt, transmitter := rest
            timer := .receipt (s.console.settings.receiptTimeout * 1000) })) ∧
    (∀ f rest, f = .hello ∨ (∃ c, f = .close c) → (s.station st).transmitter = f :: rest →
      exec (.stationFrameSent st) s = .next (s.setStation st { s.station st with transmitter := rest })) ∧
    (∀ left, (s.station st).state = .identifying → (s.station st).timer = .identity left →
      (s.station st).present = true → (s.station st).transmitter = [] →
      exec (.identityTimerExpiry st) s = .next
        { s.setStation st
            { s.station st with
              state := .departing, timer := .stopped, package := none, transmitter := [.close .notServed]
              armed := if (s.station st).mode = .single then false else (s.station st).armed } with
          events := { s.events with latched := s.events.latched ||| Event.identityTimeout.bit } }) ∧
    ((s.station st).timer = .stopped →
      exec (.identityTimerExpiry st) s = .next s ∧ exec (.receiptTimerExpiry st) s = .next s) ∧
    (∀ p, s.device = .operational →
      ((s.station st).state ≠ .identifying →
        exec (.identity st p) s = .next
          { s with events := { s.events with latched := s.events.latched ||| Event.lineErrorStation.bit } }) ∧
      ((s.station st).state ≠ .awaitingReceipt →
        exec (.receipt st p) s = .next
            { s with events := { s.events with latched := s.events.latched ||| Event.lineErrorStation.bit } } ∧
          exec (.refuse st p) s = .next
            { s with events := { s.events with latched := s.events.latched ||| Event.lineErrorStation.bit } }))

/-! ## Integrity and tamper -/

/-- A storage error changes stored words alone (R156); the sweep read-checks the next record in use after its position, which
the position then names, and starts its timer again (R158); the completion of the start-up check voids every OUTSTANDING
number of a record that holds its key, starts the sweep at position 191 and makes the device OPERATIONAL (R51, R163, R176).
The completion that comes when the last slot has been checked checks no record again: one that a storage error altered since is
voided in its account copy and disagrees afterwards as before (R163; its words are the model's choice, log entry 32). A
completion at any point checks the slots not yet passed (log entry 7): of these each record that disagrees is quarantined,
RECORD_QUARANTINED is latched, and its numbers are passed by in the voiding (R163, R160, R50); nothing else changes. A record's
words are those of `recordWords`, in the model's order (log entry 6). -/
def Obligations.IntegrityEvents : Prop :=
  (∀ (s : State) (i : SlotId) (place : Nat) (w : Word32) (a : Account), s.account i = some a →
    exec (.storageError i [(place, w)]) s = .next
      (s.setSlot i { s.slot i with words := (s.slot i).words.set place w })) ∧
  (∀ (s : State) (left : Nat), s.powered = true → s.checker.sweepTimer = some left → s.engine.Settled →
    ((∀ i, s.account i = none) →
      exec .sweepTimerExpiry s = .next
        { s with checker := { s.checker with sweepTimer := some s.console.settings.sweepPeriod } }) ∧
    ∀ (i : SlotId) (a : Account), s.account i = some a →
      (∀ j b, s.account j = some b →
        (i.val + 191 - s.checker.sweepPosition.val) % 192 ≤ (j.val + 191 - s.checker.sweepPosition.val) % 192) →
      exec .sweepTimerExpiry s = .next
        (settleEngine
          (check i
            { s with checker := { sweepPosition := i, sweepTimer := some s.console.settings.sweepPeriod } }))) ∧
  (∀ (s : State) (k : Nat), s.powered = true → s.device = .starting k → s.Sound → s.engine.Settled →
    ∃ t, exec .startUpCheckCompletion s = .next t ∧
      t = { s with
        table := t.table, device := .operational
        checker := { sweepPosition := 191, sweepTimer := some s.console.settings.sweepPeriod } } ∧
      ∀ i,
        (∀ a iss, s.account i = some a → a.part = .base iss →
          a.state = .active ∨ a.state = .suspended ∨ a.state = .exhausted →
          t.slot i =
            (s.slot i).write
              { a with
                part := .base
                  { iss with
                    voided := iss.voided + iss.window.count .outstanding, floor := iss.next, window := [] } }
              (s.slot i).secret) ∧
        ((∀ a, s.account i = some a →
            a.part.isBase = false ∨ a.state ∉ [RecordState.active, .suspended, .exhausted]) →
          t.slot i = s.slot i)) ∧
  (∀ (s : State) (k : Nat), s.powered = true → s.device = .starting k → 192 ≤ k → s.engine.Settled →
    ∃ t, exec .startUpCheckCompletion s = .next t ∧ t.device = .operational ∧
      t.engine = s.engine ∧ t.events = s.events ∧
      ∀ i,
        (t.slot i).agrees = (s.slot i).agrees ∧
        ∀ a, s.account i = some a →
          (∀ iss, a.part = .base iss → a.state = .active ∨ a.state = .suspended ∨ a.state = .exhausted →
            t.account i =
              some
                { a with
                  part := .base
                    { iss with
                      voided := iss.voided + iss.window.count .outstanding, floor := iss.next, window := [] } }) ∧
          (a.part.isBase = false ∨ a.state ∉ [RecordState.active, .suspended, .exhausted] → t.slot i = s.slot i)) ∧
  ∀ (s : State) (k : Nat), s.powered = true → s.device = .starting k → s.NothingHangs →
    let caught (i : SlotId) : Bool := k ≤ i.val && !(s.slot i).readable
    ∃ t, exec .startUpCheckCompletion s = .next t ∧
      t = { s with
        table := t.table, device := .operational
        checker := { sweepPosition := 191, sweepTimer := some s.console.settings.sweepPeriod }
        events :=
          { s.events with
            latched :=
              if (List.finRange 192).any caught then s.events.latched ||| Event.recordQuarantined.bit
              else s.events.latched } } ∧
      ∀ i,
        (caught i = true → ∀ a, s.account i = some a →
          t.slot i =
              { account := some { a with state := .quarantined, assembly := none },
                words := recordWords { a with state := .quarantined, assembly := none } none, waiting := [] } ∧
            wordSum (t.slot i).words = 0xFFFFFFFF) ∧
        (s.account i = none → t.slot i = s.slot i) ∧
        (caught i = false → ∀ a, s.account i = some a →
          (∀ iss, a.part = .base iss → a.state = .active ∨ a.state = .suspended ∨ a.state = .exhausted →
            let voided : Account :=
              { a with
                part := .base
                  { iss with
                    voided := iss.voided + iss.window.count .outstanding, floor := iss.next, window := [] } }
            t.account i = some voided ∧ (t.slot i).agrees = (s.slot i).agrees ∧
              ((s.slot i).agrees = true → t.slot i = (s.slot i).write voided (s.slot i).secret)) ∧
          (a.part.isBase = false ∨ a.state ∉ [RecordState.active, .suspended, .exhausted] → t.slot i = s.slot i))

/-- A tamper cause (R168, R169, R173). Under main power: the latch is set, the input joins the cause, the device is TAMPERED, every
record is EMPTY, tickets, jobs and station contexts are gone, a job in service is marked discard, and settings, events, mask,
restart indication, ticket counter, answers being sent, console receiver and supervision are kept. Without main power, by the
enclosure or by the band's move into LIMIT: the latch is set, the input joins the cause, every record is EMPTY, and nothing
else changes (R173; that no TEMPERATURE_WARNING is latched then is log entry 14); the supply input is not watched (R166). An
input that is active already does not repeat its cause; one that becomes inactive changes its level alone (R166). -/
def Obligations.TamperCauseZeroizes : Prop :=
  (∀ (s : State) (input : TamperInput), s.powered = true →
    (input = .enclosure ∧ s.tamper.enclosureActive = false ∨ input = .supply ∧ s.tamper.supplyActive = false ∨
      input = .temperature ∧ s.tamper.band = .warning) →
    exec (.tamperCause input) s = .next
      { s with
        device := .tampered
        tamper :=
          { latch := true, cause := s.tamper.cause ||| input.bit
            band := if input = .temperature then .limit else s.tamper.band
            enclosureActive := s.tamper.enclosureActive || input == .enclosure
            supplyActive := s.tamper.supplyActive || input == .supply }
        table := Vector.replicate 192 { account := none, words := [], waiting := [] }
        approval := { tickets := [], finished := [], counter := s.approval.counter }
        engine :=
          { queue := [], service := s.engine.service.map (fun v => { v with discard := true }), lastServed := 7 }
        stations := s.stations.map fun k => Station.cleared k.present
        lines := s.lines.map fun k =>
          { receiver := .hunting, sending := k.sending, last := { outcome := .none, slot := 0, check := none } }
        checker := { sweepPosition := 191, sweepTimer := none }
        console := { s.console with lastVerify := .none, lastVerifySlot := 0, verifyPending := false } }) ∧
  (∀ (s : State) (input : TamperInput), s.powered = false →
    (input = .enclosure ∧ s.tamper.enclosureActive = false ∨ input = .temperature ∧ s.tamper.band ≠ .limit →
      exec (.tamperCause input) s = .next
        { s with
          tamper :=
            { latch := true, cause := s.tamper.cause ||| input.bit
              band := if input = .temperature then .limit else s.tamper.band
              enclosureActive := s.tamper.enclosureActive || input == .enclosure
              supplyActive := s.tamper.supplyActive }
          table := Vector.replicate 192 { account := none, words := [], waiting := [] } }) ∧
    exec (.tamperCause .supply) s = .next s) ∧
  (∀ s : State,
    (s.tamper.enclosureActive = true → exec (.tamperCause .enclosure) s = .next s) ∧
      (s.tamper.supplyActive = true → exec (.tamperCause .supply) s = .next s) ∧
      (s.tamper.band = .limit → exec (.tamperCause .temperature) s = .next s)) ∧
  ∀ s : State,
    exec (.tamperInputInactive .enclosure) s =
        .next { s with tamper := { s.tamper with enclosureActive := false } } ∧
      exec (.tamperInputInactive .supply) s = .next { s with tamper := { s.tamper with supplyActive := false } }

/-- The temperature band by the table of R167: each reading moves it as the table says and leaves it otherwise;
TEMPERATURE_WARNING is latched when it leaves NORMAL; the move into LIMIT is a tamper cause (R168). Without main power the
readings move it by the same table, and the move into LIMIT sets the latch, names TEMPERATURE in the cause and empties every
record (R173); that no event is latched then is log entry 14. -/
def Obligations.TemperatureBand : Prop :=
  (∀ (s : State) (c : Int), s.powered = true →
    let moved (b : Band) : State := { s with tamper := { s.tamper with band := b } }
    let warned (t : State) : State :=
      { t with events := { s.events with latched := s.events.latched ||| Event.temperatureWarning.bit } }
    (s.tamper.band = .normal →
      (-5 ≤ c → c ≤ 70 → exec (.temperatureReading c) s = .next s) ∧
      (-20 ≤ c → c ≤ 85 → (c > 70 ∨ c < -5) → exec (.temperatureReading c) s = .next (warned (moved .warning))) ∧
      (c > 85 ∨ c < -20 → ∃ t, exec (.temperatureReading c) s = .next t ∧ t.tamper.band = .limit ∧
        t.device = .tampered ∧ t.tamper.latch = true ∧ t.tamper.cause = s.tamper.cause ||| 2 ∧
        t.events.latched = s.events.latched ||| Event.temperatureWarning.bit ∧ ∀ i, t.account i = none)) ∧
    (s.tamper.band = .warning →
      (-3 ≤ c → c ≤ 68 → exec (.temperatureReading c) s = .next (moved .normal)) ∧
      (-20 ≤ c → c ≤ 85 → (c > 68 ∨ c < -3) → exec (.temperatureReading c) s = .next s) ∧
      (c > 85 ∨ c < -20 → ∃ t, exec (.temperatureReading c) s = .next t ∧ t.tamper.band = .limit ∧
        t.device = .tampered ∧ t.tamper.latch = true ∧ t.events.latched = s.events.latched ∧
        ∀ i, t.account i = none)) ∧
    (s.tamper.band = .limit →
      (-3 ≤ c → c ≤ 68 → exec (.temperatureReading c) s = .next (moved .normal)) ∧
      (-18 ≤ c → c ≤ 83 → (c > 68 ∨ c < -3) → exec (.temperatureReading c) s = .next (moved .warning)) ∧
      (c > 83 ∨ c < -18 → exec (.temperatureReading c) s = .next s))) ∧
  ∀ (s : State) (c : Int), s.powered = false →
    let moved (b : Band) : State := { s with tamper := { s.tamper with band := b } }
    let emptied : State :=
      { s with
        tamper := { s.tamper with latch := true, cause := s.tamper.cause ||| 2, band := .limit }
        table := Vector.replicate 192 { account := none, words := [], waiting := [] } }
    (s.tamper.band = .normal →
      (-5 ≤ c → c ≤ 70 → exec (.temperatureReading c) s = .next s) ∧
      (-20 ≤ c → c ≤ 85 → (c > 70 ∨ c < -5) → exec (.temperatureReading c) s = .next (moved .warning)) ∧
      (c > 85 ∨ c < -20 → exec (.temperatureReading c) s = .next emptied)) ∧
    (s.tamper.band = .warning →
      (-3 ≤ c → c ≤ 68 → exec (.temperatureReading c) s = .next (moved .normal)) ∧
      (-20 ≤ c → c ≤ 85 → (c > 68 ∨ c < -3) → exec (.temperatureReading c) s = .next s) ∧
      (c > 85 ∨ c < -20 → exec (.temperatureReading c) s = .next emptied)) ∧
    (s.tamper.band = .limit →
      (-3 ≤ c → c ≤ 68 → exec (.temperatureReading c) s = .next (moved .normal)) ∧
      (-18 ≤ c → c ≤ 83 → (c > 68 ∨ c < -3) → exec (.temperatureReading c) s = .next (moved .warning)) ∧
      (c > 83 ∨ c < -18 → exec (.temperatureReading c) s = .next s))
end

