-- ==== Sys2Proof/Laws/Characters.lean ====
section
/-!
SUPPORT. A receiver sees the characters that were sent (R197): one lemma for a character, one for a run of bytes.
-/
namespace Sys2Proof.Machine

theorem characterOfBits_ofNat :
    ∀ n < 256, characterOfBits (characterBits (BitVec.ofNat 8 n)) = some (.character (BitVec.ofNat 8 n) true) := by
  decide +kernel

/-- The 11 bits of a character are read as its byte, parity and stop bit good. -/
@[simp] theorem characterOfBits_characterBits (b : Byte) :
    characterOfBits (characterBits b) = some (.character b true) := by
  simpa using characterOfBits_ofNat b.toNat b.isLt

/-- Eleven bits that begin with a start level, on an idle line, are one character and leave the line idle. -/
theorem itemsOfBits_character (since : Nat) (d0 d1 d2 d3 d4 d5 d6 d7 p stop : Bool) (rest : List Bool) :
    itemsOfBits (.idle since) ([false, d0, d1, d2, d3, d4, d5, d6, d7, p, stop] ++ rest) =
      (characterOfBits [false, d0, d1, d2, d3, d4, d5, d6, d7, p, stop]).toList ++ itemsOfBits (.idle 0) rest := rfl

/-- The bytes of a run of characters, one after the other with no gap, are what a receiver sees. -/
theorem itemsOfBits_lineBits (l : List Byte) (since : Nat) :
    itemsOfBits (.idle since) (l.flatMap characterBits) = l.map fun b => .character b true := by
  induction l generalizing since with
  | nil => rfl
  | cons b l ih =>
    have h := itemsOfBits_character since (b.getLsbD 0) (b.getLsbD 1) (b.getLsbD 2) (b.getLsbD 3) (b.getLsbD 4)
      (b.getLsbD 5) (b.getLsbD 6) (b.getLsbD 7) (parityBit b) true (l.flatMap characterBits)
    have e : characterBits b =
        [false, b.getLsbD 0, b.getLsbD 1, b.getLsbD 2, b.getLsbD 3, b.getLsbD 4, b.getLsbD 5, b.getLsbD 6, b.getLsbD 7,
          parityBit b, true] := rfl
    rw [← e, characterOfBits_characterBits] at h
    simpa [ih] using h

end Sys2Proof.Machine
end

