-- ==== Sys2Proof/Laws/State.lean ====
section
/-!
SUPPORT. One lemma for each field under each update of the state, true by rfl, and the access lemmas of slots, stations
and lines.
-/
namespace Sys2Proof.Machine

variable (s : State)

/-! ### setSlot -/

@[simp] theorem setSlot_pending (i : SlotId) (x : Slot) : (s.setSlot i x).pending = s.pending := rfl
@[simp] theorem setSlot_powered (i : SlotId) (x : Slot) : (s.setSlot i x).powered = s.powered := rfl
@[simp] theorem setSlot_device (i : SlotId) (x : Slot) : (s.setSlot i x).device = s.device := rfl
@[simp] theorem setSlot_console (i : SlotId) (x : Slot) : (s.setSlot i x).console = s.console := rfl
@[simp] theorem setSlot_lines (i : SlotId) (x : Slot) : (s.setSlot i x).lines = s.lines := rfl
@[simp] theorem setSlot_approval (i : SlotId) (x : Slot) : (s.setSlot i x).approval = s.approval := rfl
@[simp] theorem setSlot_checker (i : SlotId) (x : Slot) : (s.setSlot i x).checker = s.checker := rfl
@[simp] theorem setSlot_engine (i : SlotId) (x : Slot) : (s.setSlot i x).engine = s.engine := rfl
@[simp] theorem setSlot_stations (i : SlotId) (x : Slot) : (s.setSlot i x).stations = s.stations := rfl
@[simp] theorem setSlot_events (i : SlotId) (x : Slot) : (s.setSlot i x).events = s.events := rfl
@[simp] theorem setSlot_tamper (i : SlotId) (x : Slot) : (s.setSlot i x).tamper = s.tamper := rfl
@[simp] theorem setSlot_station (i : SlotId) (x : Slot) (tt : StationId) : (s.setSlot i x).station tt = s.station tt := rfl
@[simp] theorem setSlot_line (i : SlotId) (x : Slot) (ll : Line) : (s.setSlot i x).line ll = s.line ll := rfl

/-! ### modifySlot -/

@[simp] theorem modifySlot_pending (i : SlotId) (f : Slot → Slot) : (s.modifySlot i f).pending = s.pending := rfl
@[simp] theorem modifySlot_powered (i : SlotId) (f : Slot → Slot) : (s.modifySlot i f).powered = s.powered := rfl
@[simp] theorem modifySlot_device (i : SlotId) (f : Slot → Slot) : (s.modifySlot i f).device = s.device := rfl
@[simp] theorem modifySlot_console (i : SlotId) (f : Slot → Slot) : (s.modifySlot i f).console = s.console := rfl
@[simp] theorem modifySlot_lines (i : SlotId) (f : Slot → Slot) : (s.modifySlot i f).lines = s.lines := rfl
@[simp] theorem modifySlot_approval (i : SlotId) (f : Slot → Slot) : (s.modifySlot i f).approval = s.approval := rfl
@[simp] theorem modifySlot_checker (i : SlotId) (f : Slot → Slot) : (s.modifySlot i f).checker = s.checker := rfl
@[simp] theorem modifySlot_engine (i : SlotId) (f : Slot → Slot) : (s.modifySlot i f).engine = s.engine := rfl
@[simp] theorem modifySlot_stations (i : SlotId) (f : Slot → Slot) : (s.modifySlot i f).stations = s.stations := rfl
@[simp] theorem modifySlot_events (i : SlotId) (f : Slot → Slot) : (s.modifySlot i f).events = s.events := rfl
@[simp] theorem modifySlot_tamper (i : SlotId) (f : Slot → Slot) : (s.modifySlot i f).tamper = s.tamper := rfl
@[simp] theorem modifySlot_station (i : SlotId) (f : Slot → Slot) (tt : StationId) : (s.modifySlot i f).station tt = s.station tt := rfl
@[simp] theorem modifySlot_line (i : SlotId) (f : Slot → Slot) (ll : Line) : (s.modifySlot i f).line ll = s.line ll := rfl

/-! ### setStation -/

@[simp] theorem setStation_pending (st : StationId) (x : Station) : (s.setStation st x).pending = s.pending := rfl
@[simp] theorem setStation_powered (st : StationId) (x : Station) : (s.setStation st x).powered = s.powered := rfl
@[simp] theorem setStation_device (st : StationId) (x : Station) : (s.setStation st x).device = s.device := rfl
@[simp] theorem setStation_console (st : StationId) (x : Station) : (s.setStation st x).console = s.console := rfl
@[simp] theorem setStation_lines (st : StationId) (x : Station) : (s.setStation st x).lines = s.lines := rfl
@[simp] theorem setStation_approval (st : StationId) (x : Station) : (s.setStation st x).approval = s.approval := rfl
@[simp] theorem setStation_table (st : StationId) (x : Station) : (s.setStation st x).table = s.table := rfl
@[simp] theorem setStation_checker (st : StationId) (x : Station) : (s.setStation st x).checker = s.checker := rfl
@[simp] theorem setStation_engine (st : StationId) (x : Station) : (s.setStation st x).engine = s.engine := rfl
@[simp] theorem setStation_events (st : StationId) (x : Station) : (s.setStation st x).events = s.events := rfl
@[simp] theorem setStation_tamper (st : StationId) (x : Station) : (s.setStation st x).tamper = s.tamper := rfl
@[simp] theorem setStation_slot (st : StationId) (x : Station) (j : SlotId) : (s.setStation st x).slot j = s.slot j := rfl
@[simp] theorem setStation_line (st : StationId) (x : Station) (ll : Line) : (s.setStation st x).line ll = s.line ll := rfl
@[simp] theorem setStation_account (st : StationId) (x : Station) (j : SlotId) : (s.setStation st x).account j = s.account j := rfl

/-! ### modifyStation -/

@[simp] theorem modifyStation_pending (st : StationId) (f : Station → Station) : (s.modifyStation st f).pending = s.pending := rfl
@[simp] theorem modifyStation_powered (st : StationId) (f : Station → Station) : (s.modifyStation st f).powered = s.powered := rfl
@[simp] theorem modifyStation_device (st : StationId) (f : Station → Station) : (s.modifyStation st f).device = s.device := rfl
@[simp] theorem modifyStation_console (st : StationId) (f : Station → Station) : (s.modifyStation st f).console = s.console := rfl
@[simp] theorem modifyStation_lines (st : StationId) (f : Station → Station) : (s.modifyStation st f).lines = s.lines := rfl
@[simp] theorem modifyStation_approval (st : StationId) (f : Station → Station) : (s.modifyStation st f).approval = s.approval := rfl
@[simp] theorem modifyStation_table (st : StationId) (f : Station → Station) : (s.modifyStation st f).table = s.table := rfl
@[simp] theorem modifyStation_checker (st : StationId) (f : Station → Station) : (s.modifyStation st f).checker = s.checker := rfl
@[simp] theorem modifyStation_engine (st : StationId) (f : Station → Station) : (s.modifyStation st f).engine = s.engine := rfl
@[simp] theorem modifyStation_events (st : StationId) (f : Station → Station) : (s.modifyStation st f).events = s.events := rfl
@[simp] theorem modifyStation_tamper (st : StationId) (f : Station → Station) : (s.modifyStation st f).tamper = s.tamper := rfl
@[simp] theorem modifyStation_slot (st : StationId) (f : Station → Station) (j : SlotId) : (s.modifyStation st f).slot j = s.slot j := rfl
@[simp] theorem modifyStation_line (st : StationId) (f : Station → Station) (ll : Line) : (s.modifyStation st f).line ll = s.line ll := rfl
@[simp] theorem modifyStation_account (st : StationId) (f : Station → Station) (j : SlotId) : (s.modifyStation st f).account j = s.account j := rfl

/-! ### setLine -/

@[simp] theorem setLine_pending (l : Line) (x : CustodianLine) : (s.setLine l x).pending = s.pending := rfl
@[simp] theorem setLine_powered (l : Line) (x : CustodianLine) : (s.setLine l x).powered = s.powered := rfl
@[simp] theorem setLine_device (l : Line) (x : CustodianLine) : (s.setLine l x).device = s.device := rfl
@[simp] theorem setLine_console (l : Line) (x : CustodianLine) : (s.setLine l x).console = s.console := rfl
@[simp] theorem setLine_approval (l : Line) (x : CustodianLine) : (s.setLine l x).approval = s.approval := rfl
@[simp] theorem setLine_table (l : Line) (x : CustodianLine) : (s.setLine l x).table = s.table := rfl
@[simp] theorem setLine_checker (l : Line) (x : CustodianLine) : (s.setLine l x).checker = s.checker := rfl
@[simp] theorem setLine_engine (l : Line) (x : CustodianLine) : (s.setLine l x).engine = s.engine := rfl
@[simp] theorem setLine_stations (l : Line) (x : CustodianLine) : (s.setLine l x).stations = s.stations := rfl
@[simp] theorem setLine_events (l : Line) (x : CustodianLine) : (s.setLine l x).events = s.events := rfl
@[simp] theorem setLine_tamper (l : Line) (x : CustodianLine) : (s.setLine l x).tamper = s.tamper := rfl
@[simp] theorem setLine_slot (l : Line) (x : CustodianLine) (j : SlotId) : (s.setLine l x).slot j = s.slot j := rfl
@[simp] theorem setLine_station (l : Line) (x : CustodianLine) (tt : StationId) : (s.setLine l x).station tt = s.station tt := rfl
@[simp] theorem setLine_account (l : Line) (x : CustodianLine) (j : SlotId) : (s.setLine l x).account j = s.account j := rfl

/-! ### modifyLine -/

@[simp] theorem modifyLine_pending (l : Line) (f : CustodianLine → CustodianLine) : (s.modifyLine l f).pending = s.pending := rfl
@[simp] theorem modifyLine_powered (l : Line) (f : CustodianLine → CustodianLine) : (s.modifyLine l f).powered = s.powered := rfl
@[simp] theorem modifyLine_device (l : Line) (f : CustodianLine → CustodianLine) : (s.modifyLine l f).device = s.device := rfl
@[simp] theorem modifyLine_console (l : Line) (f : CustodianLine → CustodianLine) : (s.modifyLine l f).console = s.console := rfl
@[simp] theorem modifyLine_approval (l : Line) (f : CustodianLine → CustodianLine) : (s.modifyLine l f).approval = s.approval := rfl
@[simp] theorem modifyLine_table (l : Line) (f : CustodianLine → CustodianLine) : (s.modifyLine l f).table = s.table := rfl
@[simp] theorem modifyLine_checker (l : Line) (f : CustodianLine → CustodianLine) : (s.modifyLine l f).checker = s.checker := rfl
@[simp] theorem modifyLine_engine (l : Line) (f : CustodianLine → CustodianLine) : (s.modifyLine l f).engine = s.engine := rfl
@[simp] theorem modifyLine_stations (l : Line) (f : CustodianLine → CustodianLine) : (s.modifyLine l f).stations = s.stations := rfl
@[simp] theorem modifyLine_events (l : Line) (f : CustodianLine → CustodianLine) : (s.modifyLine l f).events = s.events := rfl
@[simp] theorem modifyLine_tamper (l : Line) (f : CustodianLine → CustodianLine) : (s.modifyLine l f).tamper = s.tamper := rfl
@[simp] theorem modifyLine_slot (l : Line) (f : CustodianLine → CustodianLine) (j : SlotId) : (s.modifyLine l f).slot j = s.slot j := rfl
@[simp] theorem modifyLine_station (l : Line) (f : CustodianLine → CustodianLine) (tt : StationId) : (s.modifyLine l f).station tt = s.station tt := rfl
@[simp] theorem modifyLine_account (l : Line) (f : CustodianLine → CustodianLine) (j : SlotId) : (s.modifyLine l f).account j = s.account j := rfl

/-! ### setConsole -/

@[simp] theorem setConsole_pending (x : ConsoleLink) : (s.setConsole x).pending = s.pending := rfl
@[simp] theorem setConsole_powered (x : ConsoleLink) : (s.setConsole x).powered = s.powered := rfl
@[simp] theorem setConsole_device (x : ConsoleLink) : (s.setConsole x).device = s.device := rfl
@[simp] theorem setConsole_console (x : ConsoleLink) : (s.setConsole x).console = x := rfl
@[simp] theorem setConsole_lines (x : ConsoleLink) : (s.setConsole x).lines = s.lines := rfl
@[simp] theorem setConsole_approval (x : ConsoleLink) : (s.setConsole x).approval = s.approval := rfl
@[simp] theorem setConsole_table (x : ConsoleLink) : (s.setConsole x).table = s.table := rfl
@[simp] theorem setConsole_checker (x : ConsoleLink) : (s.setConsole x).checker = s.checker := rfl
@[simp] theorem setConsole_engine (x : ConsoleLink) : (s.setConsole x).engine = s.engine := rfl
@[simp] theorem setConsole_stations (x : ConsoleLink) : (s.setConsole x).stations = s.stations := rfl
@[simp] theorem setConsole_events (x : ConsoleLink) : (s.setConsole x).events = s.events := rfl
@[simp] theorem setConsole_tamper (x : ConsoleLink) : (s.setConsole x).tamper = s.tamper := rfl
@[simp] theorem setConsole_slot (x : ConsoleLink) (j : SlotId) : (s.setConsole x).slot j = s.slot j := rfl
@[simp] theorem setConsole_station (x : ConsoleLink) (tt : StationId) : (s.setConsole x).station tt = s.station tt := rfl
@[simp] theorem setConsole_line (x : ConsoleLink) (ll : Line) : (s.setConsole x).line ll = s.line ll := rfl
@[simp] theorem setConsole_account (x : ConsoleLink) (j : SlotId) : (s.setConsole x).account j = s.account j := rfl

/-! ### setApproval -/

@[simp] theorem setApproval_pending (x : ApprovalUnit) : (s.setApproval x).pending = s.pending := rfl
@[simp] theorem setApproval_powered (x : ApprovalUnit) : (s.setApproval x).powered = s.powered := rfl
@[simp] theorem setApproval_device (x : ApprovalUnit) : (s.setApproval x).device = s.device := rfl
@[simp] theorem setApproval_console (x : ApprovalUnit) : (s.setApproval x).console = s.console := rfl
@[simp] theorem setApproval_lines (x : ApprovalUnit) : (s.setApproval x).lines = s.lines := rfl
@[simp] theorem setApproval_approval (x : ApprovalUnit) : (s.setApproval x).approval = x := rfl
@[simp] theorem setApproval_table (x : ApprovalUnit) : (s.setApproval x).table = s.table := rfl
@[simp] theorem setApproval_checker (x : ApprovalUnit) : (s.setApproval x).checker = s.checker := rfl
@[simp] theorem setApproval_engine (x : ApprovalUnit) : (s.setApproval x).engine = s.engine := rfl
@[simp] theorem setApproval_stations (x : ApprovalUnit) : (s.setApproval x).stations = s.stations := rfl
@[simp] theorem setApproval_events (x : ApprovalUnit) : (s.setApproval x).events = s.events := rfl
@[simp] theorem setApproval_tamper (x : ApprovalUnit) : (s.setApproval x).tamper = s.tamper := rfl
@[simp] theorem setApproval_slot (x : ApprovalUnit) (j : SlotId) : (s.setApproval x).slot j = s.slot j := rfl
@[simp] theorem setApproval_station (x : ApprovalUnit) (tt : StationId) : (s.setApproval x).station tt = s.station tt := rfl
@[simp] theorem setApproval_line (x : ApprovalUnit) (ll : Line) : (s.setApproval x).line ll = s.line ll := rfl
@[simp] theorem setApproval_account (x : ApprovalUnit) (j : SlotId) : (s.setApproval x).account j = s.account j := rfl

/-! ### setEngine -/

@[simp] theorem setEngine_pending (x : Engine) : (s.setEngine x).pending = s.pending := rfl
@[simp] theorem setEngine_powered (x : Engine) : (s.setEngine x).powered = s.powered := rfl
@[simp] theorem setEngine_device (x : Engine) : (s.setEngine x).device = s.device := rfl
@[simp] theorem setEngine_console (x : Engine) : (s.setEngine x).console = s.console := rfl
@[simp] theorem setEngine_lines (x : Engine) : (s.setEngine x).lines = s.lines := rfl
@[simp] theorem setEngine_approval (x : Engine) : (s.setEngine x).approval = s.approval := rfl
@[simp] theorem setEngine_table (x : Engine) : (s.setEngine x).table = s.table := rfl
@[simp] theorem setEngine_checker (x : Engine) : (s.setEngine x).checker = s.checker := rfl
@[simp] theorem setEngine_engine (x : Engine) : (s.setEngine x).engine = x := rfl
@[simp] theorem setEngine_stations (x : Engine) : (s.setEngine x).stations = s.stations := rfl
@[simp] theorem setEngine_events (x : Engine) : (s.setEngine x).events = s.events := rfl
@[simp] theorem setEngine_tamper (x : Engine) : (s.setEngine x).tamper = s.tamper := rfl
@[simp] theorem setEngine_slot (x : Engine) (j : SlotId) : (s.setEngine x).slot j = s.slot j := rfl
@[simp] theorem setEngine_station (x : Engine) (tt : StationId) : (s.setEngine x).station tt = s.station tt := rfl
@[simp] theorem setEngine_line (x : Engine) (ll : Line) : (s.setEngine x).line ll = s.line ll := rfl
@[simp] theorem setEngine_account (x : Engine) (j : SlotId) : (s.setEngine x).account j = s.account j := rfl

/-! ### setChecker -/

@[simp] theorem setChecker_pending (x : IntegrityChecker) : (s.setChecker x).pending = s.pending := rfl
@[simp] theorem setChecker_powered (x : IntegrityChecker) : (s.setChecker x).powered = s.powered := rfl
@[simp] theorem setChecker_device (x : IntegrityChecker) : (s.setChecker x).device = s.device := rfl
@[simp] theorem setChecker_console (x : IntegrityChecker) : (s.setChecker x).console = s.console := rfl
@[simp] theorem setChecker_lines (x : IntegrityChecker) : (s.setChecker x).lines = s.lines := rfl
@[simp] theorem setChecker_approval (x : IntegrityChecker) : (s.setChecker x).approval = s.approval := rfl
@[simp] theorem setChecker_table (x : IntegrityChecker) : (s.setChecker x).table = s.table := rfl
@[simp] theorem setChecker_checker (x : IntegrityChecker) : (s.setChecker x).checker = x := rfl
@[simp] theorem setChecker_engine (x : IntegrityChecker) : (s.setChecker x).engine = s.engine := rfl
@[simp] theorem setChecker_stations (x : IntegrityChecker) : (s.setChecker x).stations = s.stations := rfl
@[simp] theorem setChecker_events (x : IntegrityChecker) : (s.setChecker x).events = s.events := rfl
@[simp] theorem setChecker_tamper (x : IntegrityChecker) : (s.setChecker x).tamper = s.tamper := rfl
@[simp] theorem setChecker_slot (x : IntegrityChecker) (j : SlotId) : (s.setChecker x).slot j = s.slot j := rfl
@[simp] theorem setChecker_station (x : IntegrityChecker) (tt : StationId) : (s.setChecker x).station tt = s.station tt := rfl
@[simp] theorem setChecker_line (x : IntegrityChecker) (ll : Line) : (s.setChecker x).line ll = s.line ll := rfl
@[simp] theorem setChecker_account (x : IntegrityChecker) (j : SlotId) : (s.setChecker x).account j = s.account j := rfl

/-! ### setEvents -/

@[simp] theorem setEvents_pending (x : EventUnit) : (s.setEvents x).pending = s.pending := rfl
@[simp] theorem setEvents_powered (x : EventUnit) : (s.setEvents x).powered = s.powered := rfl
@[simp] theorem setEvents_device (x : EventUnit) : (s.setEvents x).device = s.device := rfl
@[simp] theorem setEvents_console (x : EventUnit) : (s.setEvents x).console = s.console := rfl
@[simp] theorem setEvents_lines (x : EventUnit) : (s.setEvents x).lines = s.lines := rfl
@[simp] theorem setEvents_approval (x : EventUnit) : (s.setEvents x).approval = s.approval := rfl
@[simp] theorem setEvents_table (x : EventUnit) : (s.setEvents x).table = s.table := rfl
@[simp] theorem setEvents_checker (x : EventUnit) : (s.setEvents x).checker = s.checker := rfl
@[simp] theorem setEvents_engine (x : EventUnit) : (s.setEvents x).engine = s.engine := rfl
@[simp] theorem setEvents_stations (x : EventUnit) : (s.setEvents x).stations = s.stations := rfl
@[simp] theorem setEvents_events (x : EventUnit) : (s.setEvents x).events = x := rfl
@[simp] theorem setEvents_tamper (x : EventUnit) : (s.setEvents x).tamper = s.tamper := rfl
@[simp] theorem setEvents_slot (x : EventUnit) (j : SlotId) : (s.setEvents x).slot j = s.slot j := rfl
@[simp] theorem setEvents_station (x : EventUnit) (tt : StationId) : (s.setEvents x).station tt = s.station tt := rfl
@[simp] theorem setEvents_line (x : EventUnit) (ll : Line) : (s.setEvents x).line ll = s.line ll := rfl
@[simp] theorem setEvents_account (x : EventUnit) (j : SlotId) : (s.setEvents x).account j = s.account j := rfl

/-! ### setTamper -/

@[simp] theorem setTamper_pending (x : TamperMonitor) : (s.setTamper x).pending = s.pending := rfl
@[simp] theorem setTamper_powered (x : TamperMonitor) : (s.setTamper x).powered = s.powered := rfl
@[simp] theorem setTamper_device (x : TamperMonitor) : (s.setTamper x).device = s.device := rfl
@[simp] theorem setTamper_console (x : TamperMonitor) : (s.setTamper x).console = s.console := rfl
@[simp] theorem setTamper_lines (x : TamperMonitor) : (s.setTamper x).lines = s.lines := rfl
@[simp] theorem setTamper_approval (x : TamperMonitor) : (s.setTamper x).approval = s.approval := rfl
@[simp] theorem setTamper_table (x : TamperMonitor) : (s.setTamper x).table = s.table := rfl
@[simp] theorem setTamper_checker (x : TamperMonitor) : (s.setTamper x).checker = s.checker := rfl
@[simp] theorem setTamper_engine (x : TamperMonitor) : (s.setTamper x).engine = s.engine := rfl
@[simp] theorem setTamper_stations (x : TamperMonitor) : (s.setTamper x).stations = s.stations := rfl
@[simp] theorem setTamper_events (x : TamperMonitor) : (s.setTamper x).events = s.events := rfl
@[simp] theorem setTamper_tamper (x : TamperMonitor) : (s.setTamper x).tamper = x := rfl
@[simp] theorem setTamper_slot (x : TamperMonitor) (j : SlotId) : (s.setTamper x).slot j = s.slot j := rfl
@[simp] theorem setTamper_station (x : TamperMonitor) (tt : StationId) : (s.setTamper x).station tt = s.station tt := rfl
@[simp] theorem setTamper_line (x : TamperMonitor) (ll : Line) : (s.setTamper x).line ll = s.line ll := rfl
@[simp] theorem setTamper_account (x : TamperMonitor) (j : SlotId) : (s.setTamper x).account j = s.account j := rfl

/-! ### setDevice -/

@[simp] theorem setDevice_pending (x : DeviceState) : (s.setDevice x).pending = s.pending := rfl
@[simp] theorem setDevice_powered (x : DeviceState) : (s.setDevice x).powered = s.powered := rfl
@[simp] theorem setDevice_device (x : DeviceState) : (s.setDevice x).device = x := rfl
@[simp] theorem setDevice_console (x : DeviceState) : (s.setDevice x).console = s.console := rfl
@[simp] theorem setDevice_lines (x : DeviceState) : (s.setDevice x).lines = s.lines := rfl
@[simp] theorem setDevice_approval (x : DeviceState) : (s.setDevice x).approval = s.approval := rfl
@[simp] theorem setDevice_table (x : DeviceState) : (s.setDevice x).table = s.table := rfl
@[simp] theorem setDevice_checker (x : DeviceState) : (s.setDevice x).checker = s.checker := rfl
@[simp] theorem setDevice_engine (x : DeviceState) : (s.setDevice x).engine = s.engine := rfl
@[simp] theorem setDevice_stations (x : DeviceState) : (s.setDevice x).stations = s.stations := rfl
@[simp] theorem setDevice_events (x : DeviceState) : (s.setDevice x).events = s.events := rfl
@[simp] theorem setDevice_tamper (x : DeviceState) : (s.setDevice x).tamper = s.tamper := rfl
@[simp] theorem setDevice_slot (x : DeviceState) (j : SlotId) : (s.setDevice x).slot j = s.slot j := rfl
@[simp] theorem setDevice_station (x : DeviceState) (tt : StationId) : (s.setDevice x).station tt = s.station tt := rfl
@[simp] theorem setDevice_line (x : DeviceState) (ll : Line) : (s.setDevice x).line ll = s.line ll := rfl
@[simp] theorem setDevice_account (x : DeviceState) (j : SlotId) : (s.setDevice x).account j = s.account j := rfl

/-! ### latch -/

@[simp] theorem latch_pending (e : Event) : (s.latch e).pending = s.pending := rfl
@[simp] theorem latch_powered (e : Event) : (s.latch e).powered = s.powered := rfl
@[simp] theorem latch_device (e : Event) : (s.latch e).device = s.device := rfl
@[simp] theorem latch_console (e : Event) : (s.latch e).console = s.console := rfl
@[simp] theorem latch_lines (e : Event) : (s.latch e).lines = s.lines := rfl
@[simp] theorem latch_approval (e : Event) : (s.latch e).approval = s.approval := rfl
@[simp] theorem latch_table (e : Event) : (s.latch e).table = s.table := rfl
@[simp] theorem latch_checker (e : Event) : (s.latch e).checker = s.checker := rfl
@[simp] theorem latch_engine (e : Event) : (s.latch e).engine = s.engine := rfl
@[simp] theorem latch_stations (e : Event) : (s.latch e).stations = s.stations := rfl
@[simp] theorem latch_tamper (e : Event) : (s.latch e).tamper = s.tamper := rfl
@[simp] theorem latch_slot (e : Event) (j : SlotId) : (s.latch e).slot j = s.slot j := rfl
@[simp] theorem latch_station (e : Event) (tt : StationId) : (s.latch e).station tt = s.station tt := rfl
@[simp] theorem latch_line (e : Event) (ll : Line) : (s.latch e).line ll = s.line ll := rfl
@[simp] theorem latch_account (e : Event) (j : SlotId) : (s.latch e).account j = s.account j := rfl

/-! ### Access -/

@[simp] theorem slot_setSlot_self (i : SlotId) (x : Slot) : (s.setSlot i x).slot i = x := by
  exact Vector.getElem_set_self i.isLt

theorem slot_setSlot_of_ne {i j : SlotId} (h : j ≠ i) (x : Slot) : (s.setSlot i x).slot j = s.slot j := by
  have : i.val ≠ j.val := fun e => h (Fin.ext e.symm)
  exact Vector.getElem_set_ne i.isLt _ this

theorem slot_setSlot (i j : SlotId) (x : Slot) : (s.setSlot i x).slot j = if j = i then x else s.slot j := by
  split
  · next h => subst h; simp
  · next h => exact slot_setSlot_of_ne s h x

@[simp] theorem slot_modifySlot_self (i : SlotId) (f : Slot → Slot) : (s.modifySlot i f).slot i = f (s.slot i) := by
  simp [State.modifySlot]

theorem slot_modifySlot (i j : SlotId) (f : Slot → Slot) :
    (s.modifySlot i f).slot j = if j = i then f (s.slot i) else s.slot j := slot_setSlot s i j _

@[simp] theorem station_setStation_self (st : StationId) (x : Station) : (s.setStation st x).station st = x := by
  exact Vector.getElem_set_self st.isLt

theorem station_setStation_of_ne {st tt : StationId} (h : tt ≠ st) (x : Station) :
    (s.setStation st x).station tt = s.station tt := by
  have : st.val ≠ tt.val := fun e => h (Fin.ext e.symm)
  exact Vector.getElem_set_ne st.isLt _ this

theorem station_setStation (st tt : StationId) (x : Station) :
    (s.setStation st x).station tt = if tt = st then x else s.station tt := by
  split
  · next h => subst h; simp
  · next h => exact station_setStation_of_ne s h x

@[simp] theorem station_modifyStation_self (st : StationId) (f : Station → Station) :
    (s.modifyStation st f).station st = f (s.station st) := by
  simp [State.modifyStation]

theorem station_modifyStation (st tt : StationId) (f : Station → Station) :
    (s.modifyStation st f).station tt = if tt = st then f (s.station st) else s.station tt :=
  station_setStation s st tt _

@[simp] theorem line_setLine_self (l : Line) (x : CustodianLine) : (s.setLine l x).line l = x := by
  exact Vector.getElem_set_self l.isLt

theorem line_setLine_of_ne {l m : Line} (h : m ≠ l) (x : CustodianLine) : (s.setLine l x).line m = s.line m := by
  have : l.val ≠ m.val := fun e => h (Fin.ext e.symm)
  exact Vector.getElem_set_ne l.isLt _ this

theorem line_setLine (l m : Line) (x : CustodianLine) : (s.setLine l x).line m = if m = l then x else s.line m := by
  split
  · next h => subst h; simp
  · next h => exact line_setLine_of_ne s h x

@[simp] theorem line_modifyLine_self (l : Line) (f : CustodianLine → CustodianLine) :
    (s.modifyLine l f).line l = f (s.line l) := by
  simp [State.modifyLine]

@[simp] theorem account_eq (i : SlotId) : (s.slot i).account = s.account i := rfl

/-- Two states with equal slots have equal tables. -/
theorem table_ext {t : State} (h : ∀ i, s.slot i = t.slot i) : s.table = t.table := by
  apply Vector.ext
  intro i hi
  exact h ⟨i, hi⟩

/-- Two states with equal stations have equal station vectors. -/
theorem stations_ext {t : State} (h : ∀ i, s.station i = t.station i) : s.stations = t.stations := by
  apply Vector.ext
  intro i hi
  exact h ⟨i, hi⟩

/-- Writing back what a slot holds changes nothing. -/
@[simp] theorem setSlot_slot (i : SlotId) : s.setSlot i (s.slot i) = s := by
  have h : s.table.set i.val (s.table.get i) i.isLt = s.table := Vector.set_getElem_self i.isLt
  simp only [State.setSlot, State.slot, h]

/-- Writing back what a station holds changes nothing. -/
@[simp] theorem setStation_station (st : StationId) : s.setStation st (s.station st) = s := by
  have h : s.stations.set st.val (s.stations.get st) st.isLt = s.stations := Vector.set_getElem_self st.isLt
  simp only [State.setStation, State.station, h]

/-- The second of two writes to one slot stands. -/
@[simp] theorem setSlot_setSlot (i : SlotId) (x y : Slot) : (s.setSlot i x).setSlot i y = s.setSlot i y := by
  simp [State.setSlot]

/-- The second of two writes to one station stands. -/
@[simp] theorem setStation_setStation (st : StationId) (x y : Station) :
    (s.setStation st x).setStation st y = s.setStation st y := by
  simp [State.setStation]

end Sys2Proof.Machine
end

