-- ==== Sys2Proof/Laws/Keeps.lean ====
section
/-!
SUPPORT. What the read-checks, quarantines, lookups, servings of waiting lists, disposals and choices of the engine leave
alone, said once: `Keeps s t`. One lemma for each of these shared operations.
-/
namespace Sys2Proof.Machine

/-- What no read-check, quarantine, disposal or choice of a job changes. -/
structure Keeps (s t : State) : Prop where
  pending : t.pending = s.pending
  powered : t.powered = s.powered
  device : t.device = s.device
  approval : t.approval = s.approval
  checker : t.checker = s.checker
  tamper : t.tamper = s.tamper
  unitAddress : t.console.unitAddress = s.console.unitAddress
  receiver : t.console.receiver = s.console.receiver
  supervision : t.console.supervision = s.console.supervision
  settings : t.console.settings = s.console.settings
  mask : t.events.mask = s.events.mask
  restartIndication : t.events.restartIndication = s.events.restartIndication
  latched : s.events.latched &&& t.events.latched = s.events.latched
  inUse : ∀ i, (t.account i).isSome = (s.account i).isSome
  sending : ∀ l, (t.line l).sending = (s.line l).sending
  lineReceiver : ∀ l, (t.line l).receiver = (s.line l).receiver

namespace Keeps

theorem refl (s : State) : Keeps s s := by constructor <;> simp

theorem trans {s t u : State} (h : Keeps s t) (k : Keeps t u) : Keeps s u where
  pending := k.pending.trans h.pending
  powered := k.powered.trans h.powered
  device := k.device.trans h.device
  approval := k.approval.trans h.approval
  checker := k.checker.trans h.checker
  tamper := k.tamper.trans h.tamper
  unitAddress := k.unitAddress.trans h.unitAddress
  receiver := k.receiver.trans h.receiver
  supervision := k.supervision.trans h.supervision
  settings := k.settings.trans h.settings
  mask := k.mask.trans h.mask
  restartIndication := k.restartIndication.trans h.restartIndication
  latched := by rw [← h.latched, BitVec.and_assoc, k.latched]
  inUse := fun i => (k.inUse i).trans (h.inUse i)
  sending := fun l => (k.sending l).trans (h.sending l)
  lineReceiver := fun l => (k.lineReceiver l).trans (h.lineReceiver l)

/-- A fold of operations that keep keeps. -/
theorem foldl {α : Type} (f : State → α → State) (h : ∀ s a, Keeps s (f s a)) (l : List α) (s : State) :
    Keeps s (l.foldl f s) := by
  induction l generalizing s with
  | nil => exact refl s
  | cons a l ih => exact (h s a).trans (ih _)

theorem setEngine (s : State) (e : Engine) : Keeps s (s.setEngine e) := by constructor <;> simp

theorem setStation (s : State) (st : StationId) (k : Station) : Keeps s (s.setStation st k) := by constructor <;> simp

theorem modifyStation (s : State) (st : StationId) (f : Station → Station) : Keeps s (s.modifyStation st f) :=
  setStation s st _

theorem setSlot (s : State) (i : SlotId) (x : Slot) (h : x.account.isSome = (s.account i).isSome) :
    Keeps s (s.setSlot i x) := by
  refine ⟨rfl, rfl, rfl, rfl, rfl, rfl, rfl, rfl, rfl, rfl, rfl, rfl, by simp, fun j => ?_, fun _ => rfl, fun _ => rfl⟩
  show ((s.setSlot i x).slot j).account.isSome = _
  rw [slot_setSlot]
  split
  · next e => subst e; exact h
  · rfl

theorem modifySlot (s : State) (i : SlotId) (f : Slot → Slot)
    (h : (f (s.slot i)).account.isSome = (s.slot i).account.isSome) : Keeps s (s.modifySlot i f) :=
  setSlot s i _ h

theorem latch (s : State) (e : Event) : Keeps s (s.latch e) := by
  refine ⟨rfl, rfl, rfl, rfl, rfl, rfl, rfl, rfl, rfl, rfl, rfl, rfl, ?_, fun _ => rfl, fun _ => rfl, fun _ => rfl⟩
  show s.events.latched &&& (s.events.latched ||| e.bit) = s.events.latched
  ext i hi
  simp only [BitVec.getElem_and, BitVec.getElem_or]
  cases s.events.latched[i] <;> simp

theorem endVerify (o : VerifyOutcome) (i : SlotId) (s : State) : Keeps s (endVerify o i s) := by
  refine Keeps.trans (t := s.setConsole _) ?_ (latch _ _)
  constructor <;> simp

theorem modifyLast (l : Line) (x : LastOutcome) (s : State) :
    Keeps s (s.modifyLine l fun k => { k with last := x }) := by
  refine ⟨rfl, rfl, rfl, rfl, rfl, rfl, rfl, rfl, rfl, rfl, rfl, rfl, by simp, fun _ => rfl, ?_, ?_⟩ <;> intro m <;>
    (show _ = _; rw [State.modifyLine, line_setLine]; split) <;> first | (next e => subst e; rfl) | rfl

theorem setOutcome (l : Line) (i : SlotId) (o : LineOutcome) (c : Option (BitVec 24)) (s : State) :
    Keeps s (setOutcome l i o c s) := by
  unfold Machine.setOutcome
  split
  · exact modifyLast l _ s
  · exact refl s

theorem cancelLines (m : BitVec 3) (i : SlotId) (s : State) : Keeps s (cancelLines m i s) := by
  refine foldl _ (fun s l => ?_) _ s
  split
  · exact setOutcome ..
  · exact refl s

theorem abandonJobs (p : Job → Bool) (s : State) : Keeps s (abandonJobs p s) := setEngine s _

theorem placeJob (j : Job) (s : State) : Keeps s (placeJob j s) := setEngine s _

theorem stopWork (st : StationId) (s : State) : Keeps s (stopWork st s) :=
  (abandonJobs _ s).trans (modifyStation ..)

theorem hold (c : HoldCondition) (st : StationId) (s : State) : Keeps s (hold c st s) := by
  unfold Machine.hold
  dsimp only
  split
  · exact setStation ..
  · exact (setStation ..).trans (latch ..)

theorem placeClose (c : CloseCode) (st : StationId) (s : State) : Keeps s (placeClose c st s) := modifyStation ..

theorem refuseService (c : HoldCondition) (st : StationId) (s : State) : Keeps s (refuseService c st s) :=
  (placeClose .notServed st s).trans (hold ..)

theorem leaveWaitingList (st : StationId) (s : State) : Keeps s (leaveWaitingList st s) := by
  unfold Machine.leaveWaitingList
  split
  · exact refl s
  · exact modifySlot _ _ _ rfl

theorem latchIf (c : Prop) [Decidable c] (s : State) (e : Event) : Keeps s (if c then s.latch e else s) := by
  split
  · exact latch s e
  · exact refl s

theorem takeNumber (i : SlotId) (st : StationId) (p : Protection) (a : Account) (iss : Issuance) (s : State)
    (h : (s.account i).isSome) : Keeps s (takeNumber i st p a iss s) := by
  have h1 : Keeps s (s.modifySlot i fun sl => sl.write (a.afterTake iss) sl.secret) :=
    modifySlot s i _ (Eq.trans rfl h.symm)
  unfold Machine.takeNumber
  dsimp only
  exact (h1.trans ((latchIf _ _ _).trans (latchIf _ _ _))).trans ((setStation ..).trans (placeJob ..))

theorem disposeNumber (d : Disposal) (i : SlotId) (n : Nat) (s : State) : Keeps s (disposeNumber d i n s) := by
  refine modifySlot _ _ _ ?_
  unfold Slot.dispose
  split
  · rfl
  · next a h =>
    split
    · rfl
    · exact (show (s.account i).isSome = true by rw [show s.account i = some a from h]; rfl).symm

/-! ### Under any quarantine that keeps -/

/-- The quarantine procedure keeps. -/
abbrev Quiet (q : Quarantine) : Prop := ∀ busy i s, Keeps s (q busy i s)

variable {q : Quarantine} (hq : Quiet q)
include hq

theorem readCheck (busy : List SlotId) (i : SlotId) (s : State) : Keeps s (readCheck q busy i s) := by
  unfold Machine.readCheck
  split
  · exact refl s
  · exact hq ..

theorem searchIn (busy : List SlotId) (found : Account → Bool) (l : List SlotId) (s : State) :
    Keeps s (searchIn q busy found l s).1 := by
  induction l generalizing s with
  | nil => exact refl s
  | cons i l ih =>
    unfold Machine.searchIn
    dsimp only
    split
    · exact (readCheck hq ..).trans (ih _)
    · split
      · exact readCheck hq ..
      · exact (readCheck hq ..).trans (ih _)

theorem transportLookup (busy : List SlotId) (b : SlotId) (t : TerminalId) (s : State) :
    Keeps s (transportLookup q busy b t s).1 := searchIn hq ..

theorem serveStation (busy : List SlotId) (i : SlotId) (st : StationId) (s : State) :
    Keeps s (serveStation q busy i st s) := by
  unfold Machine.serveStation
  split
  · split
    · exact refl s
    · dsimp only
      split
      · exact refuseService ..
      · split
        · exact (transportLookup hq ..).trans (refuseService ..)
        · split
          · exact transportLookup hq ..
          · next hb =>
            split
            · exact transportLookup hq ..
            · split
              · exact (transportLookup hq ..).trans (takeNumber _ _ _ _ _ _ (by rw [hb]; rfl))
              · exact transportLookup hq ..
  · exact refl s

theorem serveList (busy : List SlotId) (i : SlotId) (n : Nat) (s : State) : Keeps s (serveList q busy i n s) := by
  induction n generalizing s with
  | zero => exact refl s
  | succ n ih =>
    unfold Machine.serveList
    split
    · exact refl s
    · split
      · exact ((modifySlot s i _ rfl).trans (serveStation hq ..)).trans (ih _)
      · exact refl s

theorem openRoom (busy : List SlotId) (i : SlotId) (full : Bool) (s : State) : Keeps s (openRoom q busy i full s) := by
  unfold Machine.openRoom
  split
  · exact serveList hq ..
  · exact refl s

theorem giveUp (busy : List SlotId) (d : Disposal) (st : StationId) (p : Package) (after : State → State)
    (ha : ∀ s, Keeps s (after s)) (s : State) : Keeps s (giveUp q busy d st p after s) := by
  unfold Machine.giveUp
  dsimp only
  split
  · exact readCheck hq ..
  · exact (readCheck hq ..).trans (((disposeNumber ..).trans (modifyStation ..)).trans ((ha _).trans (openRoom hq ..)))

theorem quarantineUser (busy : List SlotId) (i : SlotId) (st : StationId) (s : State) :
    Keeps s (quarantineUser q busy i st s) := by
  unfold Machine.quarantineUser
  split
  · exact refl s
  · split
    · exact (stopWork ..).trans (giveUp hq _ _ _ _ _ (fun s => (placeClose ..).trans (hold ..)) _)
    · exact refl s

omit hq in
theorem quarantineBound (st : StationId) (s : State) : Keeps s (quarantineBound st s) := by
  unfold Machine.quarantineBound
  dsimp only
  refine Keeps.trans ?_ ((modifyStation ..).trans (hold ..))
  split
  · exact (stopWork ..).trans (modifyStation ..)
  · exact refl s

omit hq in
theorem abandonNaming (i : SlotId) (s : State) : Keeps s (abandonNaming i s) := by
  unfold Machine.abandonNaming
  dsimp only
  split
  · exact (abandonJobs ..).trans (endVerify ..)
  · exact abandonJobs ..

omit hq in
theorem slotQuarantine (i : SlotId) (s : State) : Keeps s (s.modifySlot i Slot.quarantine) := by
  refine modifySlot _ _ _ ?_
  unfold Slot.quarantine
  split
  · rfl
  · next h => rw [h]; rfl

theorem quarantineStep : Quiet (quarantineStep q) := by
  intro busy i s
  unfold Machine.quarantineStep
  split
  · exact refl s
  · split
    · exact refl s
    · dsimp only
      refine Keeps.trans ?_ (foldl _ (fun s st => quarantineUser hq ..) _ _)
      refine Keeps.trans ?_ (foldl _ (fun s st => quarantineBound ..) _ _)
      exact ((slotQuarantine i s).trans (latch ..)).trans ((abandonNaming ..).trans (cancelLines ..))

omit hq in
theorem quarantineAt (n : Nat) : Quiet (quarantineAt n) := by
  induction n with
  | zero => exact fun _ _ s => refl s
  | succ n ih => exact quarantineStep ih

omit hq in
/-- A quarantine keeps. -/
theorem quarantine : Quiet Machine.quarantine := quarantineAt _

omit hq in
/-- A read-check keeps. -/
theorem check (i : SlotId) (s : State) : Keeps s (check i s) := readCheck quarantine ..

omit hq in
/-- A search keeps. -/
theorem search (found : Account → Bool) (s : State) : Keeps s (search found s).1 := searchIn quarantine ..

omit hq in
/-- The giving up of a package keeps what the station's own change of state keeps. -/
theorem surrender (d : Disposal) (st : StationId) (p : Package) (after : State → State) (ha : ∀ s, Keeps s (after s))
    (s : State) : Keeps s (surrender d st p after s) := giveUp quarantine _ _ _ _ _ ha _

omit hq in
theorem inService (j : Job) (c : Copies) (s : State) : Keeps s (inService j c s) := setEngine ..

omit hq in
theorem freeEngine (s : State) : Keeps s (freeEngine s) := setEngine ..

omit hq in
theorem readForService (i : SlotId) (go : State → State) (hg : ∀ s, Keeps s (go s)) (s : State) :
    Keeps s (readForService i go s) := by
  unfold Machine.readForService
  dsimp only
  split
  · exact (check ..).trans (freeEngine ..)
  · exact (check ..).trans (hg _)

omit hq in
theorem startKeyCheck (j : Job) (i : SlotId) (s : State) : Keeps s (startKeyCheck j i s) := by
  unfold Machine.startKeyCheck
  split <;> first | exact inService .. | exact freeEngine ..

omit hq in
theorem startWrapped (j : Job) (t : SlotId) (key : Key) (tag : BitVec 32) (usage : Byte) (s : State) :
    Keeps s (startWrapped j t key tag usage s) := by
  unfold Machine.startWrapped
  split <;> first | exact inService .. | exact freeEngine ..

omit hq in
theorem startPackage (j : Job) (b : SlotId) (t : Option SlotId) (s : State) : Keeps s (startPackage j b t s) := by
  unfold Machine.startPackage
  split
  · split
    · exact inService ..
    · exact readForService _ _ (fun s => startWrapped ..) _
  · exact freeEngine ..

omit hq in
theorem startVerify (j : Job) (i : SlotId) (s : State) : Keeps s (startVerify j i s) := by
  unfold Machine.startVerify
  split
  · exact inService ..
  · exact (freeEngine ..).trans (endVerify ..)

omit hq in
theorem startService (j : Job) (s : State) : Keeps s (startService j s) := by
  cases j with
  | componentCheck => exact inService ..
  | keyCheck => exact (inService ..).trans (readForService _ _ (fun s => startKeyCheck ..) _)
  | package => exact (inService ..).trans (readForService _ _ (fun s => startPackage ..) _)
  | verify => exact (inService ..).trans (readForService _ _ (fun s => startVerify ..) _)

omit hq in
theorem chooseJobs (n : Nat) (s : State) : Keeps s (chooseJobs n s) := by
  induction n generalizing s with
  | zero => exact refl s
  | succ n ih =>
    unfold Machine.chooseJobs
    split
    · exact refl s
    · split
      · exact refl s
      · exact ((setEngine ..).trans (startService ..)).trans (ih _)

omit hq in
/-- The engine's choices at the end of an event keep. -/
theorem settleEngine (s : State) : Keeps s (settleEngine s) := chooseJobs ..

end Keeps

end Sys2Proof.Machine
end

