-- ==== Sys2Proof/Laws/Ops.lean ====
section
/-!
SUPPORT. The shared operations in the ordinary case, said once: a record that passes its read-check is used as it stands, a
settled engine makes no choice, a search of a sound table finds the first match, a served command is answered, a package is
given up.
-/
namespace Sys2Proof.Machine

/-! ## Read-checks and searches -/

theorem readCheck_of_readable {q : Quarantine} {busy : List SlotId} {i : SlotId} {s : State}
    (h : (s.slot i).readable = true) : readCheck q busy i s = s := by
  simp only [Slot.readable, Bool.or_eq_true, beq_iff_eq] at h
  simp [readCheck, h]

/-- A record that passes its read-check is used as it stands (R157). -/
@[simp] theorem check_of_readable {i : SlotId} {s : State} (h : (s.slot i).readable = true) : check i s = s :=
  readCheck_of_readable h

theorem searchIn_of_sound {q : Quarantine} {busy : List SlotId} {found : Account → Bool} {s : State} (h : s.Sound)
    (l : List SlotId) : searchIn q busy found l s = (s, l.find? fun i => (s.account i).any found) := by
  induction l with
  | nil => rfl
  | cons i l ih =>
    simp only [searchIn, readCheck_of_readable (h i), List.find?_cons]
    cases s.account i with
    | none => simpa using ih
    | some a =>
      cases hf : found a with
      | true => simp [hf]
      | false => simpa [hf] using ih

/-- A search of a sound table finds the record of the lowest slot that matches, and changes nothing (R11). -/
theorem search_of_sound {found : Account → Bool} {s : State} (h : s.Sound) :
    search found s = (s, allSlots.find? fun i => (s.account i).any found) := searchIn_of_sound h _

/-! ## The engine's choice -/

/-- Between events a settled engine makes no choice (R103). -/
@[simp] theorem settleEngine_of_settled {s : State} (h : s.engine.Settled) : settleEngine s = s := by
  unfold settleEngine
  cases choiceBound s with
  | zero => rfl
  | succ n =>
    unfold chooseJobs
    rcases h with h | h
    · obtain ⟨v, hv⟩ := Option.isSome_iff_exists.mp h
      simp [hv]
    · split
      · rfl
      · have : s.engine.choose = none := by
          have hf : ∀ l, firstStationJob [] l = none := fun l => by
            induction l with
            | nil => rfl
            | cons a l ih => simpa [firstStationJob, jobOf] using ih
          unfold Engine.choose
          rw [h]
          simp [hf]
        simp [this]

/-! ## Answers -/

/-- A command's answer, with the feed (R182, R186). -/
theorem deliver_eq (kind : Byte) (r : Reply) :
    deliver kind r = answered kind r.code (r.data (feed r.state)) r.state := rfl

/-- A served command is decided by its owning rule (R180 check 4). -/
theorem consoleCommand_of_serves {s : State} (h : s.Serves) (kind : Byte) (p : Payload) (f : State → Reply) :
    consoleCommand kind p (some f) s =
      answered kind (f s).code ((f s).data (feed (f s).state)) (f s).state := by
  simp [consoleCommand, h.1, h.2, admits, deliver_eq]

/-- A request on a line that hears it is decided by its owning rule (R53). -/
theorem custodianRequest_of_hears {s : State} {l : Line} (h : s.Hears l) (kind : Byte)
    (f : State → State × AnswerCode × List Byte) :
    custodianRequest l kind (some f) s = answeredLine l kind (f s).2.1 (f s).2.2 (f s).1 := by
  simp [custodianRequest, h.1, h.2, answerLine, answeredLine, State.modifyLine, answerKind]

/-! ## The giving up of a package -/

/-- A package given up on a record that passes its read-check and has no waiting list: the number is disposed of, the
package dropped, and the station's own change follows (R43). -/
theorem surrender_of_readable {d : Disposal} {st : StationId} {p x : Package} {after : State → State} {s : State}
    (h : (s.slot p.base).readable = true) (hp : (s.station st).package = some x)
    (hw : ((after ((disposeNumber d p.base p.number s).modifyStation st fun k => { k with package := none })).slot
      p.base).waiting = []) :
    surrender d st p after s =
      after ((disposeNumber d p.base p.number s).modifyStation st fun k => { k with package := none }) := by
  simp only [surrender, giveUp, readCheck_of_readable h, hp, openRoom, hw, List.length_nil, serveList, ite_self]

/-- The start-up check leaves a record that passes as it stands. -/
theorem checked_of_readable {sl : Slot} (h : sl.readable = true) : sl.checked = sl := by
  unfold Slot.checked
  split <;> simp [h]

/-- What the start-up check leaves of a record passes its read-check (R160). -/
@[simp] theorem checked_readable (sl : Slot) : sl.checked.readable = true := by
  unfold Slot.checked
  split
  · simp [Slot.readable, Slot.agrees, *]
  · split
    · assumption
    · simp [Slot.readable, Slot.recordState]

/-! ## The record of a disposal -/

theorem dispose_eq {sl : Slot} {d : Disposal} {n : Nat} {a b : Account} (ha : sl.account = some a)
    (hb : a.afterDisposal d n = some b) : sl.dispose d n = sl.write b sl.secret := by
  simp [Slot.dispose, ha, hb]

theorem disposeNumber_eq {d : Disposal} {i : SlotId} {n : Nat} {s : State} {a b : Account} (ha : s.account i = some a)
    (hb : a.afterDisposal d n = some b) : disposeNumber d i n s = s.setSlot i ((s.slot i).write b (s.slot i).secret) := by
  simp [disposeNumber, State.modifySlot, dispose_eq (show (s.slot i).account = some a from ha) hb]

/-! ## The rewriting of a record -/

/-- A record written by `Slot.write` agrees (R154). -/
theorem write_agrees (sl : Slot) (a : Account) (k : Option Key) : (sl.write a k).agrees = true := by
  simp [Slot.write, Slot.agrees, recordWords, closeWords, wordSum]

/-- A rewriting that keeps the sum keeps agreement and disagreement (R163; log entry 32). -/
theorem rewriteKeepingSum_agrees (sl : Slot) (a : Account) (h : sl.account.isSome) :
    (sl.rewriteKeepingSum a).agrees = sl.agrees := by
  obtain ⟨x, hx⟩ := Option.isSome_iff_exists.mp h
  simp [Slot.rewriteKeepingSum, Slot.agrees, wordSum, hx]

/-- Of a record that agrees it makes what `Slot.write` makes. -/
theorem rewriteKeepingSum_of_agrees {sl : Slot} {a : Account} (h : sl.account.isSome) (h' : sl.agrees = true) :
    sl.rewriteKeepingSum a = sl.write a sl.secret := by
  obtain ⟨x, hx⟩ := Option.isSome_iff_exists.mp h
  have : wordSum sl.words = 0xFFFFFFFF := by simpa [Slot.agrees, hx] using h'
  simp [Slot.rewriteKeepingSum, Slot.write, recordWords, closeWords, this]

end Sys2Proof.Machine
end

