-- ==== Sys2Proof/WellFormed.lean ====
section
/-!
DEFINITION. The commands and events that the lines and the environment can deliver. A payload of a length or with codes
that the owning rule refuses is well formed: refusing it is the command's meaning.
-/
namespace Sys2Proof

namespace Machine

/-- A frame's payload has at most 200 bytes (R198). -/
def payloadFits (p : Payload) : Bool := p.length ≤ 200

/-- A KIND that reaches check 1 of R180 and fails it. -/
def unknownKind (kind : Byte) : Bool := !isAnswerKind kind && !consoleKinds.contains kind

/-- A broadcast that R185 discards for its kind or its length. -/
def discardedBroadcast (kind : Byte) (p : Payload) : Bool :=
  !isAnswerKind kind && !((kind == Kind.disarmAll || kind == Kind.abortAll) && p.isEmpty)

end Machine

open Machine in
/-- The term is one that can reach the controller. -/
def Instr.wf : Instr → Bool
  | .status p => payloadFits p
  | .readRecords p => payloadFits p
  | .findLabel p => payloadFits p
  | .findModel p => payloadFits p
  | .create p => payloadFits p
  | .cancelAssembly p => payloadFits p
  | .narrow p => payloadFits p
  | .suspend p => payloadFits p
  | .resume p => payloadFits p
  | .retire p => payloadFits p
  | .release p => payloadFits p
  | .verify p => payloadFits p
  | .openTicket p => payloadFits p
  | .readTickets p => payloadFits p
  | .dismissTicket p => payloadFits p
  | .bind p => payloadFits p
  | .unbind p => payloadFits p
  | .arm p => payloadFits p
  | .disarm p => payloadFits p
  | .abort p => payloadFits p
  | .clearHold p => payloadFits p
  | .readStations p => payloadFits p
  | .readEvents p => payloadFits p
  | .setAlertMask p => payloadFits p
  | .readSettings p => payloadFits p
  | .setSettings p => payloadFits p
  | .ackRestart p => payloadFits p
  | .restart p => payloadFits p
  | .disarmAll p => p.isEmpty
  | .abortAll p => p.isEmpty
  | .unknownCommand kind p => unknownKind kind && payloadFits p
  | .consoleFrameError => true
  | .broadcastDiscard kind p => discardedBroadcast kind p && payloadFits p
  | .consoleAnswerEnd _ _ => true
  | .powerOn _ _ _ => true
  | .powerDown => true
  | .supervisionLapse => true
  | .component _ p => payloadFits p
  | .lineStatus _ p => payloadFits p
  | .ticketQuery _ p => payloadFits p
  | .approve _ p => payloadFits p
  | .decline _ p => payloadFits p
  | .custodianFrameError _ => true
  | .ticketExpiry number => 1 ≤ number && number ≤ 255
  | .componentCheckDone => true
  | .keyCheckDone => true
  | .packageJobDone => true
  | .verifyJobDone => true
  | .discardedJobDone => true
  | .present _ => true
  | .absent _ => true
  | .identity _ p => payloadFits p
  | .receipt _ p => payloadFits p
  | .refuse _ p => payloadFits p
  | .stationFrameError _ => true
  | .identityTimerExpiry _ => true
  | .receiptTimerExpiry _ => true
  | .endOfTransmission _ => true
  | .storageError _ changes => !changes.isEmpty
  | .sweepTimerExpiry => true
  | .startUpCheckCompletion => true
  | .tamperCause _ => true
  | .tamperInputInactive input => input != .temperature
  | .temperatureReading _ => true
  | .custodianAnswerEnd _ => true
  | .stationFrameSent _ => true

end Sys2Proof
end

