-- ==== Sys2Proof/Laws/PerInstr.lean ====
section
/-!
SUPPORT. A statement about every command as syntax: a well-formed command that is a frame is the command that the frame's
line makes of it (R178, R180, R185, R53, R137). One lemma for each constructor.
-/
namespace Sys2Proof.Laws.Delivered
open Sys2Proof.Machine

/-- The line on which a frame comes. -/
inductive Carrier where
  | console
  | broadcast
  | custodian (l : Line)
  | station (st : StationId)
  deriving DecidableEq, Repr

/-- The line, KIND and payload of a command that is a frame; none for an event that is no sound frame. -/
def carried : Instr → Option (Carrier × Byte × Payload)
  | .status p => some (.console, Kind.status, p)
  | .readRecords p => some (.console, Kind.readRecords, p)
  | .findLabel p => some (.console, Kind.findLabel, p)
  | .findModel p => some (.console, Kind.findModel, p)
  | .create p => some (.console, Kind.create, p)
  | .cancelAssembly p => some (.console, Kind.cancelAssembly, p)
  | .narrow p => some (.console, Kind.narrow, p)
  | .suspend p => some (.console, Kind.suspend, p)
  | .resume p => some (.console, Kind.resume, p)
  | .retire p => some (.console, Kind.retire, p)
  | .release p => some (.console, Kind.release, p)
  | .verify p => some (.console, Kind.verify, p)
  | .openTicket p => some (.console, Kind.openTicket, p)
  | .readTickets p => some (.console, Kind.readTickets, p)
  | .dismissTicket p => some (.console, Kind.dismissTicket, p)
  | .bind p => some (.console, Kind.bind, p)
  | .unbind p => some (.console, Kind.unbind, p)
  | .arm p => some (.console, Kind.arm, p)
  | .disarm p => some (.console, Kind.disarm, p)
  | .abort p => some (.console, Kind.abort, p)
  | .clearHold p => some (.console, Kind.clearHold, p)
  | .readStations p => some (.console, Kind.readStations, p)
  | .readEvents p => some (.console, Kind.readEvents, p)
  | .setAlertMask p => some (.console, Kind.setAlertMask, p)
  | .readSettings p => some (.console, Kind.readSettings, p)
  | .setSettings p => some (.console, Kind.setSettings, p)
  | .ackRestart p => some (.console, Kind.ackRestart, p)
  | .restart p => some (.console, Kind.restart, p)
  | .disarmAll p => some (.broadcast, Kind.disarmAll, p)
  | .abortAll p => some (.broadcast, Kind.abortAll, p)
  | .unknownCommand kind p => some (.console, kind, p)
  | .consoleFrameError => none
  | .broadcastDiscard kind p => some (.broadcast, kind, p)
  | .consoleAnswerEnd _ _ => none
  | .powerOn _ _ _ => none
  | .powerDown => none
  | .supervisionLapse => none
  | .component l p => some (.custodian l, Kind.component, p)
  | .lineStatus l p => some (.custodian l, Kind.lineStatus, p)
  | .ticketQuery l p => some (.custodian l, Kind.ticketQuery, p)
  | .approve l p => some (.custodian l, Kind.approve, p)
  | .decline l p => some (.custodian l, Kind.decline, p)
  | .custodianFrameError _ => none
  | .ticketExpiry _ => none
  | .componentCheckDone => none
  | .keyCheckDone => none
  | .packageJobDone => none
  | .verifyJobDone => none
  | .discardedJobDone => none
  | .present _ => none
  | .absent _ => none
  | .identity st p => some (.station st, Kind.identity, p)
  | .receipt st p => some (.station st, Kind.receipt, p)
  | .refuse st p => some (.station st, Kind.refuse, p)
  | .stationFrameError _ => none
  | .identityTimerExpiry _ => none
  | .receiptTimerExpiry _ => none
  | .endOfTransmission _ => none
  | .storageError _ _ => none
  | .sweepTimerExpiry => none
  | .startUpCheckCompletion => none
  | .tamperCause _ => none
  | .tamperInputInactive _ => none
  | .temperatureReading _ => none
  | .custodianAnswerEnd _ => none
  | .stationFrameSent _ => none

/-- What the carrier's line makes of a frame of this KIND and payload. -/
def Carrier.command (c : Carrier) (kind : Byte) (p : Payload) : Instr :=
  match c with
  | .console => addressedCommand kind p
  | .broadcast => broadcastFrame kind p
  | .custodian l => custodianFrame l { address := 0, kind := kind, payload := p }
  | .station st => stationFrame st { address := 0, kind := kind, payload := p }

/-- A well-formed command that is a frame is the command its line makes of that frame. -/
def Statement (i : Instr) : Prop :=
  i.wf = true → ∀ c kind p, carried i = some (c, kind, p) → c.command kind p = i

/-- A command that is no frame. -/
theorem of_none {i : Instr} (h : carried i = none) : Statement i := by
  intro _ c kind p e
  rw [h] at e
  cases e

/-- A command that is a frame. -/
theorem of_some {i : Instr} {c : Carrier} {kind : Byte} {p : Payload} (h : carried i = some (c, kind, p))
    (e : i.wf = true → c.command kind p = i) : Statement i := by
  intro hw c' kind' p' e'
  rw [h] at e'
  cases e'
  exact e hw

theorem status (p : Payload) : Statement (.status p) := of_some rfl fun _ => rfl
theorem readRecords (p : Payload) : Statement (.readRecords p) := of_some rfl fun _ => rfl
theorem findLabel (p : Payload) : Statement (.findLabel p) := of_some rfl fun _ => rfl
theorem findModel (p : Payload) : Statement (.findModel p) := of_some rfl fun _ => rfl
theorem create (p : Payload) : Statement (.create p) := of_some rfl fun _ => rfl
theorem cancelAssembly (p : Payload) : Statement (.cancelAssembly p) := of_some rfl fun _ => rfl
theorem narrow (p : Payload) : Statement (.narrow p) := of_some rfl fun _ => rfl
theorem suspend (p : Payload) : Statement (.suspend p) := of_some rfl fun _ => rfl
theorem resume (p : Payload) : Statement (.resume p) := of_some rfl fun _ => rfl
theorem retire (p : Payload) : Statement (.retire p) := of_some rfl fun _ => rfl
theorem release (p : Payload) : Statement (.release p) := of_some rfl fun _ => rfl
theorem verify (p : Payload) : Statement (.verify p) := of_some rfl fun _ => rfl
theorem openTicket (p : Payload) : Statement (.openTicket p) := of_some rfl fun _ => rfl
theorem readTickets (p : Payload) : Statement (.readTickets p) := of_some rfl fun _ => rfl
theorem dismissTicket (p : Payload) : Statement (.dismissTicket p) := of_some rfl fun _ => rfl
theorem bind (p : Payload) : Statement (.bind p) := of_some rfl fun _ => rfl
theorem unbind (p : Payload) : Statement (.unbind p) := of_some rfl fun _ => rfl
theorem arm (p : Payload) : Statement (.arm p) := of_some rfl fun _ => rfl
theorem disarm (p : Payload) : Statement (.disarm p) := of_some rfl fun _ => rfl
theorem abort (p : Payload) : Statement (.abort p) := of_some rfl fun _ => rfl
theorem clearHold (p : Payload) : Statement (.clearHold p) := of_some rfl fun _ => rfl
theorem readStations (p : Payload) : Statement (.readStations p) := of_some rfl fun _ => rfl
theorem readEvents (p : Payload) : Statement (.readEvents p) := of_some rfl fun _ => rfl
theorem setAlertMask (p : Payload) : Statement (.setAlertMask p) := of_some rfl fun _ => rfl
theorem readSettings (p : Payload) : Statement (.readSettings p) := of_some rfl fun _ => rfl
theorem setSettings (p : Payload) : Statement (.setSettings p) := of_some rfl fun _ => rfl
theorem ackRestart (p : Payload) : Statement (.ackRestart p) := of_some rfl fun _ => rfl
theorem restart (p : Payload) : Statement (.restart p) := of_some rfl fun _ => rfl
theorem disarmAll (p : Payload) : Statement (.disarmAll p) := by
  refine of_some rfl fun h => ?_
  have : p = [] := List.isEmpty_iff.mp h
  subst this
  rfl
theorem abortAll (p : Payload) : Statement (.abortAll p) := by
  refine of_some rfl fun h => ?_
  have : p = [] := List.isEmpty_iff.mp h
  subst this
  rfl
theorem unknownCommand (kind : Byte) (p : Payload) : Statement (.unknownCommand kind p) := by
  refine of_some rfl fun h => ?_
  simp only [Instr.wf, unknownKind, Bool.and_eq_true, Bool.not_eq_true', List.contains_eq_mem, decide_eq_false_iff_not]
    at h
  have hk := h.1.2
  simp only [consoleKinds, List.mem_cons, List.not_mem_nil, or_false, not_or] at hk
  simp [Carrier.command, addressedCommand, hk]
theorem consoleFrameError : Statement .consoleFrameError := of_none rfl
theorem broadcastDiscard (kind : Byte) (p : Payload) : Statement (.broadcastDiscard kind p) := by
  refine of_some rfl fun h => ?_
  simp only [Instr.wf, discardedBroadcast, Bool.and_eq_true, Bool.not_eq_true', Bool.and_eq_false_iff, Bool.or_eq_false_iff,
    beq_eq_false_iff_ne, List.isEmpty_eq_false_iff] at h
  rcases h.1.2 with hk | hp
  · simp [Carrier.command, broadcastFrame, hk]
  · simp [Carrier.command, broadcastFrame, hp]
theorem consoleAnswerEnd (straps : BitVec 4) (senses : BitVec 8) : Statement (.consoleAnswerEnd straps senses) := of_none rfl
theorem powerOn (straps : BitVec 4) (senses : BitVec 8) (celsius : Int) : Statement (.powerOn straps senses celsius) := of_none rfl
theorem powerDown : Statement .powerDown := of_none rfl
theorem supervisionLapse : Statement .supervisionLapse := of_none rfl
theorem component (l : Line) (p : Payload) : Statement (.component l p) := of_some rfl fun _ => rfl
theorem lineStatus (l : Line) (p : Payload) : Statement (.lineStatus l p) := of_some rfl fun _ => rfl
theorem ticketQuery (l : Line) (p : Payload) : Statement (.ticketQuery l p) := of_some rfl fun _ => rfl
theorem approve (l : Line) (p : Payload) : Statement (.approve l p) := of_some rfl fun _ => rfl
theorem decline (l : Line) (p : Payload) : Statement (.decline l p) := of_some rfl fun _ => rfl
theorem custodianFrameError (l : Line) : Statement (.custodianFrameError l) := of_none rfl
theorem ticketExpiry (number : Nat) : Statement (.ticketExpiry number) := of_none rfl
theorem componentCheckDone : Statement .componentCheckDone := of_none rfl
theorem keyCheckDone : Statement .keyCheckDone := of_none rfl
theorem packageJobDone : Statement .packageJobDone := of_none rfl
theorem verifyJobDone : Statement .verifyJobDone := of_none rfl
theorem discardedJobDone : Statement .discardedJobDone := of_none rfl
theorem present (st : StationId) : Statement (.present st) := of_none rfl
theorem absent (st : StationId) : Statement (.absent st) := of_none rfl
theorem identity (st : StationId) (p : Payload) : Statement (.identity st p) := of_some rfl fun _ => rfl
theorem receipt (st : StationId) (p : Payload) : Statement (.receipt st p) := of_some rfl fun _ => rfl
theorem refuse (st : StationId) (p : Payload) : Statement (.refuse st p) := of_some rfl fun _ => rfl
theorem stationFrameError (st : StationId) : Statement (.stationFrameError st) := of_none rfl
theorem identityTimerExpiry (st : StationId) : Statement (.identityTimerExpiry st) := of_none rfl
theorem receiptTimerExpiry (st : StationId) : Statement (.receiptTimerExpiry st) := of_none rfl
theorem endOfTransmission (st : StationId) : Statement (.endOfTransmission st) := of_none rfl
theorem storageError (slot : SlotId) (changes : List (Nat × Word32)) : Statement (.storageError slot changes) := of_none rfl
theorem sweepTimerExpiry : Statement .sweepTimerExpiry := of_none rfl
theorem startUpCheckCompletion : Statement .startUpCheckCompletion := of_none rfl
theorem tamperCause (input : TamperInput) : Statement (.tamperCause input) := of_none rfl
theorem tamperInputInactive (input : TamperInput) : Statement (.tamperInputInactive input) := of_none rfl
theorem temperatureReading (celsius : Int) : Statement (.temperatureReading celsius) := of_none rfl
theorem custodianAnswerEnd (l : Line) : Statement (.custodianAnswerEnd l) := of_none rfl
theorem stationFrameSent (st : StationId) : Statement (.stationFrameSent st) := of_none rfl

end Sys2Proof.Laws.Delivered
end

