-- ==== Sys2Proof/Tests/Slice0.lean ====
section
/-!
SUPPORT. Tests: ill-formed commands refused, the worked examples of the manual, and a witness for the hypotheses of every
statement. Expected values are the manual's.
-/
namespace Sys2Proof.Tests
set_option Elab.async false
open Sys2Proof.Machine

/-! ## Ill-formed commands -/

theorem test_wf_refuses_long_payload : (Instr.status (List.replicate 201 0)).wf = false := by decide +kernel
theorem test_wf_takes_longest_payload : (Instr.status (List.replicate 200 0)).wf = true := by decide +kernel
theorem test_wf_refuses_known_kind : (Instr.unknownCommand 0x01 []).wf = false := by decide +kernel
theorem test_wf_refuses_answer_kind : (Instr.unknownCommand 0x80 []).wf = false := by decide +kernel
theorem test_wf_refuses_sound_broadcast : (Instr.broadcastDiscard 0x3E []).wf = false := by decide +kernel
theorem test_wf_refuses_broadcast_answer : (Instr.broadcastDiscard 0x80 [1]).wf = false := by decide +kernel
theorem test_wf_refuses_disarm_payload : (Instr.disarmAll [0]).wf = false := by decide +kernel
theorem test_wf_refuses_abort_payload : (Instr.abortAll [0]).wf = false := by decide +kernel
theorem test_wf_refuses_ticket_0 : (Instr.ticketExpiry 0).wf = false := by decide +kernel
theorem test_wf_refuses_ticket_256 : (Instr.ticketExpiry 256).wf = false := by decide +kernel
theorem test_wf_refuses_no_change : (Instr.storageError 0 []).wf = false := by decide +kernel
theorem test_wf_refuses_temperature_inactive : (Instr.tamperInputInactive .temperature).wf = false := by decide +kernel

/-! ## Small states -/

/-- OPERATIONAL, every record EMPTY, every station UNBOUND. -/
def idle : State :=
  { State.reset with device := .operational, checker := { sweepPosition := 191, sweepTimer := some 200 } }

/-- A record in use that agrees. -/
def put (i : SlotId) (a : Account) (secret : Option Key) (s : State) : State :=
  s.setSlot i { account := some a, words := recordWords a secret, waiting := [] }

/-- The third row of the first worked case of section 2.10, with the operands of section 5.11. -/
def issuance : Issuance :=
  { issuer := 0x424B303137, tag := 0xC0010007, usage := 0x21, first := 4000, last := 4019, next := 4003, floor := 4000,
    window := [.outstanding, .outstanding, .outstanding], allowance := 3, issued := 3, confirmed := 0, voided := 0 }

def baseRecord (st : RecordState) (iss : Issuance) : Account :=
  { state := st, label := 0x4241534530303031, keyLength := .bytes16, quorum := .two, permissions := 7,
    checkValue := some 0x0A0B0C, assembly := none, part := .base iss }

def transportRecord (st : RecordState) : Account :=
  { baseRecord st issuance with label := 0x5452414E30303031, permissions := 8, part := .transport 0x0102 }

def assembling (m : Assembly) : Account :=
  { baseRecord .assembling { issuance with next := 4000, window := [], issued := 0 } with
    checkValue := none, assembly := some m }

def key : Key := .k16 7

/-- A BASE record in slot 20 and a TRANSPORT record in slot 30. -/
def stocked (st : RecordState) (iss : Issuance) : State :=
  put 30 (transportRecord .active) (some key) (put 20 (baseRecord st iss) (some key) idle)

/-- A station bound to slot 20 with its terminal present. -/
def bound (st : StationState) : Station :=
  { Station.cleared true with state := st, base := some 20, armed := true }

def packageOf (n : Nat) : Package :=
  { base := 20, number := n, ksi := ksiOf 0x424B303137 n, transport := some 30, expected := none }

/-- The state a command or event leaves. -/
def after (c : Instr) (s : State) : Option State :=
  match exec c s with
  | .next t => some t
  | _ => none

/-- The code of the answer on the console line. -/
def answerCode (s : State) : Option AnswerCode :=
  match s.console.receiver with
  | .closed a => some a.code
  | _ => none

/-- The code of the answer to a command. -/
def answerTo (c : Instr) (s : State) : Option AnswerCode := (after c s).bind answerCode

/-! ## Worked examples of the manual -/

/-- Section 5.11: D, D*, KSI and M. -/
theorem test_derivation_block :
    derivationBlock 0x3132333435363738 (tweakOf 0xC0010007 4001 0x21) = 0x31C03201330034073500360F37A13821 ∧
      variantBlock (derivationBlock 0x3132333435363738 (tweakOf 0xC0010007 4001 0x21)) =
        0x31C03201330034073500360F37A138DE := by decide +kernel
theorem test_ksi : ksiOf 0x424B303137 4001 = 0x424B303137000FA1 := by decide +kernel
theorem test_binding_block :
    bindingBlock 0x424B303137000FA1 0x3132333435363738 = 0x424B303137000FA13132333435363738 := by decide +kernel

/-- The table of R100. -/
theorem test_package_operations :
    packageOperations .bytes16 .clear = 2 ∧ packageOperations .bytes16 .wrapped = 3 ∧
      packageOperations .bytes32 .clear = 3 ∧ packageOperations .bytes32 .wrapped = 5 := by decide +kernel

/-- Section 8.7: the integrity word before and after a take, and the total after the storage error. -/
theorem test_integrity_word :
    closeWords [4001, 504, 1] = [4001, 504, 1, 4294962789] ∧ closeWords [4002, 503, 2] = [4002, 503, 2, 4294962788] ∧
      wordSum [4002, 511, 2, 4294962788] = 7 := by decide +kernel

/-- Section 1.13. -/
theorem test_count_delivered :
    countDelivered 40 2 = 2 ∧ countDelivered 40 0 = 1 ∧ countDelivered 40 9 = 3 ∧ countDelivered 190 3 = 2 ∧
      countDelivered 191 1 = 1 := by decide +kernel

/-- Section 2.10, first case: the last three rows. -/
theorem test_settlement_in_place :
    issuance.settle .confirm 4001 =
      { issuance with window := [.outstanding, .confirmed, .outstanding], confirmed := 1 } := by decide +kernel
theorem test_return_and_void :
    ((issuance.settle .confirm 4001).giveBack 4002).settle .void 4000 =
      { issuance with next := 4002, floor := 4002, window := [], allowance := 4, issued := 2, confirmed := 1, voided := 1 } := by
  decide +kernel

/-- Section 2.10, second case: the confirmation of 1,000 moves the floor past the confirmed run. -/
theorem test_floor_moves_past_run :
    let s : Issuance :=
      { issuance with
        first := 1000, last := 1999, next := 1016, floor := 1000, issued := 16, confirmed := 13, allowance := 34
        window := .outstanding :: List.replicate 13 .confirmed ++ [.outstanding, .outstanding] }
    s.settle .confirm 1000 = { s with floor := 1014, window := [.outstanding, .outstanding], confirmed := 14 } := by
  decide +kernel

/-- Section 6.10: ABORT of three stations on one base record. -/
def threeStations : State :=
  let iss : Issuance :=
    { issuance with
      first := 2000, last := 2999, next := 2011, floor := 2007, allowance := 90, issued := 11, confirmed := 7, voided := 1
      window := [.outstanding, .confirmed, .outstanding, .outstanding] }
  let pack (n : Nat) : Package := { packageOf n with base := 24 }
  let at24 (st : StationState) (n : Nat) : Station := { bound st with base := some 24, package := some (pack n) }
  let s := put 24 (baseRecord .active iss) (some key) idle
  ((s.setStation 1 { at24 .awaitingReceipt 2007 with timer := .receipt 900 }).setStation 4 (at24 .preparing 2009)).setStation
      6 (at24 .preparing 2010) |>.setEngine
    { queue := [.package 6 24 2010 0 0 none], lastServed := 4,
      service := some { job := .package 4 24 2009 0 0 none, copies := .nothing, discard := false } }

theorem test_abort_three_stations :
    ((after (.abort [0b01010010]) threeStations).bind fun t => (t.account 24).bind Account.issuance) =
      some
        { issuance with
          first := 2000, last := 2999, next := 2009, floor := 2009, allowance := 92, issued := 9, confirmed := 7,
          voided := 2, window := [] } := by decide +kernel
theorem test_abort_leaves_departing :
    (after (.abort [0b01010010]) threeStations).map (fun t =>
        (t.engine.queue, t.engine.service.map (·.discard), [1, 4, 6].map fun st => (t.station st).state)) =
      some ([], some true, [.departing, .departing, .departing]) := by decide +kernel

/-- Section 5.12: the choices from station 3's completion on. -/
def loaded (last : StationId) (queue : List Job) : Engine := { queue := queue, service := none, lastServed := last }
def jobAt (st : StationId) : Job := .package st 20 0 0 0 none
def checkFor (l : Line) : Job := .componentCheck l 30 key 0

theorem test_custodian_is_chosen_first :
    (loaded 3 [jobAt 1, .verify 9, jobAt 5, checkFor 1, jobAt 2, checkFor 0]).choose =
      some (checkFor 1, loaded 3 [jobAt 1, .verify 9, jobAt 5, jobAt 2, checkFor 0]) := by decide +kernel
theorem test_stations_rotate :
    (loaded 3 [jobAt 1, .verify 9, jobAt 5, jobAt 2, jobAt 4]).choose =
        some (jobAt 4, loaded 4 [jobAt 1, .verify 9, jobAt 5, jobAt 2]) ∧
      (loaded 5 [.verify 9, jobAt 2]).choose = some (jobAt 2, loaded 2 [.verify 9]) ∧
      (loaded 2 [.verify 9]).choose = some (.verify 9, loaded 2 []) := by decide +kernel

/-- Section 1.12: NARROW under live stations. -/
def narrowed : State :=
  let on (m : Mode) (st : StationState) : Station := { bound st with base := some 10, mode := m }
  (((put 10 { baseRecord .active issuance with permissions := 3 } (some key) idle).setStation 2 (on .line .waiting)).setStation
      3 (on .line .awaitingReceipt)).setStation 4 (on .single .identifying) |>.setStation 5
    { on .line .held with armed := false, holds := 2 }

theorem test_narrow_under_stations :
    (after (.narrow [10, 5]) narrowed).map (fun t =>
        ((t.account 10).map (·.permissions), [2, 3, 4, 5].map fun st =>
          ((t.station st).state, (t.station st).armed, (t.station st).disarmAfter))) =
      some (some 1,
        [(.bound, false, false), (.awaitingReceipt, true, true), (.identifying, true, false), (.held, false, false)]) := by
  decide +kernel

/-- Section 10.10: one command under three device states. -/
def tampered : State :=
  { idle with device := .tampered, tamper := { State.reset.tamper with latch := true, cause := 1, enclosureActive := true } }

theorem test_answers_by_device_state :
    answerTo (.readTickets []) State.reset = some .notReady ∧ answerTo (.readTickets []) idle = some .ok ∧
      answerTo (.readTickets []) tampered = some .ok ∧ answerTo (.openTicket [1, 0, 0, 1]) tampered = some .tampered ∧
      answerTo (.openTicket [9, 0, 0, 0]) tampered = some .tampered ∧
      answerTo (.openTicket [5, 0, 0, 0]) tampered = some .badState ∧
      answerTo (.openTicket [5, 0, 0]) tampered = some .badLength := by decide +kernel

/-! ## Witnesses

For each statement with hypotheses, a concrete state and operands that meet them together, clause by clause. -/

/-- A statement about every record of a table is one about every slot that a test can compute. -/
theorem all_accounts {s : State} {P : SlotId → Account → Prop} [∀ i a, Decidable (P i a)]
    (h : ∀ i, ((s.account i).all fun a => decide (P i a)) = true) : ∀ i a, s.account i = some a → P i a := by
  intro i a e
  have := h i
  rw [e] at this
  simpa using this

/-- The same for one slot. -/
theorem all_account {s : State} {i : SlotId} {P : Account → Prop} [∀ a, Decidable (P a)]
    (h : ((s.account i).all fun a => decide (P a)) = true) : ∀ a, s.account i = some a → P a := by
  intro a e
  rw [e] at h
  simpa using h

def dark : State := { idle with powered := false }
def starting : State := State.reset
/-- The controller strapped to 15 has no address of its own. -/
def deaf : State := { idle with console := { idle.console with unitAddress := 15 } }
def ready : State := stocked .active issuance

theorem test_idle_serves : idle.Serves := by exact ⟨by decide +kernel, by decide +kernel⟩
theorem test_ready_serves : ready.Serves := by exact ⟨by decide +kernel, by decide +kernel⟩
theorem test_ready_sound : ready.Sound := by show ∀ i, _; decide +kernel
theorem test_ready_settled : ready.engine.Settled := Or.inr (by decide +kernel)
theorem test_idle_sound : idle.Sound := by show ∀ i, _; decide +kernel
theorem test_idle_settled : idle.engine.Settled := Or.inr rfl
theorem test_idle_hears (l : Line) : idle.Hears l := by exact ⟨rfl, by revert l; decide +kernel⟩
theorem test_ready_hears (l : Line) : ready.Hears l := by exact ⟨rfl, by revert l; decide +kernel⟩
theorem test_starting_hears (l : Line) : starting.Hears l := by exact ⟨rfl, by revert l; decide +kernel⟩
theorem test_idle_not_starting : ∀ k, idle.device ≠ .starting k := by
  intro k h
  cases h

theorem test_witness_QuietMillisecond :
    (dark.pending = [] ∧ dark.powered = false) ∧
      idle.pending = [] ∧ idle.powered = true ∧ ∀ k, idle.device ≠ .starting k :=
  ⟨⟨rfl, rfl⟩, rfl, rfl, test_idle_not_starting⟩

theorem test_witness_ExecKeepsQueue : ∃ t, exec .sweepTimerExpiry { idle with pending := [.powerDown] } = .next t := ⟨_, rfl⟩

theorem test_witness_PowerlessEvents :
    dark.powered = false ∧ (∃ t, exec (.tamperCause .enclosure) dark = .next t) ∧
      (∃ t, exec (.temperatureReading 86) dark = .next t) ∧ ∃ t, exec (.status []) dark = .next t :=
  ⟨rfl, ⟨_, rfl⟩, ⟨_, rfl⟩, _, rfl⟩

theorem test_witness_TamperLatchStays :
    (∀ l p, Instr.powerDown ≠ .approve l p) ∧ (∃ t, exec .powerDown tampered = .next t) ∧ tampered.tamper.latch = true :=
  ⟨fun _ _ h => (nomatch h), ⟨_, rfl⟩, rfl⟩

theorem test_witness_StoredValuesStay :
    (∃ t, exec .powerDown idle = .next t) ∧ (∀ p, Instr.powerDown ≠ .setSettings p) ∧
      (∀ p, Instr.powerDown ≠ .setAlertMask p) ∧ ∀ p, Instr.powerDown ≠ .readEvents p :=
  ⟨⟨_, rfl⟩, fun _ h => (nomatch h), fun _ h => (nomatch h), fun _ h => (nomatch h)⟩

/-- The records of `ready`: a BASE record with three numbers outstanding, a TRANSPORT record, the rest EMPTY. -/
theorem test_witness_StepKeepsRecordsLawful :
    ready.RecordsLawful ∧ ∃ t, step { ready with pending := [.suspend [20]] } = .next t := by
  refine ⟨fun i => ?_, _, rfl⟩
  have h : ∀ i : SlotId, i = 20 ∨ i = 30 ∨ ready.slot i = Slot.empty := by decide +kernel
  rcases h i with rfl | rfl | e
  · have e : ready.slot 20 =
        { account := some (baseRecord .active issuance), words := recordWords (baseRecord .active issuance) (some key),
          waiting := [] } := by decide +kernel
    rw [e]
    simp only [Slot.Lawful, Account.Lawful, Account.assemblyLawful, Account.partLawful, Issuance.Lawful, baseRecord]
    decide +kernel
  · have e : ready.slot 30 =
        { account := some (transportRecord .active), words := recordWords (transportRecord .active) (some key),
          waiting := [] } := by decide +kernel
    rw [e]
    simp only [Slot.Lawful, Account.Lawful, Account.assemblyLawful, Account.partLawful, transportRecord, baseRecord]
    decide +kernel
  · rw [e]
    exact ⟨rfl, rfl⟩

theorem test_witness_StepKeepsEngineSettled : ready.engine.Settled ∧ ∃ t, step ready = .next t :=
  ⟨test_ready_settled, _, rfl⟩

theorem test_witness_FrameFormat :
    (List.replicate 200 (0 : Byte)).length ≤ 200 ∧
      (let l : List Byte := [3, 0x82, 2, 0x40, 0]
       3 ≤ l.length ∧ (l[2]?.getD 0).toNat ≤ 200 ∧ l.length = (l[2]?.getD 0).toNat + 3 ∧ (l ++ [0x95]).sum = 0x5C) ∧
      (let l : List Byte := 3 :: 0x82 :: 200 :: List.replicate 200 0
       3 ≤ l.length ∧ (l[2]?.getD 0).toNat ≤ 200 ∧ l.length = (l[2]?.getD 0).toNat + 3) := by decide +kernel

theorem test_witness_ConsoleFrameBecomesCommand :
    (List.replicate 200 (0 : Byte)).length ≤ 200 ∧ idle.powered = true ∧ idle.console.receiver = .hunting ∧
      consoleFrame idle.console.unitAddress { address := 0, kind := 0x19, payload := [3] } = some (.release [3]) ∧
      consoleFrame idle.console.unitAddress { address := 3, kind := 0x19, payload := [3] } = none := by decide +kernel

theorem test_witness_ConsoleRefusals :
    (idle.takesCommand = true ∧ (0x7F : Byte).toNat < 0x80 ∧ (0x7F : Byte) ∉ consoleKinds) ∧
      (consoleForm (.status []) = some (0x01, []) ∧ deaf.takesCommand = false) ∧
      (consoleForm (.status [0]) = some (0x01, [0]) ∧ idle.takesCommand = true ∧ fitsKind 0x01 [0] = false) ∧
      (consoleForm (.readEvents []) = some (0x04, []) ∧ starting.takesCommand = true ∧ fitsKind 0x04 [] = true ∧
        starting.device = .starting 0) ∧
      consoleForm (.openTicket [1, 0, 0, 1]) = some (0x20, [1, 0, 0, 1]) ∧ tampered.takesCommand = true ∧
        fitsKind 0x20 [1, 0, 0, 1] = true ∧ tampered.device = .tampered ∧
        (0x20 : Byte) ∉ ([0x01, 0x04, 0x21, 0x06, 0x22] : List Byte) ∧
        ¬ ((0x20 : Byte) = 0x20 ∧ [(1 : Byte), 0, 0, 1][0]? = some 5) := by decide +kernel

theorem test_witness_LinkCommands :
    idle.takesCommand = true ∧ (∀ k, idle.device ≠ .starting k) ∧ idle.Serves ∧ [(0 : Byte), 7, 255, 255].length = 4 ∧
      natOfBytes [0, 7, 255, 255] < 2 ^ 19 ∧ ¬ natOfBytes [0, 8, 0, 0] < 2 ^ 19 ∧ idle.device ≠ .tampered :=
  ⟨by decide +kernel, test_idle_not_starting, test_idle_serves, rfl, by decide +kernel, by decide +kernel, by decide +kernel⟩

theorem test_witness_SetSettings :
    [(1 : Byte), 30, 0, 30, 2, 88, 7, 208, 255, 255].length = 10 ∧ (idle.takesCommand = true ∧ idle.device = .operational) ∧
      (starting.takesCommand = true ∧ starting.device = .starting 0) ∧
      (tampered.takesCommand = true ∧ tampered.device = .tampered) ∧ ∃ t, exec .powerDown idle = .next t :=
  ⟨rfl, by decide +kernel, by decide +kernel, by decide +kernel, _, rfl⟩

theorem test_witness_ReadSettings :
    (idle.takesCommand = true ∧ ∀ k, idle.device ≠ .starting k) ∧
      (starting.takesCommand = true ∧ ∃ k, starting.device = .starting k) ∧ ∃ t, exec .powerDown idle = .next t :=
  ⟨⟨by decide +kernel, test_idle_not_starting⟩, ⟨by decide +kernel, 0, rfl⟩, _, rfl⟩

theorem test_witness_DiscardedFrames :
    idle.consoleOpen = true ∧ idle.powered = true ∧ idle.device = .operational ∧ starting.powered = true ∧
      starting.device ≠ .operational ∧ (0x7F : Byte).toNat < 0x80 := by decide +kernel

/-- Stations in three states for the broadcasts, the lapse and the group commands. -/
def crew : State :=
  ((((ready.setStation 0 { bound .waiting with mode := .line }).setStation 7 { bound .departing with mode := .line }).setStation
    3 (bound .held)).setStation 4 { bound .bound with armed := false }).setStation 5 (bound .identifying)

theorem test_crew_serves : crew.Serves := by exact ⟨by decide +kernel, by decide +kernel⟩
theorem test_crew_sound : crew.Sound := by show ∀ i, _; decide +kernel
theorem test_crew_settled : crew.engine.Settled := Or.inr (by decide +kernel)

theorem test_witness_DisarmAllDisarms :
    (starting.consoleOpen = true ∧ starting.device ≠ .operational) ∧ crew.consoleOpen = true ∧ crew.device = .operational ∧
      (crew.station 0).state = .waiting ∧ (crew.station 7).state.hasTerminal = true ∧
      (crew.station 3).state ≠ .waiting ∧ (crew.station 3).state.hasTerminal = false := by decide +kernel

theorem test_witness_SupervisionLapse :
    let s := { crew with console := { crew.console with supervision := .running 1 } }
    s.powered = true ∧ s.console.supervision = .running 1 ∧ (s.station 0).mode = .line ∧ (s.station 0).state = .waiting ∧
      (s.station 7).mode = .line ∧ (s.station 7).state.hasTerminal = true ∧ (s.station 3).mode = .single := by
  decide +kernel

/-- The answer of a command is on its way. -/
def answering (kind : Byte) (s : State) : State := answered kind .ok [] s

theorem test_witness_AnswerEnds :
    (∃ a, (answering 0x01 idle).console.receiver = .closed a ∧ ¬ (a.kind = 0x82 ∧ a.code = .ok)) ∧
      ∃ a, (answering 0x02 idle).console.receiver = .closed a ∧ a.kind = 0x82 ∧ a.code = .ok ∧
        (answering 0x02 idle).powered = true ∧ (answering 0x02 idle).tamper.latch = false ∧
        (answering 0x02 idle).tamper.enclosureActive = false ∧ (answering 0x02 idle).tamper.supplyActive = false ∧
        (answering 0x02 idle).tamper.band ≠ .limit :=
  ⟨⟨_, rfl, by decide +kernel⟩, _, rfl, by decide +kernel, rfl, rfl, rfl, rfl, rfl, by decide +kernel⟩

theorem test_witness_PowerOnAndDown :
    (dark.tamper.latch = false ∧ dark.tamper.enclosureActive = false ∧ (-5 : Int) ≤ -5 ∧ (-5 : Int) ≤ 70 ∧ (70 : Int) ≤ 70) ∧
      tampered.tamper.latch = true ∧ tampered.tamper.enclosureActive = true ∧ (86 : Int) > 85 ∧ (-21 : Int) < -20 ∧
      (ready.account 20).isSome = true := by decide +kernel

theorem test_witness_ReadRecords :
    (ready.Serves ∧ ready.Sound ∧ ready.engine.Settled) ∧ 192 ≤ (192 : Byte).toNat ∧ (191 : Byte).toNat < 192 :=
  ⟨⟨test_ready_serves, test_ready_sound, test_ready_settled⟩, by decide +kernel, by decide +kernel⟩

def label20 : Payload := [0x42, 0x41, 0x53, 0x45, 0x30, 0x30, 0x30, 0x31]
def labelFree : Payload := [0x20, 0x7E, 0x20, 0x20, 0x20, 0x20, 0x20, 0x20]

theorem test_witness_FindsRecords_label :
    (ready.Serves ∧ ready.Sound ∧ ready.engine.Settled) ∧
      ([0x1F, 0x7F, 0, 0, 0, 0, 0, 0] : Payload).all (fun b => 0x20 ≤ b.toNat && b.toNat ≤ 0x7E) = false ∧
      label20.all (fun b => 0x20 ≤ b.toNat && b.toNat ≤ 0x7E) = true ∧
      (∃ a, ready.account 20 = some a ∧ a.label = BitVec.ofNat 64 (natOfBytes label20)) ∧
      (∀ j b, j < 20 → ready.account j = some b → b.label ≠ BitVec.ofNat 64 (natOfBytes label20)) ∧
      labelFree.all (fun b => 0x20 ≤ b.toNat && b.toNat ≤ 0x7E) = true ∧
      ∀ i a, ready.account i = some a → a.label ≠ BitVec.ofNat 64 (natOfBytes labelFree) := by
  refine ⟨⟨test_ready_serves, test_ready_sound, test_ready_settled⟩, by decide +kernel, by decide +kernel,
    ⟨baseRecord .active issuance, by decide +kernel, by decide +kernel⟩, ?_, by decide +kernel, ?_⟩
  · have h := all_accounts (s := ready)
      (P := fun j b => j < 20 → b.label ≠ BitVec.ofNat 64 (natOfBytes label20)) (by decide +kernel)
    exact fun j b l e => h j b e l
  · exact all_accounts (by decide +kernel)

theorem test_witness_FindsRecords_model :
    (∃ a, ready.account 30 = some a ∧ a.state = .active ∧ a.part = .transport ((0x01 : Byte) ++ (0x02 : Byte))) ∧
      (∀ j b, j < 30 → ready.account j = some b →
        ¬ (b.state = .active ∧ b.part = .transport ((0x01 : Byte) ++ (0x02 : Byte)))) ∧
      ∀ i a, ready.account i = some a → ¬ (a.state = .active ∧ a.part = .transport ((0x01 : Byte) ++ (0x03 : Byte))) := by
  refine ⟨⟨transportRecord .active, by decide +kernel, by decide +kernel, by decide +kernel⟩, ?_, ?_⟩
  · have h := all_accounts (s := ready)
      (P := fun j b => j < 30 → ¬ (b.state = .active ∧ b.part = .transport ((0x01 : Byte) ++ (0x02 : Byte))))
      (by decide +kernel)
    exact fun j b l e => h j b e l
  · exact all_accounts (by decide +kernel)

/-- CREATE of a BASE record, 16-byte key, quorum 2, numbers 0 to 16,777,214. -/
def createBase (slot : Byte) : Payload :=
  [slot, 1] ++ labelFree ++ [16, 2, 0x0F] ++ [1, 2, 3, 4, 5] ++ [6, 7, 8, 9] ++ [0xFE] ++ [0, 0, 0] ++ [0xFF, 0xFF, 0xFE]

/-- CREATE of a TRANSPORT record of a model class. -/
def createTransport (slot model : Byte) : Payload := [slot, 2] ++ labelFree ++ [32, 3, 8] ++ [1, model]

theorem test_witness_CreateMakesRecord :
    ∃ c x, createOperands (createBase 191) = some c ∧ c.slot.toNat = (191 : SlotId).val ∧ createPart c = some x ∧
      ready.account 191 = none ∧ (∀ j a, ready.account j = some a → a.label ≠ BitVec.ofNat 64 (natOfBytes c.label)) ∧
      ready.Serves ∧ ready.Sound ∧ ready.engine.Settled :=
  ⟨_, _, rfl, by decide +kernel, rfl, by decide +kernel, all_accounts (by decide +kernel), test_ready_serves, test_ready_sound,
    test_ready_settled⟩

theorem test_witness_CreateMakesRecord_transport :
    ∃ c k q, createOperands (createTransport 0 3) = some c ∧ c.slot.toNat = (0 : SlotId).val ∧
      createPart c = some (k, q, .transport 0x0103) ∧ ready.account 0 = none ∧
      (∀ j a, ready.account j = some a → a.label ≠ BitVec.ofNat 64 (natOfBytes c.label)) ∧
      ∀ j a, ready.account j = some a → a.part = .transport 0x0103 → a.state.holdsModel = false :=
  ⟨_, _, _, rfl, by decide +kernel, rfl, by decide +kernel, all_accounts (by decide +kernel), all_accounts (by decide +kernel)⟩

theorem test_witness_CreateRefuses :
    (∃ c, createOperands (createBase 192) = some c ∧ 192 ≤ c.slot.toNat) ∧
      (∃ c, createOperands (createTransport 0 3 |>.set 10 17) = some c ∧ createPart c = none) ∧
      (∃ c x, createOperands (createBase 20) = some c ∧ createPart c = some x ∧ c.slot.toNat = (20 : SlotId).val ∧
        ∃ a, ready.account 20 = some a) ∧
      (∃ c x, createOperands ([0, 1] ++ label20 ++ (createBase 0).drop 10) = some c ∧ createPart c = some x ∧
        ready.account 0 = none ∧
        ∃ j a, ready.account j = some a ∧ a.label = BitVec.ofNat 64 (natOfBytes c.label)) ∧
      ∃ c x, createOperands (createTransport 0 2) = some c ∧ createPart c = some x ∧ ready.account 0 = none ∧
        (∀ j a, ready.account j = some a → a.label ≠ BitVec.ofNat 64 (natOfBytes c.label)) ∧
        ∃ j a m, x.2.2 = .transport m ∧ ready.account j = some a ∧ a.part = .transport m ∧ a.state.holdsModel = true :=
  ⟨⟨_, rfl, by decide +kernel⟩, ⟨_, rfl, by decide +kernel⟩,
    ⟨_, _, rfl, rfl, by decide +kernel, baseRecord .active issuance, by decide +kernel⟩,
    ⟨_, _, rfl, rfl, by decide +kernel, 20, baseRecord .active issuance, by decide +kernel, by decide +kernel⟩,
    _, _, rfl, rfl, by decide +kernel, all_accounts (by decide +kernel), 30, transportRecord .active, 0x0102, rfl,
    by decide +kernel, rfl, rfl⟩

/-- An assembly of lines A (contributed) and B (reserved) in slot 191. -/
def assembly : Assembly := { contributed := 1, reserved := 2, checks := [(0, 0x010203)] }
def lastFor (o : LineOutcome) (s : State) (l : Line) : State :=
  s.setLine l { s.line l with last := { outcome := o, slot := 191, check := none } }
def building : State := lastFor .pending (lastFor .accepted (put 191 (assembling assembly) (some key) ready) 0) 1

theorem test_building_serves : building.Serves := by exact ⟨by decide +kernel, by decide +kernel⟩
theorem test_building_settled : building.engine.Settled := Or.inr (by decide +kernel)
theorem test_building_hears (l : Line) : building.Hears l := by exact ⟨rfl, by revert l; decide +kernel⟩

theorem test_witness_CancelAssembly :
    (building.Serves ∧ building.engine.Settled) ∧ (building.slot 191).readable = true ∧
      building.account 191 = some (assembling assembly) ∧ (assembling assembly).state = .assembling ∧
      (assembling assembly).assembly = some assembly ∧
      (assembly.contributed ||| assembly.reserved) &&& lineBit 0 = lineBit 0 ∧ (building.line 0).last.slot = 191 ∧
      (building.line 0).last.outcome ≠ .none :=
  ⟨⟨test_building_serves, test_building_settled⟩, by decide +kernel, by decide +kernel, rfl, rfl, by decide +kernel,
    by decide +kernel, by decide +kernel⟩

theorem test_witness_NarrowIntersects :
    (crew.Serves ∧ crew.engine.Settled) ∧ (crew.slot 20).readable = true ∧
      (∃ a, crew.account 20 = some a ∧ a.state = .active ∧ a.has .line = true) ∧ (0xFD : Byte) &&& 2 = 0 ∧
      (crew.station 0).base = some 20 ∧ (crew.station 0).mode = .line ∧ (crew.station 0).state = .waiting ∧
      (crew.station 7).state.hasTerminal = true ∧ (crew.slot 191).readable = true ∧ crew.account 191 = none ∧
      (building.slot 191).readable = true ∧ ∃ a, building.account 191 = some a ∧ a.state = .assembling :=
  ⟨⟨test_crew_serves, test_crew_settled⟩, by decide +kernel, ⟨baseRecord .active issuance, by decide +kernel⟩,
    by decide +kernel, by decide +kernel, by decide +kernel, by decide +kernel, by decide +kernel, by decide +kernel,
    by decide +kernel, by decide +kernel, assembling assembly, by decide +kernel, rfl⟩

def suspended : State := stocked .suspended issuance

theorem test_witness_SuspendAndResume :
    (ready.Serves ∧ ready.engine.Settled) ∧ 192 ≤ (192 : Byte).toNat ∧ (20 : Byte).toNat = (20 : SlotId).val ∧
      (ready.slot 20).readable = true ∧ (∃ a, ready.account 20 = some a ∧ a.state = .active) ∧
      (∀ a, ready.account 20 = some a → a.state ≠ .suspended) ∧ (suspended.slot 20).readable = true ∧
      (∃ a, suspended.account 20 = some a ∧ a.state = .suspended) ∧
      ∀ a, suspended.account 20 = some a → a.state ≠ .active :=
  ⟨⟨test_ready_serves, test_ready_settled⟩, by decide +kernel, by decide +kernel, by decide +kernel,
    ⟨baseRecord .active issuance, by decide +kernel⟩, all_account (by decide +kernel), by decide +kernel,
    ⟨baseRecord .suspended issuance, by decide +kernel⟩, all_account (by decide +kernel)⟩

/-- The base record with every number settled. -/
def settledIssuance : Issuance := { issuance with floor := 4003, window := [], confirmed := 3 }
def quiet : State := stocked .active settledIssuance

theorem test_witness_Retire :
    (quiet.Serves ∧ quiet.engine.Settled) ∧ (quiet.slot 191).readable = true ∧
      (∀ a, quiet.account 191 = some a → a.state = .assembling ∨ a.state = .retired ∨ a.state = .quarantined) ∧
      ((ready.slot 20).readable = true ∧ (∃ a, ready.account 20 = some a ∧ a.state = .active) ∧
        Entry.outstanding ∈ issuance.window) ∧
      (crew.station 0).base = some 20 ∧
      (quiet.slot 20).readable = true ∧ (∃ a, quiet.account 20 = some a ∧ a.part = .base settledIssuance) ∧
      (∀ st, (quiet.station st).base ≠ some 20) ∧ (∀ st, (quiet.station st).package = none) ∧
      Entry.outstanding ∉ settledIssuance.window :=
  ⟨⟨by exact ⟨by decide +kernel, by decide +kernel⟩, Or.inr (by decide +kernel)⟩, by decide +kernel,
    all_account (by decide +kernel),
    ⟨by decide +kernel, ⟨baseRecord .active issuance, by decide +kernel⟩, by decide +kernel⟩, by decide +kernel,
    by decide +kernel, ⟨baseRecord .active settledIssuance, by decide +kernel⟩, by decide +kernel, by decide +kernel,
    by decide +kernel⟩

def ticket (act : Action) (slot : SlotId) (amount : BitVec 16) : Ticket :=
  { number := 255, action := act, slot := slot, amount := amount, approvals := 0, state := .stillOpen 60000 }
def withTickets (l : List Ticket) (s : State) : State := { s with approval := { s.approval with tickets := l } }
def retired : State := put 20 (baseRecord .retired settledIssuance) none idle
def verifying (i : SlotId) (s : State) : State :=
  { s with engine := { s.engine with service := some { job := .verify i, copies := .stored key 0, discard := false } } }

theorem test_witness_Release :
    (ready.slot 20).readable = true ∧ (∀ a, ready.account 20 = some a → a.state ≠ .retired) ∧
      (retired.Serves ∧ retired.engine.Settled) ∧ (retired.slot 20).readable = true ∧
      (∃ a, retired.account 20 = some a ∧ a.state = .retired) ∧ Job.verify 20 ∈ (verifying 20 retired).engine.heldJobs ∧
      (verifying 20 retired).engine.Settled ∧ Job.verify 20 ∉ retired.engine.heldJobs ∧
      (∀ t ∈ retired.approval.tickets, t.isOpen = true → t.slot = 20 → t.action = .clearTamper) ∧
      (withTickets [ticket .grant 20 1] retired).approval.tickets = [ticket .grant 20 1] ∧
      (ticket .grant 20 1).isOpen = true ∧ (ticket .grant 20 1).slot = 20 ∧ (ticket .grant 20 1).action ≠ .clearTamper :=
  ⟨by decide +kernel, all_account (by decide +kernel),
    ⟨by exact ⟨by decide +kernel, by decide +kernel⟩, Or.inr (by decide +kernel)⟩, by decide +kernel,
    ⟨baseRecord .retired settledIssuance, by decide +kernel⟩, by decide +kernel, Or.inl rfl, by decide +kernel,
    by decide +kernel, rfl, rfl, rfl, by decide +kernel⟩

theorem test_witness_VerifyCommand :
    ((verifying 20 ready).Serves ∧ (verifying 20 ready).engine.Settled ∧ ((verifying 20 ready).slot 20).readable = true ∧
        ∃ j, Job.verify j ∈ (verifying 20 ready).engine.heldJobs) ∧
      (∀ j, Job.verify j ∉ ready.engine.heldJobs) ∧ (ready.slot 191).readable = true ∧
      (∀ a, ready.account 191 = some a → a.state = .assembling ∨ a.state = .retired ∨ a.state = .quarantined) ∧
      (ready.slot 20).readable = true ∧ ∃ a, ready.account 20 = some a ∧ a.state = .active :=
  ⟨⟨by exact ⟨by decide +kernel, by decide +kernel⟩, Or.inl rfl, by decide +kernel, 20, by decide +kernel⟩,
    by decide +kernel, by decide +kernel, all_account (by decide +kernel), by decide +kernel,
    baseRecord .active issuance, by decide +kernel⟩

/-- A storage error in a stored word of the base record of three stations. -/
def corrupted : State := threeStations.setSlot 24 { threeStations.slot 24 with words := (threeStations.slot 24).words.set 6 1 }

theorem test_witness_FailedReadCheckQuarantines :
    (∃ a, corrupted.account 24 = some a ∧ a.state ≠ .quarantined) ∧ wordSum (corrupted.slot 24).words ≠ 0xFFFFFFFF ∧
      (∀ j, (corrupted.slot j).waiting = []) ∧ (corrupted.station 4).base = some 24 :=
  ⟨⟨_, rfl, by decide +kernel⟩, by decide +kernel, by decide +kernel, by decide +kernel⟩

/-- TAMPERED with every input inactive again. -/
def recovered : State := { tampered with tamper := { tampered.tamper with enclosureActive := false } }
def fourOpen : List Ticket := [1, 2, 3, 4].map fun n => { ticket .widen 30 8 with number := n }

theorem test_witness_OpenTicket :
    ((0 : Byte) = 0 ∧ 5 < (6 : Byte).toNat) ∧ (ready.Serves ∧ ready.engine.Settled ∧ (ready.slot 20).readable = true) ∧
      ((1 : BitVec 16) = (0 : Byte) ++ (1 : Byte) ∧ (1 : BitVec 16) ≠ 0) ∧
      ((15 : BitVec 16) = (0 : Byte) ++ (15 : Byte) ∧ (15 : BitVec 16) ≠ 0 ∧ (15 : BitVec 16).toNat < 16) ∧
      (∃ a, ready.account 20 = some a ∧ a.part.isBase = true ∧ a.state = .active) ∧ ready.approval.tickets = [] ∧
      ready.approval.counter < 255 ∧ (ready.slot 191).readable = true ∧ ready.account 191 = none ∧
      ((withTickets fourOpen ready).approval.tickets.length = 4 ∧
        (∀ t ∈ (withTickets fourOpen ready).approval.tickets, t.isOpen = true ∧ t.action = .widen ∧ t.slot = 30)) ∧
      (recovered.takesCommand = true ∧ recovered.engine.Settled ∧ recovered.device = .tampered) ∧
      recovered.tamper.enclosureActive = false ∧ recovered.tamper.supplyActive = false ∧ recovered.tamper.band ≠ .limit ∧
      recovered.approval.tickets = [] ∧ recovered.approval.counter < 255 :=
  ⟨by decide +kernel, ⟨test_ready_serves, test_ready_settled, by decide +kernel⟩, by decide +kernel, by decide +kernel,
    ⟨baseRecord .active issuance, by decide +kernel⟩, by decide +kernel, by decide +kernel, by decide +kernel,
    by decide +kernel, by decide +kernel, ⟨by decide +kernel, Or.inr rfl, by decide +kernel⟩, rfl, rfl, by decide +kernel,
    rfl, by decide +kernel⟩

def oneOpen : State := withTickets [ticket .grant 20 0x0105] ready
def oneExpired : State := withTickets [{ ticket .grant 20 0x0105 with state := .expired }] ready
theorem test_oneOpen_hears (l : Line) : oneOpen.Hears l := by exact ⟨rfl, by revert l; decide +kernel⟩
theorem test_oneOpen_not_starting : ∀ k, oneOpen.device ≠ .starting k := by
  intro k h
  cases h

theorem test_witness_TicketsRead :
    (oneOpen.takesCommand = true ∧ ∀ k, oneOpen.device ≠ .starting k) ∧
      (starting.Hears 2 ∧ ∃ k, starting.device = .starting k) ∧ oneOpen.Hears 0 ∧
      (∀ t ∈ oneOpen.approval.tickets, t.number ≠ (1 : Byte).toNat) ∧
      oneOpen.approval.tickets = [] ++ ticket .grant 20 0x0105 :: [] ∧
      (ticket .grant 20 0x0105).number = (255 : Byte).toNat :=
  ⟨⟨by decide +kernel, test_oneOpen_not_starting⟩, ⟨test_starting_hears 2, 0, rfl⟩, test_oneOpen_hears 0, by decide +kernel,
    rfl, by decide +kernel⟩

theorem test_witness_TicketsEnd :
    (∀ x ∈ oneOpen.approval.tickets, x.number ≠ (0 : Byte).toNat) ∧
      oneOpen.approval.tickets = [] ++ ticket .grant 20 0x0105 :: [] ∧
      (∀ x ∈ ([] ++ [] : List Ticket), x.number ≠ (255 : Byte).toNat) ∧
      (ticket .grant 20 0x0105).number = (255 : Byte).toNat ∧ oneOpen.Hears 1 ∧ (∀ k, oneOpen.device ≠ .starting k) ∧
      (ticket .grant 20 0x0105).state = .stillOpen 60000 ∧ oneOpen.powered = true ∧ oneOpen.takesCommand = true ∧
      (ticket .grant 20 0x0105).isOpen = true ∧
      oneExpired.approval.tickets = [] ++ { ticket .grant 20 0x0105 with state := .expired } :: [] ∧
      ({ ticket .grant 20 0x0105 with state := .expired } : Ticket).state = .expired ∧
      ({ ticket .grant 20 0x0105 with state := .executed } : Ticket).state = .executed ∧
      Ticket.isOpen { ticket .grant 20 0x0105 with state := .expired } = false :=
  ⟨by decide +kernel, rfl, by decide +kernel, by decide +kernel, test_oneOpen_hears 1, test_oneOpen_not_starting, rfl, rfl,
    by decide +kernel, rfl, rfl, rfl, rfl, rfl⟩

theorem test_witness_ApproveChecks :
    (starting.Hears 0 ∧ ∃ k, starting.device = .starting k) ∧ (oneOpen.Hears 2 ∧ ∀ k, oneOpen.device ≠ .starting k) ∧
      (∀ t ∈ oneOpen.approval.tickets, t.number ≠ (0 : Byte).toNat) ∧
      oneOpen.approval.tickets = [] ++ ticket .grant 20 0x0105 :: [] ∧
      (ticket .grant 20 0x0105).number = (255 : Byte).toNat ∧
      ({ ticket .grant 20 0x0105 with state := .expired } : Ticket).state = .expired ∧
      ({ ticket .grant 20 0x0105 with state := .failed .declined } : Ticket).state = .failed .declined ∧
      (ticket .grant 20 0x0105).isOpen = true ∧
      ((1 : Byte) = (ticket .grant 20 0x0105).action.code ∧ (20 : Byte).toNat = (ticket .grant 20 0x0105).slot.val ∧
        ((1 : Byte) ++ (5 : Byte) : BitVec 16) = (ticket .grant 20 0x0105).amount) ∧
      (2 : Byte) ≠ (ticket .grant 20 0x0105).action.code ∧ (ticket .grant 20 0x0105).approvals = 0 ∧
      ({ ticket .grant 20 0x0105 with approvals := 4 } : Ticket).approvals &&& lineBit 2 = lineBit 2 :=
  ⟨⟨test_starting_hears 0, 0, rfl⟩, ⟨test_oneOpen_hears 2, test_oneOpen_not_starting⟩, by decide +kernel, rfl,
    by decide +kernel, rfl, rfl, rfl, by decide +kernel, by decide +kernel, rfl, by decide +kernel⟩

def approvedBy (l : Line) (t : Ticket) : Ticket := { t with approvals := lineBit l }

theorem test_witness_SecondApprovalExecutes :
    (let t := approvedBy 0 (ticket .grant 20 0x0105)
     let s := withTickets [t] ready
     (s.Hears 2 ∧ s.engine.Settled ∧ s.approval.tickets = [t]) ∧ t.isOpen = true ∧ t.number = (255 : Byte).toNat ∧
       t.amount = ((1 : Byte) ++ (5 : Byte) : BitVec 16) ∧ lineCount t.approvals = 1 ∧ t.approvals &&& lineBit 2 = 0 ∧
       t.action = .grant ∧ s.device = .operational ∧ (s.slot t.slot).readable = true ∧
       ∃ a, s.account t.slot = some a ∧ a.part = .base issuance ∧ a.state = .active) ∧
    (let t := approvedBy 0 (ticket .widen 30 15)
     let s := withTickets [t] ready
     (s.slot t.slot).readable = true ∧ t.amount = ((0 : Byte) ++ (15 : Byte) : BitVec 16) ∧
       ∃ a, s.account t.slot = some a ∧ a.state = .active) ∧
    (let t := approvedBy 1 (ticket .clearTamper 0 0)
     let s := withTickets [t] recovered
     (s.Hears 2 ∧ s.engine.Settled) ∧ t.action = .clearTamper ∧ t.slot = 0 ∧ s.device = .tampered ∧
       s.tamper.enclosureActive = false ∧ s.tamper.supplyActive = false ∧ s.tamper.band ≠ .limit) ∧
    (let t := approvedBy 0 (ticket .grant 191 1)
     let s := withTickets [t] ready
     (s.slot t.slot).readable = true ∧ ∀ a, s.account t.slot = some a → a.state ≠ .active ∧ a.state ≠ .suspended) := by
  refine ⟨⟨⟨⟨rfl, by decide +kernel⟩, Or.inr rfl, rfl⟩, rfl, by decide +kernel, by decide +kernel, by decide +kernel,
    by decide +kernel, rfl, rfl, by decide +kernel, baseRecord .active issuance, by decide +kernel⟩,
    ⟨by decide +kernel, by decide +kernel, transportRecord .active, by decide +kernel⟩,
    ⟨⟨⟨rfl, by decide +kernel⟩, Or.inr rfl⟩, rfl, rfl, rfl, rfl, rfl, by decide +kernel⟩, by decide +kernel,
    all_account (by decide +kernel)⟩

theorem test_witness_BindAndUnbind :
    (crew.Serves ∧ crew.engine.Settled) ∧ ((0 : Byte) = 0 ∧ (0xFF : Byte) ≠ 0) ∧ (crew.slot 30).readable = true ∧
      (∃ a, crew.account 30 = some a ∧ a.part.isBase = false) ∧ ((0 : Byte) = 0 ∧ Mode.single = .single) ∧
      ((crew.slot 20).readable = true ∧
        ∃ a, crew.account 20 = some a ∧ a.part.isBase = true ∧ a.state = .active ∧ a.has .issue = true ∧
          a.has .line = true) ∧
      (let s := put 20 { baseRecord .active issuance with permissions := 1 } (some key) idle
       (s.slot 20).readable = true ∧ ∃ a, s.account 20 = some a ∧ a.part.isBase = true ∧ a.state = .active ∧
         a.has .line = false) ∧
      (crew.station 1).state = .unbound ∧ (crew.station 4).state = .bound ∧ (crew.station 3).state = .held :=
  ⟨⟨test_crew_serves, test_crew_settled⟩, by decide +kernel, by decide +kernel,
    ⟨transportRecord .active, by decide +kernel⟩, ⟨rfl, rfl⟩,
    ⟨by decide +kernel, baseRecord .active issuance, by decide +kernel⟩,
    ⟨by decide +kernel, _, rfl, by decide +kernel⟩, by decide +kernel, by decide +kernel, by decide +kernel⟩

theorem test_witness_ArmAndDisarm :
    (crew.Serves ∧ crew.engine.Settled ∧ crew.Sound) ∧ (0x80 : Byte) ≠ 0 ∧
      ((crew.station 4).state = .bound ∧ (crew.station 4).base = some 20 ∧ (crew.station 4).mode = .single ∧
        (crew.station 4).present = true ∧ ∃ a, crew.account 20 = some a) ∧
      (crew.station 0).state = .waiting ∧ (crew.station 1).state = .unbound ∧ (crew.station 3).state = .held ∧
      (crew.station 7).state.hasTerminal = true :=
  ⟨⟨test_crew_serves, test_crew_settled, test_crew_sound⟩, by decide +kernel,
    ⟨by decide +kernel, by decide +kernel, by decide +kernel, by decide +kernel, baseRecord .active issuance,
      by decide +kernel⟩, by decide +kernel, by decide +kernel, by decide +kernel, by decide +kernel⟩

theorem test_witness_AbortStopsWork :
    (threeStations.engine.Settled ∧ threeStations.Sound ∧ ∀ i, (threeStations.slot i).waiting = []) ∧
      (threeStations.Serves ∧ (0b01010010 : Byte) ≠ 0) ∧ threeStations.consoleOpen = true ∧
      threeStations.device = .operational ∧ (threeStations.station 4).state.isServing = true ∧
      (threeStations.station 4).package.isSome = true ∧ (threeStations.account 24).isSome = true := by
  refine ⟨⟨Or.inl (by decide +kernel), ?_, by decide +kernel⟩, ⟨⟨by decide +kernel, by decide +kernel⟩, by decide +kernel⟩,
    by decide +kernel, by decide +kernel, by decide +kernel, by decide +kernel, by decide +kernel⟩
  show ∀ i, _
  decide +kernel

/-- Where one aborted station alone names the base record, the disposal of its number is stated. -/
theorem test_witness_AbortStopsWork_single :
    let s := (threeStations.setStation 1 (Station.cleared false)).setStation 4 (Station.cleared false)
    (s.station 6).state.isServing = true ∧ ((s.station 6).package.map (·.base)) = some 24 ∧
      (∀ tt, tt ≠ 6 → (s.station tt).package = none) ∧ (s.account 24).isSome = true := by decide +kernel

theorem test_witness_ClearHold :
    let s := crew.setStation 3 { bound .held with armed := false, holds := 17 }
    s.Serves ∧ (8 : Byte) ≠ 0 ∧ 32 ≤ (32 : Byte).toNat ∧ (31 : Byte) ≠ 0 ∧ (31 : Byte).toNat < 32 ∧
      (8 : Byte).getLsbD 3 = true ∧ (s.station 3).state = .held ∧
      (s.station 3).holds &&& ~~~ ((1 : Byte).setWidth 5) ≠ 0 ∧ (s.station 3).holds &&& ~~~ ((31 : Byte).setWidth 5) = 0 :=
  ⟨⟨by decide +kernel, by decide +kernel⟩, by decide +kernel, by decide +kernel, by decide +kernel, by decide +kernel,
    by decide +kernel, by decide +kernel, by decide +kernel, by decide +kernel⟩

theorem test_witness_ReadStations :
    ready.Serves ∧ (0 : Byte) = 0 ∧ 7 ≤ ((List.finRange 8).filter fun st => (0x7F : Byte).getLsbD st.val).length ∧
      1 ≤ ((List.finRange 8).filter fun st => (0x80 : Byte).getLsbD st.val).length ∧
      ((List.finRange 8).filter fun st => (0x3F : Byte).getLsbD st.val).length ≤ 6 ∧
      (ConsoleAnswer.mk 0 0xB6 0 .ok (List.replicate 198 0)).data.length = 6 * 33 :=
  ⟨test_ready_serves, rfl, by decide +kernel, by decide +kernel, by decide +kernel, by decide +kernel⟩

/-- A COMPONENT payload's 16 component bytes. -/
def component16 : Payload := List.replicate 16 1
def component32 : Payload := List.replicate 32 1

/-- An assembly with room for line C. -/
def roomy : Assembly := { contributed := 1, reserved := 0, checks := [(0, 0x010203)] }
def open191 : State := put 191 (assembling roomy) (some key) ready
theorem test_open191_hears (l : Line) : open191.Hears l := by exact ⟨rfl, by revert l; decide +kernel⟩
theorem test_tampered_hears (l : Line) : tampered.Hears l := by exact ⟨rfl, by revert l; decide +kernel⟩

theorem test_witness_ComponentTaken :
    ([1, 2, 3] : Payload).length = 3 ∧ (∃ k, keyOfBytes component16 = some k ∧ k.length = (assembling roomy).keyLength) ∧
      (∃ k, keyOfBytes component32 = some k ∧ k.length ≠ (assembling roomy).keyLength) ∧
      (starting.Hears 0 ∧ ∃ n, starting.device = .starting n) ∧ (tampered.Hears 0 ∧ tampered.device = .tampered) ∧
      (open191.Hears 2 ∧ open191.engine.Settled ∧ open191.device = .operational) ∧ 192 ≤ (192 : Byte).toNat ∧
      (191 : Byte).toNat = (191 : SlotId).val ∧ (open191.slot 191).readable = true ∧
      (∀ a, open191.account 20 = some a → a.state ≠ .assembling) ∧
      open191.account 191 = some (assembling roomy) ∧ (assembling roomy).assembly = some roomy ∧
      (roomy.contributed ||| roomy.reserved) &&& lineBit 0 = lineBit 0 ∧
      (roomy.contributed ||| roomy.reserved) &&& lineBit 2 ≠ lineBit 2 ∧
      lineCount roomy.contributed + lineCount roomy.reserved < (assembling roomy).quorum.toNat ∧
      (assembling assembly).quorum.toNat ≤ lineCount assembly.contributed + lineCount assembly.reserved ∧
      (∀ j ∈ open191.engine.heldJobs, j.requester ≠ .line 2) ∧
      ∃ j ∈ (loaded 7 [checkFor 2]).heldJobs, j.requester = .line 2 :=
  ⟨rfl, ⟨_, rfl, by decide +kernel⟩, ⟨_, rfl, by decide +kernel⟩, ⟨test_starting_hears 0, 0, rfl⟩,
    ⟨test_tampered_hears 0, rfl⟩, ⟨test_open191_hears 2, Or.inr rfl, rfl⟩, by decide +kernel, by decide +kernel,
    by decide +kernel, all_account (by decide +kernel), by decide +kernel, rfl, by decide +kernel, by decide +kernel,
    by decide +kernel, by decide +kernel, by decide +kernel, checkFor 2, by decide +kernel, rfl⟩

theorem test_witness_LineStatusAnswers :
    (building.Hears 1 ∧ building.engine.Settled ∧ (building.line 1).last.outcome ≠ .accepted ∧
        (building.line 1).last.outcome ≠ .completed) ∧
      ((building.line 0).last.outcome = .accepted ∧ (building.slot 191).readable = true ∧
        building.account 191 = some (assembling assembly) ∧ assembly.checks = [] ++ (0, 0x010203) :: []) ∧
      (let s := building.setLine 2 { building.line 2 with last := { outcome := .completed, slot := 20, check := some 0x0A0B0C } }
       (s.line 2).last.outcome = .completed ∧ (s.line 2).last.check = some 0x0A0B0C ∧ (s.line 2).sending = none) ∧
      (let s := building.setLine 2 { building.line 2 with last := { outcome := .accepted, slot := 20, check := none } }
       (s.line 2).last.outcome = .accepted ∧ (s.slot (s.line 2).last.slot).readable = true ∧
         ∀ a, s.account (s.line 2).last.slot = some a → a.state ≠ .assembling) ∧ building.powered = true :=
  ⟨⟨test_building_hears 1, test_building_settled, by decide +kernel, by decide +kernel⟩,
    ⟨by decide +kernel, by decide +kernel, by decide +kernel, rfl⟩, by decide +kernel,
    ⟨by decide +kernel, by decide +kernel, all_account (by decide +kernel)⟩, rfl⟩

def inEngine (j : Job) (c : Copies) (s : State) : State :=
  { s with engine := { s.engine with service := some { job := j, copies := c, discard := false } } }

theorem test_witness_ComponentCheckCompletes :
    (let s := inEngine (.componentCheck 1 191 key (checkValue key)) .nothing building
     s.powered = true ∧
       s.engine.service =
         some { job := .componentCheck 1 191 key (checkValue key), copies := .nothing, discard := false } ∧
       (s.slot 191).readable = true ∧ (s.line 1).last.slot = 191 ∧ (s.line 1).last.outcome ≠ .none ∧
       s.account 191 = some (assembling assembly) ∧ assembly.reserved &&& lineBit 1 = lineBit 1 ∧
       (s.slot 191).secret = some key ∧ checkValue key = checkValue key) ∧
    checkValue key ≠ checkValue key + 1 ∧
    ∀ a m, ready.account 20 = some a → a.assembly = some m → ¬ (a.state = .assembling ∧ m.reserved &&& lineBit 1 = lineBit 1) :=
  ⟨⟨rfl, rfl, by decide +kernel, by decide +kernel, by decide +kernel, by decide +kernel, by decide +kernel,
      by decide +kernel, rfl⟩, by intro h; simp at h, fun a m h e => by
    have : a = baseRecord .active issuance := by
      have e : ready.account 20 = some (baseRecord .active issuance) := by decide +kernel
      rw [e] at h; exact (Option.some.inj h).symm
    subst this; cases e⟩

theorem test_witness_KeyCheckCompletes :
    let s := inEngine (.keyCheck 1 191) (.accumulator key) building
    s.powered = true ∧ s.engine.service = some { job := .keyCheck 1 191, copies := .accumulator key, discard := false } ∧
      (s.slot 191).readable = true ∧ (s.line 1).last.slot = 191 ∧ (s.line 1).last.outcome ≠ .none ∧
      s.account 191 = some (assembling assembly) ∧ (assembling assembly).state = .assembling ∧
      (retired.account 20 = some (baseRecord .retired settledIssuance)) ∧
      (baseRecord .retired settledIssuance).state ≠ .assembling := by decide +kernel

theorem test_witness_ArbiterChoice :
    ((loaded 3 [jobAt 1, checkFor 1, checkFor 0]).queue = [jobAt 1] ++ checkFor 1 :: [checkFor 0] ∧
        (checkFor 1).isCustodian = true ∧ ∀ x ∈ [jobAt 1], x.isCustodian = false) ∧
      (let e := loaded 7 [.verify 9, jobAt 7, jobAt 0]
       e.queue = [.verify 9, jobAt 7] ++ jobAt 0 :: [] ∧ (∀ x ∈ e.queue, x.isCustodian = false) ∧
         (jobAt 0).requester = .station 0 ∧ (∀ x ∈ [Job.verify 9, jobAt 7], x.requester ≠ .station 0) ∧
         ∀ tt : StationId, (tt.val + 7 - e.lastServed.val) % 8 < ((0 : StationId).val + 7 - e.lastServed.val) % 8 →
           ∀ x ∈ e.queue, x.requester ≠ .station tt) ∧
      (loaded 7 [.verify 9]).queue = [] ++ Job.verify 9 :: [] ∧ ∀ x ∈ (loaded 7 [.verify 9]).queue, x.requester = .console := by
  decide +kernel

def preparing : State :=
  inEngine (.package 3 20 4002 0 0 (some 30)) (.packageKeys key 0 1 (some (key, 0)))
    (ready.setStation 3 { bound .preparing with package := some (packageOf 4002) })

theorem test_witness_PackageJobCompletes :
    preparing.powered = true ∧
      preparing.engine.service =
        some { job := .package 3 20 4002 0 0 (some 30), copies := .packageKeys key 0 1 (some (key, 0)), discard := false } ∧
      (preparing.station 3).state = .preparing ∧ (preparing.station 3).package = some (packageOf 4002) ∧
      (preparing.station 3).transmitter = [] := by decide +kernel

theorem test_witness_DerivedKeysDiffer :
    0 < 2 ^ 24 ∧ 16777214 < 2 ^ 24 ∧ ((0 : Nat) ≠ 16777214 ∨ (0 : BitVec 64) ≠ 0) ∧
      ((0 : Nat) ≠ 0 ∨ (0 : BitVec 64) ≠ 1) := by decide +kernel

theorem test_witness_VerifyAndDiscardComplete :
    (let s := inEngine (.verify 20) (.stored key 0) retired
     s.powered = true ∧ s.engine.service = some { job := .verify 20, copies := .stored key 0, discard := false } ∧
       (s.slot 20).readable = true ∧ s.account 20 = some (baseRecord .retired settledIssuance) ∧
       (baseRecord .retired settledIssuance).state ∉ [RecordState.active, .suspended, .exhausted]) ∧
    (let a := { baseRecord .active issuance with checkValue := some (checkValue key) }
     a.state ∈ [RecordState.active, .suspended, .exhausted] ∧ a.checkValue = some (checkValue key) ∧
       some (checkValue key + 1) ≠ some (checkValue key)) ∧
    threeStations.powered = true ∧
      ({ threeStations.engine with
          service := some { job := .verify 0, copies := .nothing, discard := true } } : Engine).service =
        some { job := .verify 0, copies := .nothing, discard := true } :=
  ⟨by decide +kernel, ⟨by decide +kernel, rfl, by intro h; simp at h⟩, rfl, rfl⟩

def waitingFor (present : Bool) : State := ready.setStation 6 { bound .waiting with present := present }

theorem test_witness_PresentGreets :
    ((waitingFor false).powered = true ∧ ((waitingFor false).station 6).present = false) ∧
      ((waitingFor false).device = .operational ∧ ((waitingFor false).station 6).state = .waiting ∧
        ((waitingFor false).station 6).transmitter = []) ∧
      starting.powered = true ∧ (starting.station 6).present = false ∧ starting.device ≠ .operational := by decide +kernel

/-- A station with the package of the number just taken, in each of the states that hold one. -/
def holding (st : StationState) (n : Nat) : State := ready.setStation 3 { bound st with package := some (packageOf n) }

theorem test_witness_AbsentEndsTerminal :
    ((bound .departing).base ≠ none ∧ (bound .departing).armed = true ∧ (bound .departing).disarmAfter = false) ∧
      (crew.powered = true ∧ (crew.station 7).present = true ∧ crew.device = .operational ∧
        (crew.station 7).state = .departing ∧ (crew.station 3).state = .held ∧ (crew.station 4).state ∈
          [StationState.unbound, .bound, .waiting]) ∧
      (((crew.setStation 2 (bound .stalled)).station 2).state = .stalled ∧
        ((crew.setStation 2 (bound .stalled)).station 2).base = some 20) ∧
      ((holding .preparing 4002).powered = true ∧ ((holding .preparing 4002).station 3).present = true ∧
        ((holding .preparing 4002).station 3).state ∈ [StationState.preparing, .sending, .awaitingReceipt] ∧
        ((holding .preparing 4002).station 3).package = some (packageOf 4002) ∧
        (holding .preparing 4002).account 20 = some (baseRecord .active issuance) ∧
        ((holding .preparing 4002).slot 20).readable = true ∧ ((holding .preparing 4002).slot 20).waiting = []) ∧
      (baseRecord .active issuance).state.isLive = true ∧ issuance.entry? 4002 = some .outstanding ∧
      4002 + 1 = issuance.next ∧ issuance.entry? 4000 = some .outstanding ∧ 4000 + 1 ≠ issuance.next := by decide +kernel

theorem test_witness_FloorAdvances :
    (issuance.window.length = issuance.next - issuance.floor ∧ issuance.floor ≤ issuance.next) ∧
      (let s := { issuance with window := List.replicate 16 .confirmed, next := 4016 }
       s.window.length = s.next - s.floor ∧ s.floor ≤ s.next ∧ s.advance.window = []) ∧
      issuance.window = [] ++ .outstanding :: [.outstanding, .outstanding] ∧
      4000 = issuance.floor + ([] : List Entry).length := by decide +kernel

/-- A station in IDENTIFYING with an idle transmitter. -/
def identifying : State := ready.setStation 3 { bound .identifying with timer := .identity 1500 }
/-- IDENTITY of serial "12345678", model class, capabilities. -/
def identityOf (model capabilities : Byte) : Payload := [0x31, 0x32, 0x33, 0x34, 0x35, 0x36, 0x37, 0x38, 1, model, capabilities]

theorem test_identifying_sound : identifying.Sound := by show ∀ i, _; decide +kernel

theorem test_witness_IdentityServed :
    (identifying.powered = true ∧ identifying.device = .operational ∧ identifying.Sound ∧ identifying.engine.Settled) ∧
      (identityOf 2 1).length = 11 ∧
      ((identifying.station 3).state = .identifying ∧ (identifying.station 3).transmitter = [] ∧
        (identifying.station 3).present = true ∧ (identifying.station 3).base = some 20 ∧
        identifying.account 20 = some (baseRecord .active issuance)) ∧
      -- a model class of 0 is not suited; model class 0x0102 is served wrapped by slot 30
      BitVec.ofNat 16 (natOfBytes (((identityOf 2 1).set 8 0 |>.set 9 0).drop 8 |>.take 2)) = 0 ∧
      BitVec.ofNat 16 (natOfBytes ((identityOf 2 1).drop 8 |>.take 2)) = 0x0102 ∧
      (∃ x, identifying.account 30 = some x ∧ x.state = .active ∧ x.part = .transport 0x0102 ∧ x.has .wrap = true) ∧
      (∀ j x, identifying.account j = some x → j < 30 → ¬ (x.state = .active ∧ x.part = .transport 0x0102)) ∧
      -- no record serves model class 0x0103: clear for a terminal that accepts it, no transport for one that does not
      (∀ j x, identifying.account j = some x → ¬ (x.state = .active ∧ x.part = .transport 0x0103)) ∧
      (baseRecord .active issuance).has .clear = true ∧ ((identityOf 3 1).getD 10 0).getLsbD 0 = true ∧
      ((identityOf 3 2).getD 10 0).getLsbD 0 = false ∧
      -- a number, a stall, no number
      (issuance.next ≤ issuance.last ∧ issuance.allowance ≠ 0 ∧ issuance.next - issuance.floor ≠ 16) ∧
      ({ issuance with next := 4016 } : Issuance).next - issuance.floor = 16 ∧
      ({ issuance with next := 4020 } : Issuance).next > issuance.last := by
  refine ⟨⟨rfl, rfl, test_identifying_sound, Or.inr rfl⟩, rfl, by decide +kernel, by decide +kernel, by decide +kernel,
    ⟨transportRecord .active, by decide +kernel⟩, all_accounts (by decide +kernel), all_accounts (by decide +kernel),
    by decide +kernel, by decide +kernel, by decide +kernel, by decide +kernel, by decide +kernel, by decide +kernel⟩

def awaiting : State :=
  ready.setStation 3
    { bound .awaitingReceipt with
      package := some { packageOf 4001 with expected := some 0x010203 }, timer := .receipt 1 }

theorem test_witness_NumbersSettled :
    (awaiting.powered = true ∧ awaiting.device = .operational ∧ awaiting.engine.Settled) ∧
      ((awaiting.station 3).state = .awaitingReceipt ∧
        (awaiting.station 3).package = some { packageOf 4001 with expected := some 0x010203 } ∧
        (awaiting.station 3).transmitter = [] ∧ (awaiting.station 3).present = true ∧ (awaiting.station 3).holds = 0 ∧
        awaiting.account 20 = some (baseRecord .active issuance) ∧ (awaiting.slot 20).readable = true ∧
        (awaiting.slot 20).waiting = []) ∧
      (baseRecord .active issuance).state.isLive = true ∧ issuance.entry? 4001 = some .outstanding ∧
      (let r : Payload := [0x42, 0x4B, 0x30, 0x31, 0x37, 0x00, 0x0F, 0xA1, 1, 2, 3]
       r.length = 11 ∧ BitVec.ofNat 64 (natOfBytes (r.take 8)) = (packageOf 4001).ksi ∧
         some (BitVec.ofNat 24 (natOfBytes ((r.drop 8).take 3))) = some 0x010203) ∧
      (awaiting.station 3).timer = .receipt 1 :=
  ⟨⟨rfl, rfl, Or.inr rfl⟩, by decide +kernel, rfl, by decide +kernel, by decide +kernel, by decide +kernel⟩

theorem test_witness_StationLineEvents :
    (let k : Station := { bound .sending with transmitter := [.package 0 key 0 .clear, .close .aborted] }
     let s := ready.setStation 3 k
     s.powered = true ∧ (s.station 3).state = .sending ∧
       (s.station 3).transmitter = .package 0 key 0 .clear :: [.close .aborted]) ∧
    (let s := ready.setStation 3 { bound .identifying with transmitter := [.hello], timer := .identity 1 }
     (s.station 3).transmitter = .hello :: []) ∧
    (identifying.station 3).state = .identifying ∧ (identifying.station 3).timer = .identity 1500 ∧
    (identifying.station 3).present = true ∧ (identifying.station 3).transmitter = [] ∧
    (crew.station 0).timer = .stopped ∧ crew.device = .operational ∧ (crew.station 0).state ≠ .identifying ∧
    (crew.station 0).state ≠ .awaitingReceipt := by decide +kernel

theorem test_witness_IntegrityEvents :
    (∃ a, ready.account 20 = some a) ∧
      (idle.powered = true ∧ idle.checker.sweepTimer = some 200 ∧ idle.engine.Settled ∧ ∀ i, idle.account i = none) ∧
      (ready.checker.sweepTimer = some 200 ∧ ready.engine.Settled ∧
        ∀ j b, ready.account j = some b →
          ((20 : SlotId).val + 191 - ready.checker.sweepPosition.val) % 192 ≤
            (j.val + 191 - ready.checker.sweepPosition.val) % 192) ∧
      (let s := { ready with device := .starting 0 }
       s.powered = true ∧ s.device = .starting 0 ∧ s.Sound ∧ s.engine.Settled ∧
         s.account 20 = some (baseRecord .active issuance) ∧ s.account 191 = none ∧
         ∃ a, s.account 30 = some a ∧ a.part.isBase = false) :=
  ⟨⟨baseRecord .active issuance, by decide +kernel⟩, ⟨rfl, rfl, Or.inr rfl, by decide +kernel⟩,
    ⟨by decide +kernel, test_ready_settled, all_accounts (by decide +kernel)⟩, rfl, rfl, test_ready_sound, Or.inr rfl,
    by decide +kernel, by decide +kernel, transportRecord .active, by decide +kernel⟩

def inBand (b : Band) : State := { idle with tamper := { idle.tamper with band := b } }

theorem test_witness_TamperCauseZeroizes :
    idle.powered = true ∧ idle.tamper.enclosureActive = false ∧ idle.tamper.supplyActive = false ∧
      (inBand .warning).tamper.band = .warning := by decide +kernel

/-- The edges of the table of R167. -/
theorem test_witness_TemperatureBand :
    ((inBand .normal).powered = true ∧ (inBand .normal).tamper.band = .normal ∧ (-5 : Int) ≤ -5 ∧ (70 : Int) ≤ 70 ∧
        (71 : Int) > 70 ∧ (-6 : Int) < -5 ∧ (-20 : Int) ≤ -6 ∧ (85 : Int) ≤ 85 ∧ (86 : Int) > 85 ∧ (-21 : Int) < -20) ∧
      ((inBand .warning).tamper.band = .warning ∧ (68 : Int) ≤ 68 ∧ (69 : Int) > 68 ∧ (-4 : Int) < -3) ∧
      (inBand .limit).tamper.band = .limit ∧ (83 : Int) ≤ 83 ∧ (84 : Int) > 83 ∧ (-19 : Int) < -18 := by decide +kernel

/-- R167 at its edges. -/
theorem test_band_after :
    [70, 71, 85, 86, -5, -6, -20, -21].map (Band.normal.after ·) =
        [.normal, .warning, .warning, .limit, .normal, .warning, .warning, .limit] ∧
      [68, 69, 85, 86, -3, -4].map (Band.warning.after ·) = [.normal, .warning, .warning, .limit, .normal, .warning] ∧
      [68, 69, 83, 84, -3, -4, -18, -19].map (Band.limit.after ·) =
        [.normal, .warning, .warning, .limit, .normal, .warning, .warning, .limit] := by decide +kernel

/-! ## Characters (R197), the voiding after the start-up check (R163) -/

/-- The table of R197, in whole microseconds. -/
theorem test_character_times :
    [LineKind.console, .custodian, .station].map (fun k => (k.microseconds characterLength, k.microseconds gapLimit)) =
      [(286, 1145), (1145, 4583), (572, 2291)] := by decide +kernel

/-- 0xA7 has five ones: the parity bit is 1. -/
theorem test_character_bits :
    characterBits 0xA7 = [false, true, true, true, false, false, true, false, true, true, true] := by decide +kernel

/-- A wrong parity bit and a stop bit at the start level are parity errors; a gap is seen once, after 4 characters. -/
theorem test_character_errors :
    characterOfBits ((characterBits 0xA7).set 9 false) = some (.character 0xA7 false) ∧
      characterOfBits ((characterBits 0xA7).set 10 false) = some (.character 0xA7 false) ∧
      itemsOfBits (.idle 0) (List.replicate 44 true) = [] ∧ itemsOfBits (.idle 0) (List.replicate 60 true) = [.gap] := by
  decide +kernel

/-- The console line is driven while an answer is sent. -/
theorem test_console_driven :
    consoleDriven idle = false ∧ (after (.status []) idle).map consoleDriven = some true := by decide +kernel

/-- A BASE record altered after its pass: voided at the completion, and found by its next read-check. -/
def alteredLate : State :=
  { ready.setSlot 20 { ready.slot 20 with words := (ready.slot 20).words.set 6 1 } with device := .starting 192 }

theorem test_altered_record_is_found_after_start_up :
    (after .startUpCheckCompletion alteredLate).map (fun t =>
        ((t.account 20).bind Account.issuance |>.map fun s => (s.floor, s.window, s.voided), (t.slot 20).agrees,
          ((check 20 t).account 20).map (·.state))) =
      some (some (4003, [], 3), false, some .quarantined) := by decide +kernel

/-! ## Witnesses of the further clauses -/

/-- Two slots of `ready` are in use. -/
theorem test_ready_slots : ∀ i : SlotId, i = 20 ∨ i = 30 ∨ ready.account i = none := by decide +kernel
theorem test_ready_base : ready.account 20 = some (baseRecord .active issuance) := by decide +kernel
theorem test_ready_transport : ready.account 30 = some (transportRecord .active) := by decide +kernel

theorem test_witness_StepKeepsRecordsLawful_names :
    ready.NamesDistinct ∧ ∃ t, step { ready with pending := [.resume [20]] } = .next t := by
  refine ⟨fun i j a b d hi hj => ?_, _, rfl⟩
  rcases test_ready_slots i with rfl | rfl | e
  · rcases test_ready_slots j with rfl | rfl | e
    · exact absurd rfl d
    · rw [test_ready_base] at hi; rw [test_ready_transport] at hj; cases hi; cases hj
      exact ⟨by decide +kernel, fun m h => (nomatch h)⟩
    · rw [e] at hj; cases hj
  · rcases test_ready_slots j with rfl | rfl | e
    · rw [test_ready_transport] at hi; rw [test_ready_base] at hj; cases hi; cases hj
      exact ⟨by decide +kernel, fun m _ h => (nomatch h)⟩
    · exact absurd rfl d
    · rw [e] at hj; cases hj
  · rw [e] at hi; cases hi

/-- Station 3 in PREPARING claims 4,000, the one OUTSTANDING number of slot 20. -/
def oneTaken : Issuance := { issuance with next := 4001, window := [.outstanding], issued := 1, allowance := 5 }
def claimant : Station :=
  { bound .preparing with
    package := some (packageOf 4000)
    identity := some { serial := 1, model := 0x0102, acceptsClear := false, supports32 := false } }
def claiming : State := (stocked .active oneTaken).setStation 3 claimant

theorem test_claiming_base : claiming.account 20 = some (baseRecord .active oneTaken) := by decide +kernel
theorem test_claiming_stations : ∀ st : StationId, st = 3 ∨ claiming.station st = Station.cleared false := by decide +kernel
theorem test_claiming_claimant : claiming.station 3 = claimant := by decide +kernel
theorem test_claiming_outstanding {i : SlotId} {n : Nat} (h : claiming.outstandingAt i n) : i = 20 ∧ n = 4000 := by
  obtain ⟨a, iss, ha, hp, he⟩ := h
  have hs : ∀ i : SlotId, i = 20 ∨ claiming.account i = none ∨ claiming.account i = some (transportRecord .active) := by
    decide +kernel
  rcases hs i with rfl | e | e
  · rw [test_claiming_base] at ha
    cases ha
    cases hp
    refine ⟨rfl, ?_⟩
    unfold Issuance.entry? at he
    split at he
    · next hn =>
      obtain ⟨hl, _⟩ := List.getElem?_eq_some_iff.mp he
      have h1 : oneTaken.window.length = 1 := rfl
      have h2 : oneTaken.floor = 4000 := rfl
      omega
    · cases he
  · rw [e] at ha; cases ha
  · rw [e] at ha; cases ha; cases hp

theorem test_claiming_lawful : claiming.StationsLawful := by
  have claims : ∀ {st i n}, (claiming.station st).claims i n → st = 3 := by
    intro st i n h
    rcases test_claiming_stations st with e | e
    · exact e
    · rw [e] at h; obtain ⟨p, hp, _⟩ := h; cases hp
  refine ⟨fun st => ?_, fun st i h => ?_, fun i => ?_, fun st p h => ?_, fun st tt i n h h' => ?_, fun _ _ i n h _ => ?_,
    fun i n a ha hs h => ?_, fun h => absurd ⟨rfl, rfl⟩ h⟩
  · rcases test_claiming_stations st with rfl | e
    · rw [test_claiming_claimant]; simp only [Station.Shaped, claimant, bound, packageOf, Station.cleared]; decide +kernel
    · rw [e]; simp only [Station.Shaped, Station.cleared]; decide +kernel
  · rcases test_claiming_stations st with rfl | e
    · rw [test_claiming_claimant] at h
      cases h
      exact ⟨_, test_claiming_base, rfl, rfl⟩
    · rw [e] at h; cases h
  · have w : ∀ i, (claiming.slot i).waiting = [] := by decide +kernel
    have z : ∀ st, (claiming.station st).state ≠ .stalled := by decide +kernel
    rw [w i]
    exact ⟨List.nodup_nil, fun st => ⟨fun h => (nomatch h), fun h => absurd h.1 (z st)⟩⟩
  · rcases test_claiming_stations st with rfl | e
    · rw [test_claiming_claimant] at h
      cases h
      exact ⟨rfl, _, _, test_claiming_base, rfl, by decide +kernel⟩
    · rw [e] at h; cases h
  · rw [claims h, claims h']
  · obtain ⟨rfl, rfl⟩ := test_claiming_outstanding h
    exact ⟨3, packageOf 4000, by decide +kernel, rfl, rfl⟩
  · obtain ⟨rfl, rfl⟩ := test_claiming_outstanding h
    rw [test_claiming_base] at ha
    cases ha
    simp [baseRecord] at hs

theorem test_witness_ExecKeepsQueue_stations :
    claiming.RecordsLawful ∧ claiming.TamperLawful ∧ claiming.StationsLawful ∧
      ∃ t, step { claiming with pending := [.abort [8]] } = .next t := by
  refine ⟨fun i => ?_, ⟨by decide +kernel, by decide +kernel, by decide +kernel, by decide +kernel, by decide +kernel⟩,
    test_claiming_lawful, _, rfl⟩
  have h : ∀ i : SlotId, i = 20 ∨ claiming.slot i = ready.slot i ∧ i ≠ 20 := by decide +kernel
  rcases h i with rfl | ⟨e, _⟩
  · have e : claiming.slot 20 =
        { account := some (baseRecord .active oneTaken), words := recordWords (baseRecord .active oneTaken) (some key),
          waiting := [] } := by decide +kernel
    rw [e]
    simp only [Slot.Lawful, Account.Lawful, Account.assemblyLawful, Account.partLawful, Issuance.Lawful, baseRecord]
    decide +kernel
  · rw [e]
    exact test_witness_StepKeepsRecordsLawful.1 i

theorem test_witness_TamperLatchStays_lawful :
    tampered.TamperLawful ∧ ∃ t, step { tampered with pending := [.tamperInputInactive .enclosure] } = .next t :=
  ⟨⟨by decide +kernel, by decide +kernel, by decide +kernel, by decide +kernel, by decide +kernel⟩, _, rfl⟩

/-- The approval tables of the witnesses are lawful. -/
theorem test_witness_TicketsEnd_lawful :
    oneOpen.approval.Lawful ∧ ∃ t, step { oneOpen with pending := [.ticketExpiry 255] } = .next t := by
  refine ⟨⟨by decide +kernel, fun t h => ?_, by decide +kernel, by decide +kernel, by decide +kernel, fun n => ?_,
    by decide +kernel⟩, _, rfl⟩
  · cases List.mem_singleton.mp h
    simp only [Ticket.Lawful, ticket]
    decide +kernel
  · exact ⟨fun h => (nomatch h), fun ⟨t, h, _, k⟩ => by cases List.mem_singleton.mp h; cases k⟩

theorem test_witness_DiscardedFrames_requests :
    let s := idle.setLine 1 { idle.line 1 with sending := some { kind := 0xC1, code := .ok, data := [] } }
    idle.powered = true ∧ (List.replicate 19 (0 : Byte)).length ≠ 20 ∧ (List.replicate 19 (0 : Byte)).length ≠ 36 ∧
      [(0 : Byte)].length ≠ 0 ∧ ([] : Payload).length ≠ 1 ∧ (List.replicate 4 (0 : Byte)).length ≠ 5 ∧
      s.powered = true ∧ (s.line 1).sending ≠ none := by decide +kernel

/-- The answer to RESTART ends with the latch set, and with an input active under a clear latch. -/
theorem test_witness_AnswerEnds_tampered :
    (∃ a, (answering 0x02 tampered).console.receiver = .closed a ∧ a.kind = 0x82 ∧ a.code = .ok ∧
        (answering 0x02 tampered).powered = true ∧ (answering 0x02 tampered).tamper.latch = true) ∧
      let s := answering 0x02 { idle with tamper := { idle.tamper with supplyActive := true } }
      ∃ a, s.console.receiver = .closed a ∧ a.kind = 0x82 ∧ a.code = .ok ∧ s.powered = true ∧ s.tamper.latch = false ∧
        s.tamper.supplyActive = true :=
  ⟨⟨_, rfl, by decide +kernel, rfl, rfl, rfl⟩, _, rfl, by decide +kernel, rfl, rfl, rfl, rfl⟩

theorem test_witness_PowerOnAndDown_warning :
    dark.tamper.latch = false ∧ dark.tamper.enclosureActive = false ∧ ((70 : Int) < 71 ∧ (71 : Int) ≤ 85) ∧
      ((70 : Int) < 85 ∧ (85 : Int) ≤ 85) ∧ ((-20 : Int) ≤ -20 ∧ (-20 : Int) < -5) ∧ (-20 : Int) ≤ -6 ∧ (-6 : Int) < -5 := by
  decide +kernel

theorem test_witness_ReadRecords_summaries :
    (ready.slot 191).account = none ∧ (ready.slot 20).account = some (baseRecord .active issuance) ∧
      (baseRecord .active issuance).part = .base issuance ∧
      (ready.slot 30).account = some (transportRecord .active) ∧ (transportRecord .active).part = .transport 0x0102 := by
  decide +kernel

/-- Section 2.10: the window map of three OUTSTANDING entries. -/
theorem test_window_map : issuance.windowMap = [0b01010100, 0, 0, 0] := by decide +kernel

theorem test_witness_CreateMakesRecord_operands :
    (∃ c x, createOperands (createBase 191) = some c ∧ createPart c = some x ∧ c.cls = 1) ∧
      ∃ c x, createOperands (createTransport 0 3) = some c ∧ createPart c = some x ∧ c.cls = 2 :=
  ⟨⟨_, _, rfl, rfl, rfl⟩, _, _, rfl, rfl, rfl⟩

/-- The edges of checks 3 and 4 of R14: last 16,777,215, first above last, usage 0x00, model class 0. -/
theorem test_create_bad_values :
    [createBase 0 |>.set 28 0xFF, (createBase 0).set 23 1 |>.set 26 0, createBase 0 |>.set 22 0,
        (createTransport 0 0).set 13 0].map (fun p => (createOperands p).map fun c => (createPart c).isNone) =
      [some true, some true, some true, some true] ∧
      ((createOperands (createBase 0)).map fun c => (createPart c).isNone) = some false := by decide +kernel

def twoOnSlot : List Ticket := [{ ticket .grant 20 1 with number := 254 }, ticket .widen 20 1]

theorem test_witness_Release_table :
    Job.verify 20 ∉ (withTickets twoOnSlot retired).engine.heldJobs ∧
      ((withTickets twoOnSlot retired).approval.tickets.map (·.number)).Nodup := by decide +kernel

/-- A TRANSPORT record that fails its read-check while the package of station 3 names it and every other record is sound. -/
def transportLost : State := claiming.setSlot 30 { claiming.slot 30 with words := (claiming.slot 30).words.set 6 1 }

theorem test_witness_FailedReadCheckQuarantines_all :
    (transportLost.account 30 = some (transportRecord .active) ∧ (transportRecord .active).state ≠ .quarantined) ∧
      wordSum (transportLost.slot 30).words ≠ 0xFFFFFFFF ∧ (∀ j, (transportLost.slot j).waiting = []) ∧
      (∀ j, j ≠ 30 → (transportLost.slot j).readable = true) ∧ (transportLost.station 3).base ≠ some 30 ∧
      ((transportLost.station 3).package.map (·.transport)) = some (some 30) := by decide +kernel

/-- What the clauses say of it: the number is returned, the station keeps its binding. -/
theorem test_transport_lost :
    let t := check 30 transportLost
    ((t.account 20).bind Account.issuance |>.map fun s => (s.next, s.window)) = some (4000, []) ∧
      (t.station 3).state = .held ∧ (t.station 3).base = some 20 ∧ (t.station 3).transmitter = [.close .aborted] := by
  decide +kernel

theorem test_witness_OpenTicket_checks :
    (ready.Serves ∧ ready.engine.Settled) ∧ (1 ≤ (4 : Byte).toNat ∧ (4 : Byte).toNat ≤ 4 ∧ 192 ≤ (192 : Byte).toNat) ∧
      ((191 : Byte).toNat < 192 ∧ (0 : Byte) = 0 ∧ (1 : Byte) ≠ 0 ∧ 16 ≤ (16 : Byte).toNat) ∧
      tampered.takesCommand = true ∧ tampered.engine.Settled ∧ tampered.device = .tampered ∧
      tampered.tamper.enclosureActive = true :=
  ⟨⟨test_ready_serves, test_ready_settled⟩, by decide +kernel, by decide +kernel, by decide +kernel, Or.inr rfl, rfl, rfl⟩

/-- Four tickets, the first finished; the counter at 255. After 255 comes 1, which ticket 1 bears, then 2. -/
def fullTable : State :=
  { ready with
    approval :=
      { tickets := { ticket .widen 30 8 with number := 9, state := .executed, approvals := 3 } ::
          [1, 3, 4].map fun n => { ticket .widen 30 8 with number := n }
        finished := [9], counter := 255 } }

theorem test_witness_OpenTicket_replaces :
    (fullTable.Serves ∧ fullTable.engine.Settled ∧ (fullTable.slot 20).readable = true) ∧
      (∃ a, fullTable.account 20 = some a ∧ a.part.isBase = true ∧ a.state = .active) ∧
      (∀ t ∈ fullTable.approval.tickets, ¬ (t.isOpen = true ∧ t.action = .grant ∧ t.slot = 20)) ∧
      fullTable.approval.counter ≤ 255 ∧ 4 ≤ fullTable.approval.tickets.length ∧
      (∃ t ∈ fullTable.approval.tickets, t.isOpen = false) ∧ fullTable.approval.finished = 9 :: [] ∧
      (let left := fullTable.approval.tickets.filter fun t => t.number ≠ 9
       (∃ t ∈ left, t.number = (255 + 0) % 255 + 1) ∧ ∀ t ∈ left, t.number ≠ (255 + 1) % 255 + 1) := by
  refine ⟨⟨⟨by decide +kernel, by decide +kernel⟩, Or.inr rfl, by decide +kernel⟩,
    ⟨baseRecord .active issuance, by decide +kernel, rfl, rfl⟩, ?_⟩
  decide +kernel

theorem test_open_ticket_number :
    (after (.openTicket [1, 20, 0, 1]) fullTable).map (fun t => (t.approval.tickets.map (·.number), t.approval.counter)) =
      some ([1, 3, 4, 2], 2) := by decide +kernel

/-- A ticket approved once on line A, alone in the table of a state. -/
def executing (t : Ticket) (s : State) : State := withTickets [approvedBy 0 t] s

theorem test_witness_SecondApprovalExecutes_retires :
    (let s := executing (ticket .releaseQuarantined 20 0) (stocked .quarantined issuance)
     (s.Hears 2 ∧ s.engine.Settled ∧ s.device = .operational) ∧
       s.approval.tickets = [] ++ approvedBy 0 (ticket .releaseQuarantined 20 0) :: [] ∧
       (s.approval.tickets.map (·.number)).Nodup ∧ s.account 20 = some (baseRecord .quarantined issuance) ∧
       (s.slot 20).readable = true) ∧
    (let s := executing (ticket .forceRetire 20 0) claiming
     (s.Hears 2 ∧ s.engine.Settled) ∧ s.account 20 = some (baseRecord .active oneTaken) ∧ (s.slot 20).readable = true ∧
       (s.station 3).base = some 20 ∧ (s.station 3).state.isServing = true) ∧
    (let s := executing (ticket .forceRetire 30 0) claiming
     s.account 30 = some (transportRecord .active) ∧ (transportRecord .active).part = .transport 0x0102 ∧ s.Sound ∧
       (∀ i, (s.slot i).waiting = []) ∧ ((s.station 3).package.map (·.transport)) = some (some 30) ∧
       (s.station 3).state.isServing = true) := by
  refine ⟨⟨⟨⟨rfl, by decide +kernel⟩, Or.inr rfl, rfl⟩, rfl, by decide +kernel, by decide +kernel, by decide +kernel⟩,
    ⟨⟨⟨rfl, by decide +kernel⟩, Or.inr rfl⟩, by decide +kernel, by decide +kernel, by decide +kernel, by decide +kernel⟩,
    by decide +kernel, rfl, ?_, by decide +kernel, by decide +kernel, by decide +kernel⟩
  show ∀ i, _
  decide +kernel

/-- What the executions leave of records, numbers and stations. -/
theorem test_release_execution :
    ((after (.approve 2 [255, 4, 20, 0, 0])
        (executing (ticket .releaseQuarantined 20 0) (stocked .quarantined issuance))).map fun t => t.account 20) =
      some none := by decide +kernel

def numbersOf (i : SlotId) (s : State) : Option (Nat × List Entry × Nat) :=
  ((s.account i).bind Account.issuance).map fun s => (s.floor, s.window, s.voided)

theorem test_force_retire_base :
    (after (.approve 2 [255, 3, 20, 0, 0]) (executing (ticket .forceRetire 20 0) claiming)).map (fun t =>
        ((t.account 20).map (·.state), (t.station 3).state, (numbersOf 20 t).getD (0, [], 0))) =
      some (some .retired, .departing, 4001, [], 1) := by decide +kernel

theorem test_force_retire_transport :
    (after (.approve 2 [255, 3, 30, 0, 0]) (executing (ticket .forceRetire 30 0) claiming)).map (fun t =>
        ((t.account 30).map (·.state), (t.station 3).state, (numbersOf 20 t).getD (0, [], 0))) =
      some (some .retired, .departing, 4001, [], 1) := by decide +kernel

theorem test_witness_ArbiterChoice_settles :
    (let s := inEngine (.verify 20) .nothing ready
     s.engine.service.isSome = true) ∧
    (let s := { ready with engine := loaded 7 [checkFor 1] }
     s.engine.service = none ∧ s.engine.choose = some (checkFor 1, loaded 7 []) ∧
       (startService (checkFor 1) { s with engine := loaded 7 [] }).engine.service.isSome = true ∧
       ∀ i, (s.slot i).waiting = []) := by decide +kernel

theorem test_witness_ArbiterChoice_starts :
    (wordSum (alteredLate.slot 20).words ≠ 0xFFFFFFFF ∧
        ∃ a, alteredLate.account 20 = some a ∧ a.state ≠ .quarantined) ∧
      ((building.slot 191).readable = true ∧ (building.slot 191).secret = some key) ∧
      ((ready.slot 20).readable = true ∧ ready.account 20 = some (baseRecord .active issuance) ∧
        (ready.slot 20).secret = some key ∧ (baseRecord .active issuance).checkValue = some 0x0A0B0C) ∧
      ((retired.slot 20).readable = true ∧
        ∀ a, retired.account 20 = some a → a.state ∉ [RecordState.active, .suspended, .exhausted]) ∧
      ((ready.slot 30).readable = true ∧ ready.account 30 = some (transportRecord .active) ∧
        (ready.slot 30).secret = some key ∧ (transportRecord .active).checkValue = some 0x0A0B0C) ∧
      (wordSum (transportLost.slot 30).words ≠ 0xFFFFFFFF ∧ (transportLost.slot 20).readable = true ∧
        transportLost.account 30 = some (transportRecord .active)) :=
  ⟨⟨by decide +kernel, _, by rfl, by decide +kernel⟩, by decide +kernel, by decide +kernel,
    ⟨by decide +kernel, all_account (by decide +kernel)⟩, by decide +kernel, by decide +kernel⟩

/-- D and D* of section 5.11 have the bytes of serial and tweak. -/
theorem test_witness_PackageJobCompletes_blocks :
    let d : Block := 0x31C03201330034073500360F37A13821
    let d' : Block := 0x31C03201330034073500360F37A138DE
    let serial : BitVec 64 := 0x3132333435363738
    let tweak : BitVec 64 := (0xC0010007 : BitVec 32) ++ BitVec.ofNat 24 4001 ++ (0x21 : Byte)
    (∀ i, i < 8 →
        d.extractLsb' (120 - 16 * i) 8 = serial.extractLsb' (56 - 8 * i) 8 ∧
          d.extractLsb' (112 - 16 * i) 8 = tweak.extractLsb' (56 - 8 * i) 8) ∧
      d'.extractLsb' 8 120 = d.extractLsb' 8 120 ∧ d'.extractLsb' 0 8 = (0x21 : Byte) ^^^ 0xFF := by decide +kernel

/-- A full window whose front number station 3 holds, and station 5 on the list. -/
def fullWindow : Issuance :=
  { issuance with
    next := 4016, floor := 4000, issued := 16, confirmed := 15, allowance := 3
    window := .outstanding :: List.replicate 15 .confirmed }
def waiter : Station :=
  { bound .stalled with identity := some { serial := 5, model := 0x0102, acceptsClear := false, supports32 := false } }
def fullAnd (a : Account) : State :=
  let s := put 30 (transportRecord .active) (some key) (put 20 a (some key) idle)
  ((s.setSlot 20 { s.slot 20 with waiting := [5] }).setStation 3
    { bound .awaitingReceipt with
      package := some { packageOf 4000 with expected := some 0x010203 }, timer := .receipt 1 }).setStation 5 waiter
def receipt4000 : Payload := [0x42, 0x4B, 0x30, 0x31, 0x37, 0x00, 0x0F, 0xA0, 1, 2, 3]

theorem test_witness_NumbersSettled_room :
    let a := baseRecord .active fullWindow
    let s := fullAnd a
    (s.powered = true ∧ s.device = .operational ∧ s.engine.Settled ∧ s.Sound) ∧
      ((s.station 3).state = .awaitingReceipt ∧
        (s.station 3).package = some { packageOf 4000 with expected := some 0x010203 } ∧ (s.station 3).transmitter = [] ∧
        (s.station 3).present = true ∧ s.account 20 = some a ∧ (s.slot 20).secret = some key) ∧
      (fullWindow.window.length = 16 ∧ fullWindow.next = fullWindow.floor + 16 ∧
        fullWindow.window.head? = some .outstanding ∧ (packageOf 4000).number = fullWindow.floor) ∧
      ((s.slot 20).waiting = [5] ∧ (s.station 5).state = .stalled ∧ (s.station 5).base = some 20 ∧
        (s.station 5).identity.isSome = true) ∧
      (receipt4000.length = 11 ∧ BitVec.ofNat 64 (natOfBytes (receipt4000.take 8)) = (packageOf 4000).ksi ∧
        some (BitVec.ofNat 24 (natOfBytes ((receipt4000.drop 8).take 3))) = some 0x010203) ∧
      (a.has .issue = true ∧ fullWindow.next ≤ fullWindow.last ∧ fullWindow.allowance ≠ 0) ∧
      (∃ x, s.account 30 = some x ∧ x.state = .active ∧ x.part = .transport 0x0102 ∧ x.has .wrap = true) ∧
      ∀ j x, s.account j = some x → j < 30 → ¬ (x.state = .active ∧ x.part = .transport 0x0102) := by
  refine ⟨⟨rfl, rfl, Or.inr rfl, ?_⟩, by decide +kernel, by decide +kernel, by decide +kernel, by decide +kernel,
    by decide +kernel, ⟨transportRecord .active, by decide +kernel⟩, all_accounts (by decide +kernel)⟩
  show ∀ i, _
  decide +kernel

/-- The three outcomes of the serving: a number, NO_NUMBER with no allowance, NO_TRANSPORT where no record serves. -/
def served (s : State) : Option (StationState × BitVec 5 × Option Nat) :=
  (after (.receipt 3 receipt4000) s).map fun t =>
    ((t.station 5).state, (t.station 5).holds, (t.station 5).package.map (·.number))

theorem test_room_opens :
    served (fullAnd (baseRecord .active fullWindow)) = some (.preparing, 0, some 4016) ∧
      served (fullAnd (baseRecord .active { fullWindow with allowance := 0 })) = some (.held, 8, none) ∧
      served (fullAnd (baseRecord .suspended fullWindow)) = some (.held, 8, none) ∧
      served ((fullAnd (baseRecord .active fullWindow)).setSlot 30 Slot.empty) = some (.held, 4, none) := by decide +kernel

theorem test_witness_StationLineEvents_discards :
    idle.powered = true ∧ idle.device = .operational ∧ (List.replicate 12 (0 : Byte)).length ≠ 11 ∧ ([] : Payload).length ≠ 1 ∧
      (let s := idle.setStation 2 { bound .identifying with transmitter := [.hello] }
       (s.station 2).transmitter ≠ []) ∧
      starting.powered = true ∧ starting.device ≠ .operational := by decide +kernel

theorem test_witness_IntegrityEvents_late :
    alteredLate.powered = true ∧ alteredLate.device = .starting 192 ∧ 192 ≤ 192 ∧ alteredLate.engine.Settled ∧
      (alteredLate.slot 20).agrees = false ∧ alteredLate.account 20 = some (baseRecord .active issuance) :=
  ⟨rfl, rfl, by decide +kernel, Or.inr rfl, by decide +kernel, by decide +kernel⟩

/-! ## The start-up check (R163), tamper causes without main power (R173) -/

/-- STARTING with `passed` slots behind the check; the BASE record in slot 20 disagrees and has two OUTSTANDING numbers. -/
def startingWith (passed : Nat) : State :=
  { ready.setSlot 20 { ready.slot 20 with words := (ready.slot 20).words.set 6 1 } with device := .starting passed }

theorem test_startingWith_hangs (k : Nat) : (startingWith k).NothingHangs :=
  ⟨⟨rfl, rfl⟩, (show ∀ st, (ready.station st).base = none ∧ (ready.station st).package = none by decide +kernel), fun i =>
    ⟨(show ∀ i, ((startingWith 0).slot i).waiting = [] by decide +kernel) i,
      all_account ((show ∀ i, (((startingWith 0).account i).all fun a => decide (a.assembly = none)) = true by
        decide +kernel) i)⟩⟩

/-- The record is not yet passed: quarantined, its OUTSTANDING entries kept (R50), RECORD_QUARANTINED latched. -/
theorem test_start_up_check_quarantines :
    (after .startUpCheckCompletion (startingWith 20)).map (fun t =>
        ((t.account 20).map (·.state), (t.account 20).bind Account.issuance |>.map (·.window), (t.slot 20).agrees,
          t.events.latched &&& Event.recordQuarantined.bit == Event.recordQuarantined.bit)) =
      some (some .quarantined, some issuance.window, true, true) := by decide +kernel

/-- The millisecond in which the check reaches slot 20. -/
theorem test_start_up_check_passes_a_slot :
    (match step (startingWith 20) with
      | .next t => some (t.device, (t.account 20).map (·.state), t.pending)
      | _ => none) = some (.starting 21, some .quarantined, []) := by decide +kernel

theorem test_witness_QuietMillisecond_starting :
    (startingWith 20).pending = [] ∧ (startingWith 20).powered = true ∧ (startingWith 20).device = .starting 20 ∧
      (startingWith 20).NothingHangs ∧ ((startingWith 20).slot 20).readable = false ∧
      (startingWith 191).device = .starting 191 ∧ (startingWith 191).NothingHangs :=
  ⟨rfl, rfl, rfl, test_startingWith_hangs 20, by decide +kernel, rfl, test_startingWith_hangs 191⟩

theorem test_witness_IntegrityEvents_check :
    ((startingWith 20).powered = true ∧ (startingWith 20).device = .starting 20 ∧ (startingWith 20).NothingHangs ∧
        ((startingWith 20).slot 20).readable = false ∧ (startingWith 20).account 20 = some (baseRecord .active issuance)) ∧
      (startingWith 21).device = .starting 21 ∧ (startingWith 21).NothingHangs ∧ ¬ 21 ≤ (20 : SlotId).val ∧
      ((startingWith 0).slot 30).readable = true ∧ ((startingWith 0).slot 30).account = some (transportRecord .active) :=
  ⟨⟨rfl, rfl, test_startingWith_hangs 20, by decide +kernel, by decide +kernel⟩, rfl, test_startingWith_hangs 21,
    by decide +kernel, by decide +kernel, by decide +kernel⟩

theorem test_witness_ExecKeepsQueue_starting :
    starting.RecordsLawful ∧ starting.StartUpLawful ∧ ∃ t, step { starting with pending := [.status []] } = .next t := by
  refine ⟨fun i => ?_, fun _ k _ => ⟨⟨rfl, rfl⟩, ?_, fun i => ?_⟩, _, rfl⟩
  · have e : ∀ i, starting.slot i = Slot.empty := by decide +kernel
    rw [e i]
    exact ⟨rfl, rfl⟩
  · exact (show ∀ st, (starting.station st).base = none ∧ (starting.station st).package = none by decide +kernel)
  · have e : ∀ i, starting.slot i = Slot.empty := by decide +kernel
    exact ⟨by rw [e i]; rfl, fun a h => by rw [State.account, e i] at h; cases h⟩

/-- The enclosure opens in the dark: the keys are gone, and no event is latched. -/
theorem test_dark_enclosure :
    let s : State := { ready with powered := false }
    (after (.tamperCause .enclosure) s).map (fun t => (t.tamper.latch, t.tamper.cause, t.account 20, t.events.latched)) =
      some (true, TamperInput.enclosure.bit, none, ready.events.latched) := by decide +kernel

theorem test_witness_TamperCauseZeroizes_dark :
    (dark.powered = false ∧ dark.tamper.enclosureActive = false ∧ dark.tamper.band ≠ .limit) ∧
      tampered.tamper.enclosureActive = true ∧ (inBand .limit).tamper.band = .limit ∧
      ({ idle with tamper := { idle.tamper with supplyActive := true } } : State).tamper.supplyActive = true := by
  decide +kernel

/-- The edges are those of `test_witness_TemperatureBand`. -/
theorem test_witness_TemperatureBand_dark (b : Band) :
    ({ inBand b with powered := false } : State).powered = false ∧
      ({ inBand b with powered := false } : State).tamper.band = b := ⟨rfl, rfl⟩

/-- A record of an ACCEPTED line that fails its read-check, ASSEMBLING and not. -/
theorem test_witness_LineStatusAnswers_failed :
    (let s := building.setSlot 191 { building.slot 191 with words := (building.slot 191).words.set 9 1 }
     s.Hears 0 ∧ s.engine.Settled ∧ (s.line 0).last.outcome = .accepted ∧ (s.line 0).last.slot = 191 ∧
       (s.slot 191).readable = false ∧ s.account 191 = some (assembling assembly) ∧
       (assembly.contributed ||| assembly.reserved) &&& lineBit 0 = lineBit 0) ∧
      (let s := (startingWith 20).setLine 2 { ready.line 2 with last := { outcome := .accepted, slot := 20, check := none } }
       s.Hears 2 ∧ s.engine.Settled ∧ (s.line 2).last.outcome = .accepted ∧ (s.slot (s.line 2).last.slot).readable = false ∧
         s.account 20 = some (baseRecord .active issuance) ∧ (baseRecord .active issuance).assembly = none) :=
  ⟨⟨⟨rfl, by decide +kernel⟩, Or.inr rfl, by decide +kernel, by decide +kernel, by decide +kernel, by decide +kernel,
      by decide +kernel⟩,
    ⟨rfl, by decide +kernel⟩, Or.inr rfl, by decide +kernel, by decide +kernel, by decide +kernel, rfl⟩

/-- An ACCEPTED line whose slot holds a later ASSEMBLING record that it has no part in, and that disagrees. -/
def outlived : State :=
  (building.setSlot 191 { building.slot 191 with words := (building.slot 191).words.set 9 1 }).setLine 2
    { building.line 2 with last := { outcome := .accepted, slot := 191, check := none } }

theorem test_witness_LineStatusAnswers_later :
    outlived.Hears 2 ∧ outlived.engine.Settled ∧ (outlived.line 2).last.outcome = .accepted ∧
      (outlived.line 2).last.slot = 191 ∧ (outlived.slot 191).readable = false ∧
      outlived.account 191 = some (assembling assembly) ∧ (assembling assembly).state = .assembling ∧
      (assembly.contributed ||| assembly.reserved) &&& lineBit 2 ≠ lineBit 2 :=
  ⟨⟨rfl, by decide +kernel⟩, Or.inr rfl, by decide +kernel, by decide +kernel, by decide +kernel, by decide +kernel, rfl,
    by decide +kernel⟩

/-- The record is quarantined, the answer is ACCEPTED with zeros (log entry 34). -/
theorem test_line_status_of_a_later_record :
    (after (.lineStatus 2 []) outlived).map (fun t =>
        ((t.line 2).sending.map (·.data), (t.account 191).map (·.state))) =
      some (some [2, 191, 0, 0, 0], some .quarantined) := by decide +kernel

/-! ## A transmission ended early (R92, R136) -/

/-- IDENTIFYING with the HELLO still being sent, on the BASE record in slot 20. -/
def greeting : State := ready.setStation 3 { bound .identifying with transmitter := [.hello], timer := .identity 1 }

/-- FORCE_RETIRE, ABORT and a quarantine stop the HELLO and leave the CLOSE alone to send. -/
theorem test_stopped_station_ends_its_hello :
    ((executeForceRetire 20 greeting).station 3).transmitter = [.close .aborted] ∧
      ((executeForceRetire 20 greeting).station 3).state = .departing ∧
      (after (.abort [8]) greeting).map (fun t => (t.station 3).transmitter) = some [.close .aborted] ∧
      ((quarantine [] 20 greeting).station 3).transmitter = [.close .aborted] := by decide +kernel

end Sys2Proof.Tests
end

/-! # Floor advancement (R38, R39)

The entries that leave the window are its longest settled prefix, so the front that the model counts is a `takeWhile` and the
window that remains a `dropWhile`. -/

namespace Sys2Proof.Machine

/-- A CONFIRMED or VOIDED entry: one that may leave the front of the window (R39). -/
def Entry.isSettled (e : Entry) : Bool := e != .outstanding

@[simp] theorem Entry.isSettled_iff {e : Entry} : e.isSettled = true ↔ e ≠ .outstanding := by simp [Entry.isSettled]

@[simp] theorem Entry.not_isSettled_iff {e : Entry} : e.isSettled = false ↔ e = .outstanding := by simp [Entry.isSettled]

/-- `settledFront` counts the longest settled prefix. -/
theorem settledFront_eq_length_takeWhile (w : List Entry) : settledFront w = (w.takeWhile Entry.isSettled).length := by
  induction w with
  | nil => rfl
  | cons e w ih =>
    cases e with
    | outstanding => rfl
    | confirmed | voided => simp [settledFront, ih]

/-- Dropping as many entries as stand settled at the front drops exactly those. -/
theorem drop_settledFront (w : List Entry) : w.drop (settledFront w) = w.dropWhile Entry.isSettled := by
  calc w.drop (settledFront w)
      = (w.takeWhile Entry.isSettled ++ w.dropWhile Entry.isSettled).drop (w.takeWhile Entry.isSettled).length := by
        rw [List.takeWhile_append_dropWhile, settledFront_eq_length_takeWhile]
    _ = w.dropWhile Entry.isSettled := List.drop_left

/-- The entry that stops a `dropWhile` over settled entries is OUTSTANDING. -/
theorem head?_dropWhile_isSettled (w : List Entry) :
    (w.dropWhile Entry.isSettled).head? = none ∨ (w.dropWhile Entry.isSettled).head? = some .outstanding := by
  cases h : (w.dropWhile Entry.isSettled).head? with
  | none => exact .inl rfl
  | some e =>
    have stops := List.head?_dropWhile_not Entry.isSettled w
    rw [h] at stops
    exact .inr (congrArg some (Entry.not_isSettled_iff.1 stops))

namespace Issuance

variable (s : Issuance)

theorem advance_window : s.advance.window = s.window.dropWhile Entry.isSettled := drop_settledFront s.window

theorem advance_floor : s.advance.floor = s.floor + (s.window.takeWhile Entry.isSettled).length := by
  rw [← settledFront_eq_length_takeWhile]; rfl

theorem advance_frame : s.advance = { s with floor := s.advance.floor, window := s.advance.window } := rfl

/-- The window splits into what leaves it and what remains. -/
theorem window_eq_append_advance : s.window = s.window.takeWhile Entry.isSettled ++ s.advance.window := by
  rw [advance_window, List.takeWhile_append_dropWhile]

/-- Floor and window move together: the number after the window's last entry stays the same. -/
theorem advance_floor_add_length : s.advance.floor + s.advance.window.length = s.floor + s.window.length := by
  have split := congrArg List.length s.window_eq_append_advance
  rw [List.length_append] at split
  rw [advance_floor]
  omega

/-- A window with every entry settled empties, and floor comes to next (R39). -/
theorem advance_floor_eq_next {s : Issuance} (hlen : s.window.length = s.next - s.floor) (hle : s.floor ≤ s.next)
    (hempty : s.advance.window = []) : s.advance.floor = s.next := by
  have together := s.advance_floor_add_length
  rw [hempty, List.length_nil] at together
  omega

/-- A settlement writes its entry at the number's own place in the window and counts it, then advances floor (R38). -/
theorem settle_eq_of_window {s : Issuance} {before after : List Entry} {e : Entry} (k : Settlement)
    (h : s.window = before ++ e :: after) :
    s.settle k (s.floor + before.length) =
      Issuance.advance
        { s with
          window := before ++ k.entry :: after
          confirmed := (match k with | .confirm => s.confirmed + 1 | .void => s.confirmed)
          voided := (match k with | .confirm => s.voided | .void => s.voided + 1) } := by
  have place : s.window.set (s.floor + before.length - s.floor) k.entry = before ++ k.entry :: after := by
    rw [h, Nat.add_sub_cancel_left, List.set_append_right _ _ le_rfl, Nat.sub_self, List.set_cons_zero]
  cases k <;> simp only [settle, place]

end Issuance

/-- Settles O53: floor advancement takes the settled prefix off the window, and a settlement is a write at the number's place
followed by that advancement. -/
theorem floorAdvances : Obligations.FloorAdvances := by
  refine ⟨fun s => ⟨s.window.takeWhile Entry.isSettled, s.window_eq_append_advance, ?settled, ?stops, s.advance_floor,
    s.advance_frame⟩, fun s => Issuance.advance_floor_eq_next, ?settles⟩
  case settled => exact fun e he => Entry.isSettled_iff.1 (List.mem_takeWhile_imp he)
  case stops =>
    rw [Issuance.advance_window]
    simpa using head?_dropWhile_isSettled s.window
  case settles =>
    rintro s n before after hw rfl
    exact ⟨Issuance.settle_eq_of_window .confirm hw, Issuance.settle_eq_of_window .void hw⟩

end Sys2Proof.Machine

/-! # Hold conditions and the supervision lapse (R127, R132, R187)

CLEAR_HOLD and the lapse each treat a group of stations one after the other, every station by its own context alone. What
such a treatment does to each station, and that it touches nothing else, is said once for any group. -/

namespace Sys2Proof.Machine

/-! ## A group of stations, each changed by its own context alone -/

/-- The stations of a group changed one after the other. -/
def State.modifyStations (s : State) (group : List StationId) (f : Station → Station) : State :=
  group.foldl (fun s st => s.modifyStation st f) s

@[simp] theorem modifyStations_nil (s : State) (f : Station → Station) : s.modifyStations [] f = s := rfl

@[simp] theorem modifyStations_cons (s : State) (st : StationId) (group : List StationId) (f : Station → Station) :
    s.modifyStations (st :: group) f = (s.modifyStation st f).modifyStations group f := rfl

theorem station_modifyStation_of_ne {st tt : StationId} (h : tt ≠ st) (s : State) (f : Station → Station) :
    (s.modifyStation st f).station tt = s.station tt := station_setStation_of_ne s h _

/-- Each member is changed once, by its own context; every other station stays. -/
theorem station_modifyStations {group : List StationId} (hg : group.Nodup) (s : State) (f : Station → Station)
    (tt : StationId) :
    (s.modifyStations group f).station tt = if tt ∈ group then f (s.station tt) else s.station tt := by
  induction group generalizing s with
  | nil => rfl
  | cons st group ih =>
    obtain ⟨hst, hg⟩ := List.nodup_cons.1 hg
    rw [modifyStations_cons, ih hg]
    by_cases h : tt = st
    · subst h; simp [hst]
    · simp [h, station_modifyStation_of_ne h]

/-- Nothing but the stations is changed. -/
theorem modifyStations_frame (s : State) (group : List StationId) (f : Station → Station) :
    s.modifyStations group f = { s with stations := (s.modifyStations group f).stations } := by
  induction group generalizing s with
  | nil => rfl
  | cons st group ih => exact ih (s.modifyStation st f)

/-- A station command whose treatment of a member reads and changes that member's context alone: every member's outcome is
decided by its context before the command. -/
theorem treatEach_eq_modifyStations {treat : StationId → State → State × AnswerCode} {f : Station → Station}
    {outcome : Station → AnswerCode} (h : ∀ st s, treat st s = (s.modifyStation st f, outcome (s.station st)))
    {group : List StationId} (hg : group.Nodup) (s : State) :
    treatEach treat group s = (s.modifyStations group f, group.map fun st => (st, outcome (s.station st))) := by
  induction group generalizing s with
  | nil => rfl
  | cons st group ih =>
    obtain ⟨hst, hg⟩ := List.nodup_cons.1 hg
    have others : ∀ tt ∈ group, (s.modifyStation st f).station tt = s.station tt := fun tt htt =>
      station_modifyStation_of_ne (ne_of_mem_of_not_mem htt hst) s f
    simp only [treatEach, h, ih hg, modifyStations_cons, List.map_cons]
    rw [List.map_congr_left fun tt htt => by rw [others tt htt]]

/-! ## Station sets and the answer of a station command (R119) -/

theorem nodup_allStations : allStations.Nodup := List.nodup_finRange 8

theorem mem_allStations (st : StationId) : st ∈ allStations := List.mem_finRange st

theorem nodup_stationSet (b : Byte) : (stationSet b).Nodup := nodup_allStations.filter _

@[simp] theorem mem_stationSet {b : Byte} {st : StationId} : st ∈ stationSet b ↔ b.getLsbD st.val = true := by
  simp [stationSet, mem_allStations]

theorem stationSet_ne_nil {b : Byte} (h : b ≠ 0) : stationSet b ≠ [] := by
  intro hnil
  refine h (BitVec.eq_of_getLsbD_eq fun n hn => ?_)
  have notMember : (⟨n, hn⟩ : StationId) ∉ stationSet b := by simp [hnil]
  simpa using notMember

/-- A set with a member is not BAD_STATION (R119). -/
theorem withStations_of_ne_zero {b : Byte} (h : b ≠ 0) (s : State) (f : List StationId → Reply) :
    withStations b s f = f (stationSet b) := by
  unfold withStations
  split
  · next hnil => exact absurd hnil (stationSet_ne_nil h)
  · rfl

/-- The answer's data for outcomes decided by each member's context. -/
theorem outcomeData_map (group : List StationId) (code : StationId → AnswerCode) (t : State) :
    outcomeData (group.map fun st => (st, code st)) t =
      group.flatMap fun st => [BitVec.ofNat 8 st.val, (code st).byte, (t.station st).state.code] := by
  simp [outcomeData, List.flatMap_map]

/-! ## CLEAR_HOLD (R127) -/

theorem Station.rest_eq (k : Station) :
    k.rest =
      { k with
        state := if k.base = none then .unbound else .bound
        armed := false, disarmAfter := false, identity := none, package := none, timer := .stopped, holds := 0 } := by
  unfold Station.rest
  cases k.base <;> rfl

/-- What CLEAR_HOLD leaves of a member. -/
def Station.clearHold (conditions : BitVec 5) (k : Station) : Station :=
  if k.state = .held then
    if k.holds &&& ~~~conditions = 0 then k.rest else { k with holds := k.holds &&& ~~~conditions }
  else k

/-- What CLEAR_HOLD answers for a member. -/
def Station.clearHoldOutcome (k : Station) : AnswerCode := if k.state = .held then .ok else .badState

namespace Station

variable {conditions : BitVec 5} {k : Station}

theorem clearHold_of_not_held (h : k.state ≠ .held) : k.clearHold conditions = k := if_neg h

theorem clearHold_of_left (h : k.state = .held) (left : k.holds &&& ~~~conditions ≠ 0) :
    k.clearHold conditions = { k with holds := k.holds &&& ~~~conditions } := by
  rw [clearHold, if_pos h, if_neg left]

theorem clearHold_of_none_left (h : k.state = .held) (left : k.holds &&& ~~~conditions = 0) :
    k.clearHold conditions = k.rest := by
  rw [clearHold, if_pos h, if_pos left]

theorem clearHoldOutcome_byte : k.clearHoldOutcome.byte = if k.state = .held then 0x00 else 0x15 :=
  apply_ite AnswerCode.byte _ _ _

end Station

/-- CLEAR_HOLD treats a member by the member's own context alone. -/
theorem clearHoldMember_eq (conditions : BitVec 5) (st : StationId) (s : State) :
    clearHoldMember conditions st s =
      (s.modifyStation st (·.clearHold conditions), (s.station st).clearHoldOutcome) := by
  unfold clearHoldMember Station.clearHoldOutcome State.modifyStation Station.clearHold
  by_cases h : (s.station st).state = .held
  · simp only [if_pos h]
    rfl
  · simp only [if_neg h, setStation_station]

theorem clearHold_of_bad_conditions {set conditions : Byte} (hset : set ≠ 0)
    (hbad : conditions = 0 ∨ 32 ≤ conditions.toNat) (s : State) :
    clearHold set conditions s = reply .badValue s := by
  rw [clearHold, withStations_of_ne_zero hset, if_pos hbad]

theorem clearHold_of_conditions {set conditions : Byte} (hset : set ≠ 0)
    (hgood : ¬ (conditions = 0 ∨ 32 ≤ conditions.toNat)) (s : State) :
    clearHold set conditions s =
      { state := s.modifyStations (stationSet set) (·.clearHold (conditions.setWidth 5))
        code := .ok
        data := outcomeData ((stationSet set).map fun st => (st, (s.station st).clearHoldOutcome)) } := by
  rw [clearHold, withStations_of_ne_zero hset, if_neg hgood,
    treatEach_eq_modifyStations (clearHoldMember_eq _) (nodup_stationSet set)]

/-- A served CLEAR_HOLD is answered by what its rule leaves (R180). -/
theorem exec_clearHold_of_serves {s : State} (h : s.Serves) (set conditions : Byte) :
    exec (.clearHold [set, conditions]) s =
      .next (answered 0x35 (clearHold set conditions s).code
        ((clearHold set conditions s).data (feed (clearHold set conditions s).state)) (clearHold set conditions s).state) :=
  congrArg Host.Outcome.next (consoleCommand_of_serves h Kind.clearHold [set, conditions] (clearHold set conditions))

/-- A served CLEAR_HOLD with conditions: the outcomes are those of the contexts before the command, the states those after
it. -/
theorem exec_clearHold_of_conditions {s : State} (hs : s.Serves) {set conditions : Byte} (hset : set ≠ 0)
    (hgood : ¬ (conditions = 0 ∨ 32 ≤ conditions.toNat)) :
    exec (.clearHold [set, conditions]) s =
      .next (answered 0x35 .ok
        ((stationSet set).flatMap fun st =>
          [BitVec.ofNat 8 st.val, if (s.station st).state = .held then 0x00 else 0x15,
           ((s.modifyStations (stationSet set) (·.clearHold (conditions.setWidth 5))).station st).state.code])
        (s.modifyStations (stationSet set) (·.clearHold (conditions.setWidth 5)))) := by
  simp only [exec_clearHold_of_serves hs, clearHold_of_conditions hset hgood, outcomeData_map,
    Station.clearHoldOutcome_byte]
  rfl

/-- Settles O41 (`clearHold` itself is the model's rule): CLEAR_HOLD treats each member by its own context,
so the answer and every station follow from the contexts before the command. -/
theorem clearHold_releases : Obligations.ClearHold := by
  intro s set conditions hs hset
  refine ⟨fun hbad => ?bad, fun hne hlt => ?good⟩
  case bad =>
    rw [exec_clearHold_of_serves hs, clearHold_of_bad_conditions hset hbad]
    rfl
  case good =>
    have hgood : ¬ (conditions = 0 ∨ 32 ≤ conditions.toNat) := not_or.2 ⟨hne, Nat.not_le.2 hlt⟩
    have station := station_modifyStations (nodup_stationSet set) s (·.clearHold (conditions.setWidth 5))
    refine ⟨_, exec_clearHold_of_conditions hs hset hgood, modifyStations_frame .., fun st => ⟨?others, ?member⟩⟩
    case others =>
      intro other
      rw [station]
      split
      · next hmem => exact Station.clearHold_of_not_held fun held => other ⟨mem_stationSet.1 hmem, held⟩
      · rfl
    case member =>
      intro hmem held
      rw [station, if_pos (mem_stationSet.2 hmem)]
      exact ⟨Station.clearHold_of_left held,
        fun left => (Station.clearHold_of_none_left held left).trans (Station.rest_eq _)⟩

/-! ## The supervision lapse (R132, R187) -/

namespace Station

variable {k : Station}

theorem stopLine_of_single (h : k.mode = .single) : k.stopLine = k := by simp [stopLine, h]

theorem stopLine_of_waiting (hm : k.mode = .line) (h : k.state = .waiting) : k.stopLine = k.rest := by
  simp [stopLine, hm, h]

theorem stopLine_of_hasTerminal (hm : k.mode = .line) (h : k.state.hasTerminal = true) :
    k.stopLine = { k with disarmAfter := true } := by
  have : k.state ≠ .waiting := by intro hw; rw [hw] at h; cases h
  simp [stopLine, hm, this, h]

theorem stopLine_of_idle (hw : k.state ≠ .waiting) (h : k.state.hasTerminal = false) : k.stopLine = k := by
  unfold stopLine
  cases k.mode with
  | single => rfl
  | line => simp [hw, h]

end Station

/-- Supervision as the lapse leaves it: LAPSED, and the event latched. -/
theorem lapse_eq (s : State) :
    lapse s =
      ((s.setConsole { s.console with supervision := .lapsed }).latch .supervisionLapsed).modifyStations allStations
        (·.stopLine) := rfl

/-- The lapse reaches every station by its own context (R132). -/
theorem station_lapse (s : State) (st : StationId) : (lapse s).station st = (s.station st).stopLine := by
  rw [lapse_eq, station_modifyStations nodup_allStations, if_pos (mem_allStations st), latch_station, setConsole_station]

theorem lapse_frame (s : State) :
    lapse s =
      { s with
        stations := (lapse s).stations
        console := { s.console with supervision := .lapsed }
        events := { s.events with latched := s.events.latched ||| Event.supervisionLapsed.bit } } :=
  modifyStations_frame _ allStations (·.stopLine)

/-- A running supervision timer that runs out lapses (R187). -/
theorem exec_supervisionLapse_of_running {s : State} {left : Nat} (hp : s.powered = true)
    (h : s.console.supervision = .running left) : exec .supervisionLapse s = .next (lapse s) := by
  show execSupervisionLapse s = _
  simp [execSupervisionLapse, hp, h]

/-- Settles O19: the lapse changes the supervision, the latched set and, by `stopLine`, each station's own context. -/
theorem supervisionLapse : Obligations.SupervisionLapse := by
  refine ⟨fun s => rfl, fun s left hp h => ⟨lapse s, exec_supervisionLapse_of_running hp h, lapse_frame s, fun st => ?_⟩⟩
  rw [station_lapse]
  refine ⟨Station.stopLine_of_waiting, Station.stopLine_of_hasTerminal, ?untouched⟩
  case untouched =>
    rintro (single | ⟨notWaiting, noTerminal⟩)
    · exact Station.stopLine_of_single single
    · exact Station.stopLine_of_idle notWaiting noTerminal

end Sys2Proof.Machine

/-! # The settings: SET_SETTINGS, READ_SETTINGS, and what every reset keeps (R181, R194 to R196)

What an addressed command is answered in each device state is said once for any kind. That the settings and the alert mask
outlive power-down, power-on, RESTART and zeroization is said once for each operation of chapter 9. -/

namespace Sys2Proof.Machine

/-! ## An addressed command by the device state (R181) -/

section
variable {s : State} {kind : Byte} {p : Payload}

/-- A command that the device state passes is answered by its owning rule. -/
theorem consoleCommand_of_admits (ht : s.takesCommand = true) (ha : admits s.device kind p = true) (f : State → Reply) :
    consoleCommand kind p (some f) s = answered kind (f s).code ((f s).data (feed (f s).state)) (f s).state := by
  simp [consoleCommand, ht, ha, deliver_eq]

/-- A command that the device state does not pass is refused, and its owning rule does nothing. -/
theorem consoleCommand_of_not_admits (ht : s.takesCommand = true) (ha : admits s.device kind p = false)
    (f : State → Reply) : consoleCommand kind p (some f) s = answered kind (deviceRefusal s.device) [] s := by
  simp [consoleCommand, ht, ha, deliver_eq, reply]

end

theorem admits_setSettings_iff {d : DeviceState} {p : Payload} :
    admits d Kind.setSettings p = true ↔ d = .operational := by
  cases d <;> simp [admits, Kind.setSettings, Kind.status, Kind.restart, Kind.readEvents, Kind.readTickets,
    Kind.readSettings, Kind.dismissTicket, Kind.openTicket]

theorem admits_readSettings_iff {d : DeviceState} {p : Payload} :
    admits d Kind.readSettings p = true ↔ ∀ k, d ≠ .starting k := by
  cases d <;> simp [admits, Kind.readSettings, Kind.status, Kind.restart]

/-! ## SET_SETTINGS (R195) -/

/-- The operands of a payload of fitting length, each by its place. -/
theorem settingsOperands_of_length {p : Payload} (h : p.length = 10) :
    settingsOperands p =
      some
        { identityTimeout := natOfBytes (p.take 1), receiptTimeout := natOfBytes ((p.drop 1).take 1),
          approvalWindow := natOfBytes ((p.drop 2).take 2), supervisionPeriod := natOfBytes ((p.drop 4).take 2),
          sweepPeriod := natOfBytes ((p.drop 6).take 2), allowanceLow := natOfBytes ((p.drop 8).take 2) } :=
  if_pos h

section
variable {s : State} {p : Payload} {carried : Settings}

/-- In OPERATIONAL the clamped values are stored and answered. -/
theorem exec_setSettings_of_operational (ht : s.takesCommand = true) (hd : s.device = .operational)
    (hp : settingsOperands p = some carried) :
    exec (.setSettings p) s =
      .next (answered 0x07 (if carried.clamped = carried then .ok else .clamped) carried.clamped.bytes
        { s with console := { s.console with settings := carried.clamped } }) := by
  show execSetSettings p s = _
  rw [execSetSettings, hp]
  exact congrArg Host.Outcome.next (consoleCommand_of_admits ht (admits_setSettings_iff.2 hd) (setSettings carried))

/-- In the other device states nothing is stored. -/
theorem exec_setSettings_of_not_operational (ht : s.takesCommand = true) (hd : s.device ≠ .operational)
    (hp : settingsOperands p = some carried) :
    exec (.setSettings p) s = .next (answered 0x07 (deviceRefusal s.device) [] s) := by
  have refused : admits s.device Kind.setSettings p = false := Bool.eq_false_iff.2 (mt admits_setSettings_iff.1 hd)
  show execSetSettings p s = _
  rw [execSetSettings, hp]
  exact congrArg Host.Outcome.next (consoleCommand_of_not_admits ht refused (setSettings carried))

end

/-! ## READ_SETTINGS (R196) -/

section
variable {s : State}

theorem exec_readSettings_of_not_starting (ht : s.takesCommand = true) (hd : ∀ k, s.device ≠ .starting k) :
    exec (.readSettings []) s =
      .next (answered 0x06 .ok (s.console.settings.bytes ++ eventBytes s.events.mask) s) :=
  congrArg Host.Outcome.next (consoleCommand_of_admits ht (admits_readSettings_iff.2 hd) readSettings)

theorem exec_readSettings_of_starting {k : Nat} (ht : s.takesCommand = true) (hd : s.device = .starting k) :
    exec (.readSettings []) s = .next (answered 0x06 .notReady [] s) := by
  have refused : admits s.device Kind.readSettings [] = false :=
    Bool.eq_false_iff.2 fun passed => admits_readSettings_iff.1 passed k hd
  have answer := consoleCommand_of_not_admits ht refused readSettings
  rw [hd] at answer
  exact congrArg Host.Outcome.next answer

end

/-! ## What keeps the seven stored values (R194, R192) -/

/-- The six settings and the alert mask are those of `s`. -/
structure KeepsStored (s t : State) : Prop where
  settings : t.console.settings = s.console.settings
  mask : t.events.mask = s.events.mask

namespace KeepsStored

theorem refl (s : State) : KeepsStored s s := ⟨rfl, rfl⟩

theorem trans {s t u : State} (h : KeepsStored s t) (k : KeepsStored t u) : KeepsStored s u :=
  ⟨k.settings.trans h.settings, k.mask.trans h.mask⟩

theorem setConsole {s : State} {c : ConsoleLink} (h : c.settings = s.console.settings) : KeepsStored s (s.setConsole c) :=
  ⟨h, rfl⟩

theorem setTamper (s : State) (m : TamperMonitor) : KeepsStored s (s.setTamper m) := ⟨rfl, rfl⟩

theorem setDevice (s : State) (d : DeviceState) : KeepsStored s (s.setDevice d) := ⟨rfl, rfl⟩

theorem latch (s : State) (e : Event) : KeepsStored s (s.latch e) := ⟨rfl, rfl⟩

theorem indicateRestart (s : State) : KeepsStored s (indicateRestart s) := ⟨rfl, rfl⟩

theorem clearVolatile (straps : BitVec 4) (senses : BitVec 8) (s : State) :
    KeepsStored s (clearVolatile straps senses s) := ⟨rfl, rfl⟩

/-- Zeroization empties no setting and no mask bit (R169). -/
theorem zeroize (s : State) : KeepsStored s (zeroize s) := ⟨rfl, rfl⟩

/-- A tamper cause, with main power or from the battery. -/
theorem tamper (inputs : BitVec 3) (s : State) : KeepsStored s (tamper inputs s) := by
  unfold Machine.tamper
  split
  · exact (setTamper s _).trans ((zeroize _).trans (setDevice _ _))
  · exact ⟨rfl, rfl⟩

theorem moveBand (b : Band) (s : State) : KeepsStored s (moveBand b s) := by
  have warned : KeepsStored s
      (if s.powered ∧ s.tamper.band = .normal ∧ b ≠ .normal then
        (s.setTamper { s.tamper with band := b }).latch .temperatureWarning
      else s.setTamper { s.tamper with band := b }) := by
    split
    · exact (setTamper s _).trans (latch _ _)
    · exact setTamper s _
  unfold Machine.moveBand
  dsimp only
  split
  · exact warned.trans (tamper _ _)
  · exact warned

theorem activate (input : TamperInput) (s : State) : KeepsStored s (activate input s) := by
  cases input with
  | enclosure =>
    dsimp only [Machine.activate]
    split
    · exact refl s
    · exact (setTamper s _).trans (tamper _ _)
  | supply =>
    dsimp only [Machine.activate]
    split
    · exact refl s
    · exact (setTamper s _).trans (tamper _ _)
  | temperature => exact moveBand .limit s

theorem enterService (s : State) : KeepsStored s (enterService s) := by
  unfold Machine.enterService
  dsimp only
  split
  · exact (setTamper s _).trans (setDevice _ _)
  · split
    · exact setDevice s _
    · exact tamper _ s

theorem firstReading (celsius : Int) (s : State) : KeepsStored s (firstReading celsius s) := by
  unfold Machine.firstReading
  dsimp only
  split
  · exact setTamper s _
  · exact (setTamper s _).trans (latch _ _)

/-- The restart event of an accepted RESTART (R175). -/
theorem restartEvent (straps : BitVec 4) (senses : BitVec 8) (s : State) :
    KeepsStored s (restartEvent straps senses s) :=
  (clearVolatile straps senses s).trans ((indicateRestart _).trans (enterService _))

/-! ### The resets as events -/

variable {s t : State}

theorem exec_powerDown (h : exec .powerDown s = .next t) : KeepsStored s t := by
  cases h
  exact ⟨rfl, rfl⟩

theorem exec_powerOn {straps : BitVec 4} {senses : BitVec 8} {celsius : Int}
    (h : exec (.powerOn straps senses celsius) s = .next t) : KeepsStored s t := by
  cases h
  have powered : KeepsStored s { Machine.clearVolatile straps senses s with powered := true } := ⟨rfl, rfl⟩
  exact powered.trans ((indicateRestart _).trans ((firstReading celsius _).trans (enterService _)))

theorem exec_consoleAnswerEnd {straps : BitVec 4} {senses : BitVec 8}
    (h : exec (.consoleAnswerEnd straps senses) s = .next t) : KeepsStored s t := by
  cases h
  split
  · split
    · dsimp only
      split
      · exact (setConsole rfl).trans (restartEvent straps senses _)
      · exact setConsole rfl
    · exact refl s
  · exact refl s

theorem exec_tamperCause {input : TamperInput} (h : exec (.tamperCause input) s = .next t) : KeepsStored s t := by
  cases h
  exact activate input s

end KeepsStored

/-! ## The statements -/

/-- Settles O15 (`setSettings` itself is the model's rule): the device state decides between storing and refusing, and what
is stored is the model's clamping. -/
theorem setSettings_clamps : Obligations.SetSettings := by
  refine ⟨fun s p ht hp => ?answers, fun s t h => (KeepsStored.exec_powerDown h).settings⟩
  have operands := settingsOperands_of_length hp
  refine ⟨fun hd => exec_setSettings_of_operational ht hd operands, ?starting, fun hd => ?tampered⟩
  case starting =>
    rintro ⟨k, hd⟩
    have refused := exec_setSettings_of_not_operational ht (by simp [hd]) operands
    rwa [hd] at refused
  case tampered =>
    have refused := exec_setSettings_of_not_operational ht (by simp [hd]) operands
    rwa [hd] at refused

/-- Settles O16 (`readSettings` itself is the model's rule): the answer is read off the stored values, and each
of the four resets keeps them. -/
theorem readSettings_sameAfterReset : Obligations.ReadSettings := by
  refine ⟨fun s ht hd => exec_readSettings_of_not_starting ht hd,
    fun s ht ⟨k, hd⟩ => exec_readSettings_of_starting ht hd, fun c s t hc h => ?kept⟩
  case kept =>
    have kept : KeepsStored s t := by
      rcases hc with rfl | ⟨straps, senses, celsius, rfl⟩ | ⟨straps, senses, rfl⟩ | ⟨input, rfl⟩
      · exact KeepsStored.exec_powerDown h
      · exact KeepsStored.exec_powerOn h
      · exact KeepsStored.exec_consoleAnswerEnd h
      · exact KeepsStored.exec_tamperCause h
    exact ⟨kept.settings, kept.mask⟩

end Sys2Proof.Machine

/-! # Frames and station summaries (R198, R128, R201)

A frame's CHECK is what its other bytes leave of 0x5C, so every frame sums to 0x5C. A field of k bytes is k bytes long, so a
summary's length is the sum of its fields' sizes. -/

namespace Sys2Proof.Machine

/-! ## The frame (R198) -/

namespace Frame

/-- CHECK brings the sum to the value a receiver accepts. -/
theorem partialSum_add_check (f : Frame) : f.partialSum + f.check = 0x5C := by
  rw [check, add_sub_cancel]

/-- SYNC is outside the sum. -/
theorem sum_tail_bytes (f : Frame) : f.bytes.tail.sum = 0x5C := by
  calc f.bytes.tail.sum
      = f.partialSum + f.check := by simp [bytes, partialSum, add_assoc]
    _ = 0x5C := f.partialSum_add_check

/-- The five bytes about the payload are SYNC, ADDRESS, KIND, LENGTH and CHECK. -/
@[simp] theorem length_bytes (f : Frame) : f.bytes.length = f.payload.length + 5 := by
  simp only [bytes, List.length_append, List.length_cons, List.length_nil]
  omega

end Frame

/-- A sound character that is the last one by the frame's LENGTH: the sum alone decides (R199). -/
theorem receiveItem_last {l : List Byte} (b : Byte) (hl : 3 ≤ l.length) (hlast : l.length = (byteAt l 2).toNat + 3) :
    receiveItem l (.character b true) = if (l ++ [b]).sum = 0x5C then .frame (frameOfBytes (l ++ [b])) else .bad := by
  have notLength : ¬ ((l ++ [b]).length = 3 ∧ b.toNat > 200) := by
    simp only [List.length_append, List.length_singleton]
    omega
  have sameLength : byteAt (l ++ [b]) 2 = byteAt l 2 := List.getD_append _ _ _ _ (by omega)
  have isLast : (l ++ [b]).length ≥ 4 ∧ (l ++ [b]).length = (byteAt (l ++ [b]) 2).toNat + 4 := by
    simp only [sameLength, List.length_append, List.length_singleton]
    omega
  rw [receiveItem, if_neg (by decide), if_neg notLength, if_pos isLast]

/-- The check of R198: the frame is taken exactly when its bytes sum to 0x5C. -/
theorem receiveItem_last_eq_frame_iff {l : List Byte} {b : Byte} (hl : 3 ≤ l.length)
    (hlast : l.length = (byteAt l 2).toNat + 3) :
    receiveItem l (.character b true) = .frame (frameOfBytes (l ++ [b])) ↔ (l ++ [b]).sum = 0x5C := by
  rw [receiveItem_last b hl hlast]
  split <;> simp_all

/-- An answered command leaves the console receiver CLOSED with a frame from the unit's own address. -/
theorem deliver_closes (kind : Byte) (r : Reply) :
    ∃ a, (deliver kind r).console.receiver = .closed a ∧ a.frame.address = r.state.console.unitAddress.setWidth 8 :=
  ⟨_, rfl, rfl⟩

/-- Settles O11: CHECK is what brings a frame to the sum by which a receiver accepts it. -/
theorem frameFormat : Obligations.FrameFormat := by
  refine ⟨fun f hf => ⟨rfl, f.sum_tail_bytes, f.length_bytes, ?longest⟩, fun l b hl _ hlast => ?accepted,
    deliver_closes, fun _ => rfl, fun _ _ => rfl, by decide, by decide⟩
  case longest =>
    rw [Frame.length_bytes]
    omega
  case accepted =>
    rw [← List.getD_eq_getElem?_getD] at hlast
    exact receiveItem_last_eq_frame_iff hl hlast

/-! ## Station summaries (R203) -/

@[simp] theorem length_bytesOfNat (k n : Nat) : (bytesOfNat k n).length = k := by
  induction k with
  | zero => rfl
  | succ k ih => simp [bytesOfNat, ih]

@[simp] theorem length_bytesOfBits {w : Nat} (k : Nat) (x : BitVec w) : (bytesOfBits k x).length = k :=
  length_bytesOfNat k x.toNat

/-- An absent identity, package or check value takes as many zero bytes as it would take present. -/
theorem Station.length_summary (st : StationId) (k : Station) : (k.summary st).length = 33 := by
  simp only [Station.summary, List.length_append]
  cases k.identity with
  | none | some =>
    cases k.package with
    | none => simp
    | some p => cases he : p.expected <;> simp [he]

/-! ## READ_STATIONS (R128, R201) -/

/-- The set without a member is BAD_STATION (R119). -/
theorem withStations_zero (s : State) (f : List StationId → Reply) : withStations 0 s f = reply .badStation s := rfl

/-- A served READ_STATIONS is answered by what its rule leaves (R180). -/
theorem exec_readStations_of_serves {s : State} (h : s.Serves) (set : Byte) :
    exec (.readStations [set]) s =
      .next (answered 0x36 (readStations set s).code
        ((readStations set s).data (feed (readStations set s).state)) (readStations set s).state) :=
  congrArg Host.Outcome.next (consoleCommand_of_serves h Kind.readStations [set] (readStations set))

/-- More summaries than an answer holds are refused as a whole (R201). -/
theorem readStations_of_many {set : Byte} (hset : set ≠ 0) (hmany : 6 < (stationSet set).length) (s : State) :
    readStations set s = reply .badValue s := by
  rw [readStations, withStations_of_ne_zero hset, if_pos hmany]

theorem readStations_of_few {set : Byte} (hset : set ≠ 0) (hfew : (stationSet set).length ≤ 6) (s : State) :
    readStations set s =
      { state := s, code := .ok, data := fun t => (stationSet set).flatMap fun st => (t.station st).summary st } := by
  rw [readStations, withStations_of_ne_zero hset, if_neg hfew.not_gt]

theorem ne_zero_of_stationSet_length_pos {set : Byte} (h : 0 < (stationSet set).length) : set ≠ 0 := by
  rintro rfl
  exact absurd h (by decide)

/-- Settles O42 (`readStations` itself is the model's rule): the size of the set decides, and a feed leaves the stations
whose summaries are answered. -/
theorem readStations_answers : Obligations.ReadStations := by
  refine ⟨Station.length_summary, fun a ha => ?full, fun s set hs => ⟨?empty, fun hmany => ?many, fun hpos hfew => ?few⟩⟩
  case full => simp [ConsoleAnswer.frame, ha]
  case empty =>
    rintro rfl
    rw [exec_readStations_of_serves hs, readStations, withStations_zero]
    rfl
  case many =>
    have hset : set ≠ 0 := ne_zero_of_stationSet_length_pos (Nat.lt_of_lt_of_le (by decide) hmany)
    rw [exec_readStations_of_serves hs, readStations_of_many hset hmany]
    rfl
  case few =>
    rw [exec_readStations_of_serves hs, readStations_of_few (ne_zero_of_stationSet_length_pos hpos) hfew]
    rfl

end Sys2Proof.Machine

/-! # The engine between events (R101 to R104)

The choices of one event are bounded by the jobs queued and the stations waiting on lists. No read-check, quarantine or start
of service raises that bound: a station that is taken off a list and served places at most one job. So the choices end with a
job in service or an empty queue, and every event that can place a job ends with them. -/

namespace Sys2Proof.Machine

/-! ## The stations that wait on lists -/

/-- How many stations wait on lists. -/
def waitingCount (s : State) : Nat := (allSlots.map fun i => (s.slot i).waiting.length).sum

theorem choiceBound_eq (s : State) : choiceBound s = s.engine.queue.length + waitingCount s := rfl

theorem waitingCount_eq_sum (s : State) : waitingCount s = ∑ i, (s.slot i).waiting.length := by
  rw [Fin.sum_univ_def]; rfl

theorem waitingCount_le {s t : State} (h : ∀ i, (t.slot i).waiting.length ≤ (s.slot i).waiting.length) :
    waitingCount t ≤ waitingCount s := by
  simp only [waitingCount_eq_sum]
  exact Finset.sum_le_sum fun i _ => h i

@[simp] theorem waitingCount_setEngine (s : State) (e : Engine) : waitingCount (s.setEngine e) = waitingCount s := rfl

/-- A station taken off a list is one fewer that waits. -/
theorem waitingCount_pop {s : State} {i : SlotId} {st : StationId} {rest : List StationId}
    (h : (s.slot i).waiting = st :: rest) :
    waitingCount (s.modifySlot i fun sl => { sl with waiting := rest }) + 1 = waitingCount s := by
  have others : ∀ j ∈ Finset.univ.erase i,
      ((s.modifySlot i fun sl => { sl with waiting := rest }).slot j).waiting.length = (s.slot j).waiting.length := by
    intro j hj
    rw [slot_modifySlot, if_neg (Finset.ne_of_mem_erase hj)]
  simp only [waitingCount_eq_sum, ← Finset.add_sum_erase _ _ (Finset.mem_univ i), Finset.sum_congr rfl others,
    slot_modifySlot_self, h, List.length_cons]
  omega

/-! ## Operations that leave no more jobs to choose -/

/-- The bound on the choices of an event has not risen. -/
def NoMoreJobs (s t : State) : Prop := choiceBound t ≤ choiceBound s

namespace NoMoreJobs

theorem refl (s : State) : NoMoreJobs s s := Nat.le_refl _

theorem trans {s t u : State} (h : NoMoreJobs s t) (k : NoMoreJobs t u) : NoMoreJobs s u := Nat.le_trans k h

theorem foldl {α : Type} (f : State → α → State) (h : ∀ s a, NoMoreJobs s (f s a)) (l : List α) (s : State) :
    NoMoreJobs s (l.foldl f s) := by
  induction l generalizing s with
  | nil => exact refl s
  | cons a l ih => exact (h s a).trans (ih _)

theorem of_le {s t : State} (hq : t.engine.queue.length ≤ s.engine.queue.length)
    (hw : ∀ i, (t.slot i).waiting.length ≤ (s.slot i).waiting.length) : NoMoreJobs s t :=
  Nat.add_le_add hq (waitingCount_le hw)

/-- An operation that touches neither queue nor table. -/
theorem of_eq {s t : State} (he : t.engine = s.engine) (ht : t.table = s.table) : NoMoreJobs s t := by
  refine of_le (by rw [he]) fun i => ?_
  rw [State.slot, ht]; rfl

theorem setEngine {s : State} {e : Engine} (h : e.queue.length ≤ s.engine.queue.length) :
    NoMoreJobs s (s.setEngine e) := of_le h fun _ => Nat.le_refl _

theorem modifySlot {s : State} {i : SlotId} {f : Slot → Slot}
    (h : (f (s.slot i)).waiting.length ≤ (s.slot i).waiting.length) : NoMoreJobs s (s.modifySlot i f) := by
  refine of_le (Nat.le_refl _) fun j => ?_
  rw [slot_modifySlot]
  split
  · next e => subst e; exact h
  · exact Nat.le_refl _

theorem setStation (s : State) (st : StationId) (k : Station) : NoMoreJobs s (s.setStation st k) := of_eq rfl rfl

theorem modifyStation (s : State) (st : StationId) (f : Station → Station) : NoMoreJobs s (s.modifyStation st f) :=
  of_eq rfl rfl

theorem latch (s : State) (e : Event) : NoMoreJobs s (s.latch e) := of_eq rfl rfl

theorem endVerify (o : VerifyOutcome) (i : SlotId) (s : State) : NoMoreJobs s (endVerify o i s) := of_eq rfl rfl

theorem abandonJobs (p : Job → Bool) (s : State) : NoMoreJobs s (abandonJobs p s) :=
  setEngine (List.length_filter_le _ _)

theorem cancelLines (m : BitVec 3) (i : SlotId) (s : State) : NoMoreJobs s (cancelLines m i s) := by
  refine foldl _ (fun s l => ?_) _ s
  split
  · unfold setOutcome
    split
    · exact of_eq rfl rfl
    · exact refl s
  · exact refl s

theorem stopWork (st : StationId) (s : State) : NoMoreJobs s (stopWork st s) :=
  (abandonJobs _ s).trans (modifyStation ..)

theorem hold (c : HoldCondition) (st : StationId) (s : State) : NoMoreJobs s (hold c st s) := by
  unfold Machine.hold
  dsimp only
  split
  · exact setStation ..
  · exact (setStation ..).trans (latch ..)

theorem placeClose (c : CloseCode) (st : StationId) (s : State) : NoMoreJobs s (placeClose c st s) :=
  modifyStation ..

theorem refuseService (c : HoldCondition) (st : StationId) (s : State) : NoMoreJobs s (refuseService c st s) :=
  (placeClose .notServed st s).trans (hold ..)

theorem disposeNumber (d : Disposal) (i : SlotId) (n : Nat) (s : State) : NoMoreJobs s (disposeNumber d i n s) := by
  refine modifySlot ?_
  unfold Slot.dispose
  split
  · exact Nat.le_refl _
  · split <;> exact Nat.le_refl _

theorem slotQuarantine (i : SlotId) (s : State) : NoMoreJobs s (s.modifySlot i Slot.quarantine) := by
  refine modifySlot ?_
  unfold Slot.quarantine
  split
  · exact Nat.le_refl _
  · exact Nat.zero_le _

theorem latchIf (c : Prop) [Decidable c] (s : State) (e : Event) : NoMoreJobs s (if c then s.latch e else s) := by
  split
  · exact latch s e
  · exact refl s

/-- A station that takes a number places one job (R142). -/
theorem takeNumber (i : SlotId) (st : StationId) (p : Protection) (a : Account) (iss : Issuance) (s : State) :
    choiceBound (takeNumber i st p a iss s) ≤ choiceBound s + 1 := by
  have written : NoMoreJobs s (s.modifySlot i fun sl => sl.write (a.afterTake iss) sl.secret) :=
    modifySlot (Nat.le_refl _)
  have placed : ∀ (j : Job) (t : State), choiceBound (placeJob j t) = choiceBound t + 1 := fun j t => by
    simp only [choiceBound_eq, placeJob, waitingCount_setEngine, setEngine_engine, List.length_append,
      List.length_singleton]
    omega
  unfold Machine.takeNumber
  rw [placed]
  exact Nat.succ_le_succ (written.trans ((latchIf _ _ _).trans ((latchIf _ _ _).trans (setStation ..))))

/-! ### Under any quarantine that leaves no more jobs -/

section
variable {q : Quarantine} (hq : ∀ busy i s, NoMoreJobs s (q busy i s))
include hq

theorem readCheck (busy : List SlotId) (i : SlotId) (s : State) : NoMoreJobs s (readCheck q busy i s) := by
  unfold Machine.readCheck
  split
  · exact refl s
  · exact hq ..

theorem searchIn (busy : List SlotId) (found : Account → Bool) (l : List SlotId) (s : State) :
    NoMoreJobs s (searchIn q busy found l s).1 := by
  induction l generalizing s with
  | nil => exact refl s
  | cons i l ih =>
    unfold Machine.searchIn
    dsimp only
    split
    · exact (readCheck hq ..).trans (ih _)
    · split
      · exact readCheck hq ..
      · exact (readCheck hq ..).trans (ih _)

theorem transportLookup (busy : List SlotId) (b : SlotId) (t : TerminalId) (s : State) :
    NoMoreJobs s (transportLookup q busy b t s).1 := searchIn hq ..

/-- A station that is served places at most one job (R46). -/
theorem serveStation (busy : List SlotId) (i : SlotId) (st : StationId) (s : State) :
    choiceBound (serveStation q busy i st s) ≤ choiceBound s + 1 := by
  have lookup := fun t => transportLookup hq (i :: busy) i t s
  unfold Machine.serveStation
  split
  · split
    · exact Nat.le_succ _
    · dsimp only
      split
      · exact Nat.le_succ_of_le (refuseService ..)
      · split
        · exact Nat.le_succ_of_le ((lookup _).trans (refuseService ..))
        · split
          · exact Nat.le_succ_of_le (lookup _)
          · split
            · exact Nat.le_succ_of_le (lookup _)
            · split
              · exact (takeNumber ..).trans (Nat.succ_le_succ (lookup _))
              · exact Nat.le_succ_of_le (lookup _)
  · exact Nat.le_succ _

/-- Of a list that is served each station leaves the list before it places its job. -/
theorem serveList (busy : List SlotId) (i : SlotId) (n : Nat) (s : State) : NoMoreJobs s (serveList q busy i n s) := by
  induction n generalizing s with
  | zero => exact refl s
  | succ n ih =>
    unfold Machine.serveList
    split
    · exact refl s
    · next st rest hw =>
      split
      · refine NoMoreJobs.trans ?_ (ih _)
        calc choiceBound (Machine.serveStation q busy i st _)
            ≤ choiceBound (s.modifySlot i fun sl => { sl with waiting := rest }) + 1 := serveStation hq ..
          _ = choiceBound s := by
            rw [choiceBound_eq, choiceBound_eq, modifySlot_engine, ← waitingCount_pop hw, Nat.add_assoc]
      · exact refl s

theorem openRoom (busy : List SlotId) (i : SlotId) (full : Bool) (s : State) :
    NoMoreJobs s (openRoom q busy i full s) := by
  unfold Machine.openRoom
  split
  · exact serveList hq ..
  · exact refl s

theorem quarantineUser (busy : List SlotId) (i : SlotId) (st : StationId) (s : State) :
    NoMoreJobs s (quarantineUser q busy i st s) := by
  unfold Machine.quarantineUser
  split
  · exact refl s
  · split
    · refine (stopWork st s).trans ?_
      unfold giveUp
      dsimp only
      split
      · exact readCheck hq ..
      · exact (readCheck hq ..).trans ((disposeNumber ..).trans ((modifyStation ..).trans
          ((placeClose ..).trans ((hold ..).trans (openRoom hq ..)))))
    · exact refl s

omit hq in
theorem quarantineBound (st : StationId) (s : State) : NoMoreJobs s (quarantineBound st s) := by
  unfold Machine.quarantineBound
  dsimp only
  refine NoMoreJobs.trans ?_ ((modifyStation ..).trans (hold ..))
  split
  · exact (stopWork ..).trans (modifyStation ..)
  · exact refl s

omit hq in
theorem abandonNaming (i : SlotId) (s : State) : NoMoreJobs s (abandonNaming i s) := by
  unfold Machine.abandonNaming
  dsimp only
  split
  · exact (abandonJobs ..).trans (endVerify ..)
  · exact abandonJobs ..

theorem quarantineStep (busy : List SlotId) (i : SlotId) (s : State) : NoMoreJobs s (quarantineStep q busy i s) := by
  unfold Machine.quarantineStep
  split
  · exact refl s
  · split
    · exact refl s
    · dsimp only
      refine NoMoreJobs.trans ?_ (foldl _ (fun s st => quarantineUser hq ..) _ _)
      refine NoMoreJobs.trans ?_ (foldl _ (fun s st => quarantineBound ..) _ _)
      exact ((slotQuarantine i s).trans (latch ..)).trans ((abandonNaming ..).trans (cancelLines ..))

end

theorem quarantineAt (n : Nat) (busy : List SlotId) (i : SlotId) (s : State) :
    NoMoreJobs s (quarantineAt n busy i s) := by
  induction n generalizing busy i s with
  | zero => exact refl s
  | succ n ih => exact quarantineStep ih ..

theorem check (i : SlotId) (s : State) : NoMoreJobs s (check i s) := readCheck (quarantineAt _) ..

/-! ### The start of service -/

theorem inService (j : Job) (c : Copies) (s : State) : NoMoreJobs s (inService j c s) := setEngine (Nat.le_refl _)

theorem freeEngine (s : State) : NoMoreJobs s (freeEngine s) := setEngine (Nat.le_refl _)

theorem readForService (i : SlotId) (go : State → State) (hg : ∀ s, NoMoreJobs s (go s)) (s : State) :
    NoMoreJobs s (readForService i go s) := by
  unfold Machine.readForService
  dsimp only
  split
  · exact (check ..).trans (freeEngine ..)
  · exact (check ..).trans (hg _)

theorem startService (j : Job) (s : State) : NoMoreJobs s (startService j s) := by
  cases j with
  | componentCheck => exact inService ..
  | keyCheck l i =>
    refine (inService ..).trans (readForService _ _ (fun s => ?_) _)
    unfold startKeyCheck
    split
    · exact inService ..
    · exact freeEngine ..
  | package st b n ksi serial t =>
    refine (inService ..).trans (readForService _ _ (fun s => ?_) _)
    unfold startPackage
    split
    · split
      · exact inService ..
      · refine readForService _ _ (fun s => ?_) _
        unfold startWrapped
        split
        · exact inService ..
        · exact freeEngine ..
    · exact freeEngine ..
  | verify i =>
    refine (inService ..).trans (readForService _ _ (fun s => ?_) _)
    unfold startVerify
    split
    · exact inService ..
    · exact (freeEngine ..).trans (endVerify ..)

end NoMoreJobs

/-! ## The choice (R103, R104) -/

theorem firstStationJob_mem {queue : List Job} {l : List StationId} {st : StationId} {j : Job}
    (h : firstStationJob queue l = some (st, j)) : j ∈ queue := by
  induction l with
  | nil => cases h
  | cons a l ih =>
    unfold firstStationJob at h
    split at h
    · next k hk =>
      cases h
      exact List.mem_of_find?_eq_some hk
    · exact ih h

/-- A choice takes one job out of the queue. -/
theorem choose_length {e e' : Engine} {j : Job} (h : e.choose = some (j, e')) :
    e'.queue.length + 1 = e.queue.length := by
  have erased : ∀ {k : Job}, k ∈ e.queue → (e.queue.erase k).length + 1 = e.queue.length := fun hk => by
    rw [List.length_erase_of_mem hk]
    have := List.length_pos_of_mem hk
    omega
  unfold Engine.choose at h
  split at h
  · next k hk =>
    cases h
    exact erased (List.mem_of_find?_eq_some hk)
  · split at h
    · next st k hk =>
      cases h
      exact erased (firstStationJob_mem hk)
    · split at h
      · cases h
      · next k rest hk =>
        cases h
        rw [hk]; rfl

/-- There is a choice while the queue holds a job. -/
theorem queue_nil_of_choose_none {e : Engine} (h : e.choose = none) : e.queue = [] := by
  unfold Engine.choose at h
  split at h
  · cases h
  · split at h
    · cases h
    · split at h
      · assumption
      · cases h

/-- As many choices as the bound leave the engine with a job in service or an empty queue. -/
theorem chooseJobs_settled (n : Nat) {s : State} (h : choiceBound s ≤ n) : (chooseJobs n s).engine.Settled := by
  induction n generalizing s with
  | zero =>
    have empty : s.engine.queue.length = 0 := by rw [choiceBound_eq] at h; omega
    exact .inr (List.eq_nil_of_length_eq_zero empty)
  | succ n ih =>
    unfold chooseJobs
    split
    · next v hv => exact .inl (by rw [hv]; rfl)
    · split
      · next hn => exact .inr (queue_nil_of_choose_none hn)
      · next j e hc =>
        have shorter : choiceBound (s.setEngine e) + 1 = choiceBound s := by
          simp only [choiceBound_eq, waitingCount_setEngine, setEngine_engine, ← choose_length hc]
          omega
        refine ih ?_
        calc choiceBound (startService j (s.setEngine e))
            ≤ choiceBound (s.setEngine e) := NoMoreJobs.startService ..
          _ ≤ n := by omega

/-- The choices at the end of an event settle the engine (R102, R103). -/
@[simp] theorem settleEngine_settled (s : State) : (settleEngine s).engine.Settled :=
  chooseJobs_settled _ (Nat.le_refl _)

end Sys2Proof.Machine

/-! # What the common forms of commands hand on

A console command leaves what its owning rule leaves, with the feed and the answer; a custodian request leaves what its owning
rule leaves, with the answer on its line; a command on a group of stations treats them one after the other. So a property that
feed and answer cannot break passes through each of these forms. -/

namespace Sys2Proof.Machine

section
variable {P : State → Prop} {s : State}

theorem consoleCommand_state {kind : Byte} {p : Payload} {owner : Option (State → Reply)}
    (deliver : ∀ r, P r.state → P (deliver kind r)) (hs : P s) (h : ∀ f, owner = some f → P (f s).state) :
    P (consoleCommand kind p owner s) := by
  unfold consoleCommand
  split
  · split
    · exact deliver _ hs
    · next f =>
      split
      · exact deliver _ (h f rfl)
      · exact deliver _ hs
  · exact hs

/-- The usual case of an owner: a rule mapped over the operands. -/
theorem consoleCommand_map_state {α : Type} {kind : Byte} {p : Payload} {o : Option α} {f : α → State → Reply}
    (deliver : ∀ r, P r.state → P (deliver kind r)) (hs : P s) (h : ∀ x, o = some x → P (f x s).state) :
    P (consoleCommand kind p (o.map f) s) := by
  refine consoleCommand_state deliver hs fun g hg => ?_
  obtain ⟨x, hx, rfl⟩ := Option.map_eq_some_iff.1 hg
  exact h x hx

theorem withSlot_state {b : Byte} {f : SlotId → Reply} (hs : P s) (h : ∀ i, P (f i).state) :
    P (withSlot b s f).state := by
  unfold withSlot
  split
  · exact hs
  · exact h _

theorem withStations_state {b : Byte} {f : List StationId → Reply} (hs : P s) (h : ∀ group, P (f group).state) :
    P (withStations b s f).state := by
  unfold withStations
  split
  · exact hs
  · exact h _

theorem treatEach_state {treat : StationId → State → State × AnswerCode} (h : ∀ st s, P s → P (treat st s).1)
    (group : List StationId) (hs : P s) : P (treatEach treat group s).1 := by
  induction group generalizing s with
  | nil => exact hs
  | cons st group ih => exact ih (h st s hs)

theorem foldl_state {α : Type} {f : State → α → State} (h : ∀ s a, P s → P (f s a)) (l : List α) (hs : P s) :
    P (l.foldl f s) := by
  induction l generalizing s with
  | nil => exact hs
  | cons a l ih => exact ih (h s a hs)

theorem custodianRequest_map_state {α : Type} {l : Line} {kind : Byte} {o : Option α}
    {f : α → State → State × AnswerCode × List Byte}
    (answer : ∀ t k, P t → P (t.setLine l k)) (error : P (s.latch .lineErrorCustodian)) (hs : P s)
    (h : ∀ x, o = some x → P (f x s).1) : P (custodianRequest l kind (o.map f) s) := by
  unfold custodianRequest
  split
  · split
    · next g _ hg _ =>
      obtain ⟨x, hx, rfl⟩ := Option.map_eq_some_iff.1 hg
      exact answer _ _ (h x hx)
    · exact error
  · exact hs

theorem ticketRequest_state {n : Byte} {f : Ticket → State × AnswerCode × List Byte} (hs : P s)
    (h : (∀ k, s.device ≠ .starting k) → ∀ t, s.approval.find? n.toNat = some t → P (f t).1) :
    P (ticketRequest n s f).1 := by
  unfold ticketRequest
  split
  · exact hs
  · next hd =>
    split
    · exact hs
    · next t ht => exact h (fun k hk => hd k hk) t ht

theorem broadcast_state {effect : State → State} (fed : ∀ t, P t → P (feed t)) (hs : P s) (h : P (effect s)) :
    P (broadcast effect s) := by
  unfold broadcast
  split
  · exact fed _ h
  · exact hs

theorem terminalFrame_state {α : Type} {st : StationId} {awaited : StationState} {o : Option α}
    {taken : α → State → State} (error : P (s.latch .lineErrorStation)) (hs : P s)
    (h : s.powered = true → s.device = .operational → (s.station st).state = awaited →
      (s.station st).transmitter = [] → ∀ x, o = some x → P (taken x s)) :
    P (terminalFrame st awaited o taken s) := by
  unfold terminalFrame
  split
  · next on =>
    cases o with
    | none => exact error
    | some x =>
      dsimp only
      split
      · next idle => exact h on.1 on.2 idle.1 idle.2 x rfl
      · exact error
  · exact hs

theorem completion_state {delivery : Job → Copies → Option (State → State)} (hs : P s)
    (h : ∀ v apply, s.engine.held? = some v → delivery v.job v.copies = some apply →
      P (settleEngine (apply (freeEngine s)))) : P (completion delivery s) := by
  unfold completion
  split
  · split
    · exact hs
    · next v hv =>
      split
      · exact hs
      · next apply ha => exact h v apply hv ha
  · exact hs

end

/-- A slot that is EMPTY after its read-check was EMPTY before, and nothing was read. -/
theorem check_eq_of_empty_after {i : SlotId} {s : State} (h : (check i s).account i = none) : check i s = s := by
  have before : s.account i = none := by
    have kept := (Keeps.check i s).inUse i
    rw [h] at kept
    exact Option.isNone_iff_eq_none.1 (by simpa using kept.symm)
  exact check_of_readable (by simp [Slot.readable, Slot.agrees, before])

/-! # Every event leaves the engine settled (R101, R103) -/

/-- The engine of the state is settled. -/
def State.EngineSettled (s : State) : Prop := s.engine.Settled

@[simp] theorem settled_settleEngine (s : State) : (settleEngine s).EngineSettled := settleEngine_settled s

@[simp] theorem reply_state (code : AnswerCode) (s : State) : (reply code s).state = s := rfl

@[simp] theorem memberReply_state (r : State × Outcomes) : (memberReply r).state = settleEngine r.1 := by
  simp only [memberReply]

@[simp] theorem settled_setApproval {s : State} {u : ApprovalUnit} : (s.setApproval u).EngineSettled ↔ s.EngineSettled :=
  Iff.rfl

theorem settled_setTamper {s : State} (hs : s.EngineSettled) (m : TamperMonitor) : (s.setTamper m).EngineSettled := hs

theorem Engine.Settled.abandon {e : Engine} (h : e.Settled) (p : Job → Bool) : (e.abandon p).Settled := by
  rcases h with h | h
  · exact .inl (by simpa [Engine.abandon] using h)
  · exact .inr (by simp [Engine.abandon, h])

theorem Engine.Settled.zeroized {e : Engine} : e.zeroized.Settled := .inr rfl

section
variable {s : State} (hs : s.EngineSettled)
include hs

theorem leaveWaitingList_settled (st : StationId) : (leaveWaitingList st s).EngineSettled := by
  unfold leaveWaitingList
  split <;> exact hs

theorem tamper_settled (inputs : BitVec 3) : (tamper inputs s).EngineSettled := by
  unfold tamper
  split
  · exact .inr rfl
  · exact hs

theorem moveBand_settled (b : Band) : (moveBand b s).EngineSettled := by
  unfold moveBand
  dsimp only
  have warned : ∀ c : Prop, ∀ _ : Decidable c, ∀ m e,
      (if c then (s.setTamper m).latch e else s.setTamper m).EngineSettled := fun c _ m e => by
    split <;> exact hs
  split
  · exact tamper_settled (warned ..) _
  · exact warned ..

omit hs in
theorem enterService_settled {t : State} (h : t.EngineSettled) : (enterService t).EngineSettled := by
  unfold enterService
  dsimp only
  split
  · exact h
  · split
    · exact h
    · exact tamper_settled h _

/-! ### The events of chapter 9 and of the stations -/

theorem activate_settled (input : TamperInput) : (activate input s).EngineSettled := by
  cases input with
  | temperature => exact moveBand_settled hs _
  | enclosure | supply =>
    dsimp only [activate]
    split
    · exact hs
    · exact tamper_settled (settled_setTamper hs _) _

theorem lapse_settled : (lapse s).EngineSettled := by
  rw [State.EngineSettled, lapse_frame]
  exact hs

theorem removeTerminal_settled (st : StationId) : (removeTerminal st s).EngineSettled := by
  unfold removeTerminal removePackage
  split
  case h_5 => exact leaveWaitingList_settled hs st
  case h_6 | h_7 | h_8 => exact settled_settleEngine _
  all_goals exact hs

theorem takeIdentity_settled (st : StationId) (t : TerminalId) : (takeIdentity st t s).EngineSettled := by
  unfold takeIdentity
  dsimp only
  split
  · exact hs
  · split
    · split
      · next ha => rw [check_eq_of_empty_after ha]; exact hs
      · exact settled_settleEngine _
    · exact settled_settleEngine _

theorem takeReceipt_settled (st : StationId) (r : BitVec 64 × BitVec 24) : (takeReceipt st r s).EngineSettled := by
  unfold takeReceipt
  dsimp only
  split
  · exact hs
  · exact settled_settleEngine _

theorem takeRefusal_settled (st : StationId) : (takeRefusal st s).EngineSettled := by
  unfold takeRefusal
  dsimp only
  split
  · exact hs
  · exact settled_settleEngine _

theorem expireReceipt_settled (st : StationId) : (expireReceipt st s).EngineSettled := by
  unfold expireReceipt
  dsimp only
  split
  · exact hs
  · exact settled_settleEngine _

theorem sweep_settled : (sweep s).EngineSettled := by
  unfold sweep
  split
  · exact hs
  · exact settled_settleEngine _

theorem expireTicket_settled (n : Nat) : (expireTicket n s).EngineSettled := by
  unfold expireTicket
  split
  · exact hs
  · split <;> exact hs

omit hs in
theorem completeStartUp_settled (n : Nat) : (completeStartUp n s).EngineSettled := by
  have settled := settled_settleEngine (checkSlots (slotsLeft n) s)
  unfold completeStartUp
  generalize settleEngine (checkSlots (slotsLeft n) s) = t at settled ⊢
  exact settled

/-! ### The owning rules of the custodian requests -/

theorem approve_settled (l : Line) (p : Payload) : (approve l p s).1.EngineSettled := by
  refine ticketRequest_state (P := State.EngineSettled) hs fun _ t _ => ?_
  split
  · exact hs
  · exact hs
  · exact hs
  · split
    · exact hs
    · split
      · exact hs
      · dsimp only [takeApproval]
        split
        · exact settled_settleEngine _
        · exact hs

theorem decline_settled (n : Byte) : (decline n s).1.EngineSettled := by
  refine ticketRequest_state (P := State.EngineSettled) hs fun _ t _ => ?_
  split <;> exact hs

theorem component_settled (l : Line) (c : ComponentOperands) : (component l c s).1.EngineSettled := by
  unfold component
  split
  · exact hs
  · exact hs
  · split
    · exact hs
    · dsimp only
      split <;> simp

theorem lineStatus_settled (l : Line) : (lineStatus l s).1.EngineSettled := by
  dsimp only [lineStatus]
  split
  · exact settled_settleEngine _
  · exact hs

/-! ### The owning rules of the console commands -/

theorem openTicket_settled (act slot : Byte) (amount : BitVec 16) :
    (openTicket act slot amount s).state.EngineSettled := by
  have opened : ∀ act i amount, (openOn act i amount s).state.EngineSettled := fun act i amount => by
    dsimp only [openOn]
    split
    · simp
    · split
      · simp
      · split <;> simp
  unfold openTicket
  split
  · exact hs
  · exact opened ..
  · refine withSlot_state (P := State.EngineSettled) hs fun i => ?_
    split
    · exact hs
    · exact opened ..

theorem dismissTicket_settled (n : Byte) : (dismissTicket n s).state.EngineSettled := by
  unfold dismissTicket
  split
  · exact hs
  · split <;> exact hs

theorem bind_settled (set slot mode : Byte) : (bind set slot mode s).state.EngineSettled := by
  refine withStations_state (P := State.EngineSettled) hs fun group =>
    withSlot_state (P := State.EngineSettled) hs fun i => ?_
  split
  · exact hs
  · dsimp only
    split <;> simp

theorem unbind_settled (set : Byte) : (unbind set s).state.EngineSettled := by
  refine withStations_state (P := State.EngineSettled) hs fun group =>
    treatEach_state (P := State.EngineSettled) (fun st s h => ?_) group hs
  dsimp only [unbindMember]
  split <;> exact h

theorem arm_settled (set : Byte) : (arm set s).state.EngineSettled :=
  withStations_state (P := State.EngineSettled) hs fun _ => by simp

theorem disarm_settled (set : Byte) : (disarm set s).state.EngineSettled := by
  refine withStations_state (P := State.EngineSettled) hs fun group =>
    treatEach_state (P := State.EngineSettled) (fun st s h => ?_) group hs
  unfold disarmMember
  split <;> exact h

theorem abort_settled (set : Byte) : (abort set s).state.EngineSettled :=
  withStations_state (P := State.EngineSettled) hs fun _ => by simp

theorem clearHold_settled (set conditions : Byte) : (clearHold set conditions s).state.EngineSettled := by
  refine withStations_state (P := State.EngineSettled) hs fun group => ?_
  split
  · exact hs
  · refine treatEach_state (P := State.EngineSettled) (fun st s h => ?_) group hs
    dsimp only [clearHoldMember]
    split <;> exact h

theorem readStations_settled (set : Byte) : (readStations set s).state.EngineSettled := by
  refine withStations_state (P := State.EngineSettled) hs fun group => ?_
  split <;> exact hs

theorem readRecords_settled (first count : Byte) : (readRecords first count s).state.EngineSettled :=
  withSlot_state (P := State.EngineSettled) hs fun _ => by simp

omit hs in
theorem findRecord_settled (found : Account → Bool) (data : SlotId → State → List Byte) :
    (findRecord found data s).state.EngineSettled := by
  dsimp only [findRecord]
  split <;> simp

theorem create_settled (c : CreateOperands) : (create c s).state.EngineSettled := by
  refine withSlot_state (P := State.EngineSettled) hs fun i => ?_
  split
  · exact hs
  · unfold createRecord
    split
    · exact hs
    · dsimp only
      split
      · simp
      · split <;> simp

theorem cancelAssembly_settled (b : Byte) : (cancelAssembly b s).state.EngineSettled := by
  refine withSlot_state (P := State.EngineSettled) hs fun i => ?_
  dsimp only
  split
  · simp
  · split <;> simp

theorem narrow_settled (b mask : Byte) : (narrow b mask s).state.EngineSettled := by
  refine withSlot_state (P := State.EngineSettled) hs fun i => ?_
  dsimp only
  split
  · simp
  · split <;> simp

omit hs in
theorem moveRecord_settled (i : SlotId) (source target : RecordState) :
    (moveRecord i source target s).state.EngineSettled := by
  dsimp only [moveRecord]
  split <;> simp

theorem retire_settled (b : Byte) : (retire b s).state.EngineSettled := by
  refine withSlot_state (P := State.EngineSettled) hs fun i => ?_
  dsimp only
  split
  · simp
  · split
    · split <;> simp
    · simp

theorem release_settled (b : Byte) : (release b s).state.EngineSettled := by
  refine withSlot_state (P := State.EngineSettled) hs fun i => ?_
  dsimp only
  split
  · split <;> simp
  · simp

theorem verify_settled (b : Byte) : (verify b s).state.EngineSettled := by
  refine withSlot_state (P := State.EngineSettled) hs fun i => ?_
  split
  · exact hs
  · dsimp only
    split
    · simp
    · split <;> simp

end

end Sys2Proof.Machine

namespace Sys2Proof.Machine

section
variable {s : State} (hs : s.EngineSettled)
include hs

/-- A console command leaves the engine as its owning rule does. -/
theorem consoleCommand_settled {α : Type} {kind : Byte} {p : Payload} {o : Option α} {f : α → State → Reply}
    (h : ∀ x, (f x s).state.EngineSettled) : (consoleCommand kind p (o.map f) s).EngineSettled :=
  consoleCommand_map_state (P := State.EngineSettled) (fun _ h => h) hs fun x _ => h x

/-- A custodian request leaves the engine as its owning rule does. -/
theorem custodianRequest_settled {α : Type} {l : Line} {kind : Byte} {o : Option α}
    {f : α → State → State × AnswerCode × List Byte} (h : ∀ x, (f x s).1.EngineSettled) :
    (custodianRequest l kind (o.map f) s).EngineSettled :=
  custodianRequest_map_state (P := State.EngineSettled) (fun _ _ h => h) hs hs fun x _ => h x

theorem terminalFrame_settled {α : Type} {st : StationId} {awaited : StationState} {o : Option α}
    {taken : α → State → State} (h : ∀ x, (taken x s).EngineSettled) :
    (terminalFrame st awaited o taken s).EngineSettled :=
  terminalFrame_state (P := State.EngineSettled) hs hs fun _ _ _ _ x _ => h x

theorem broadcastCommand_settled {p : Payload} {effect : State → State} (h : (effect s).EngineSettled) :
    (broadcastCommand p effect s).EngineSettled := by
  refine broadcast_state (P := State.EngineSettled) (fun _ h => h) hs ?_
  split
  · exact hs
  · split
    · exact h
    · exact hs

theorem completion_settled (delivery : Job → Copies → Option (State → State)) :
    (completion delivery s).EngineSettled :=
  completion_state (P := State.EngineSettled) hs fun _ _ _ _ => settled_settleEngine _

theorem settled_modifyStation (st : StationId) (f : Station → Station) : (s.modifyStation st f).EngineSettled := hs

/-- An event that may be passed over. -/
theorem settled_ite {c : Prop} [Decidable c] {t : State} (h : t.EngineSettled) :
    (if c then t else s).EngineSettled := by
  split
  · exact h
  · exact hs

end

/-- Every command and event leaves a settled engine settled. -/
theorem exec_settled {c : Instr} {s t : State} (hs : s.EngineSettled) (h : exec c s = .next t) : t.EngineSettled := by
  cases c
  case status | readEvents | setAlertMask | readSettings | setSettings | ackRestart | restart | readTickets =>
    cases h; exact consoleCommand_settled hs fun _ => hs
  case readRecords => cases h; exact consoleCommand_settled hs fun _ => readRecords_settled hs ..
  case findLabel =>
    cases h
    refine consoleCommand_settled hs fun l => ?_
    unfold findLabel
    split
    · exact findRecord_settled ..
    · exact hs
  case findModel =>
    cases h
    refine consoleCommand_settled hs fun x => ?_
    dsimp only [findModel]
    split
    · exact hs
    · exact findRecord_settled ..
  case create => cases h; exact consoleCommand_settled hs fun _ => create_settled hs _
  case cancelAssembly => cases h; exact consoleCommand_settled hs fun _ => cancelAssembly_settled hs _
  case narrow => cases h; exact consoleCommand_settled hs fun _ => narrow_settled hs ..
  case suspend | resume =>
    cases h
    exact consoleCommand_settled hs fun _ =>
      withSlot_state (P := State.EngineSettled) hs fun _ => moveRecord_settled ..
  case retire => cases h; exact consoleCommand_settled hs fun _ => retire_settled hs _
  case release => cases h; exact consoleCommand_settled hs fun _ => release_settled hs _
  case verify => cases h; exact consoleCommand_settled hs fun _ => verify_settled hs _
  case openTicket => cases h; exact consoleCommand_settled hs fun _ => openTicket_settled hs ..
  case dismissTicket => cases h; exact consoleCommand_settled hs fun _ => dismissTicket_settled hs _
  case bind => cases h; exact consoleCommand_settled hs fun _ => bind_settled hs ..
  case unbind => cases h; exact consoleCommand_settled hs fun _ => unbind_settled hs _
  case arm => cases h; exact consoleCommand_settled hs fun _ => arm_settled hs _
  case disarm => cases h; exact consoleCommand_settled hs fun _ => disarm_settled hs _
  case abort => cases h; exact consoleCommand_settled hs fun _ => abort_settled hs _
  case clearHold => cases h; exact consoleCommand_settled hs fun _ => clearHold_settled hs ..
  case readStations => cases h; exact consoleCommand_settled hs fun _ => readStations_settled hs _
  case disarmAll =>
    cases h
    refine broadcastCommand_settled hs ?_
    exact foldl_state (P := State.EngineSettled) (f := fun s st => s.modifyStation st (·.disarm)) (fun _ _ h => h) _ hs
  case abortAll => cases h; exact broadcastCommand_settled hs (settled_settleEngine _)
  case unknownCommand kind p =>
    cases h
    split
    · exact hs
    · exact settled_ite hs hs
  case stationFrameError =>
    cases h
    refine settled_ite hs ?_
    dsimp only
    split <;> exact hs
  case consoleFrameError | endOfTransmission | stationFrameSent | custodianFrameError |
      custodianAnswerEnd | identityTimerExpiry | present =>
    cases h; exact settled_ite hs hs
  case broadcastDiscard kind p =>
    cases h
    split
    · exact hs
    · exact broadcast_state (P := State.EngineSettled) (fun _ h => h) hs hs
  case consoleAnswerEnd straps senses =>
    cases h
    refine settled_ite hs ?_
    split
    · dsimp only
      split
      · exact enterService_settled (.inr rfl)
      · exact hs
    · exact hs
  case powerOn straps senses celsius =>
    cases h
    refine enterService_settled ?_
    dsimp only [firstReading]
    split <;> exact .inr rfl
  case powerDown => cases h; exact .inr rfl
  case supervisionLapse =>
    cases h
    refine settled_ite hs ?_
    split
    · exact lapse_settled hs
    · exact hs
  case component => cases h; exact custodianRequest_settled hs fun _ => component_settled hs ..
  case lineStatus => cases h; exact custodianRequest_settled hs fun _ => lineStatus_settled hs _
  case ticketQuery =>
    cases h
    exact custodianRequest_settled hs fun _ => ticketRequest_state (P := State.EngineSettled) hs fun _ _ _ => hs
  case approve => cases h; exact custodianRequest_settled hs fun _ => approve_settled hs ..
  case decline => cases h; exact custodianRequest_settled hs fun _ => decline_settled hs _
  case ticketExpiry n => cases h; exact settled_ite hs (expireTicket_settled hs n)
  case componentCheckDone | keyCheckDone | packageJobDone | verifyJobDone => cases h; exact completion_settled hs _
  case discardedJobDone =>
    cases h
    refine settled_ite hs ?_
    split
    · exact settled_ite hs (settled_settleEngine _)
    · exact hs
  case absent st =>
    cases h
    refine settled_ite hs ?_
    dsimp only
    split
    · exact removeTerminal_settled (settled_modifyStation hs st _) st
    · exact hs
  case identity => cases h; exact terminalFrame_settled hs fun _ => takeIdentity_settled hs ..
  case receipt => cases h; exact terminalFrame_settled hs fun _ => takeReceipt_settled hs ..
  case refuse => cases h; exact terminalFrame_settled hs fun _ => takeRefusal_settled hs _
  case receiptTimerExpiry st => cases h; exact settled_ite hs (expireReceipt_settled hs st)
  case storageError => cases h; exact hs
  case sweepTimerExpiry => cases h; exact settled_ite hs (sweep_settled hs)
  case startUpCheckCompletion =>
    cases h
    refine settled_ite hs ?_
    split
    · exact completeStartUp_settled _
    · exact hs
  case tamperCause input => cases h; exact activate_settled hs input
  case tamperInputInactive input => cases h; cases input <;> exact hs
  case temperatureReading => cases h; exact moveBand_settled hs _

/-- A millisecond of quiet leaves a settled engine settled. -/
theorem tick_settled {s : State} (hs : s.EngineSettled) : (tick s).EngineSettled := by
  have progress : ∀ u : State, u.EngineSettled → (startUpProgress u).1.EngineSettled := fun u hu => by
    unfold startUpProgress
    split
    · dsimp only
      split
      · next i _ =>
        have settled := settled_settleEngine (check i u)
        generalize settleEngine (check i u) = t at settled ⊢
        exact settled
      · exact hu
    · exact hu
  exact settled_ite hs (progress (countDown s) hs)

/-- Settles O10: an event that can place a job or free the engine ends with the engine's choices, which settle it; every other
event leaves queue and service as they were, or abandons jobs. -/
theorem stepKeepsEngineSettled : Obligations.StepKeepsEngineSettled := by
  intro s t hs h
  unfold step at h
  split at h
  · cases h; exact tick_settled hs
  · next c rest _ => exact exec_settled (show State.EngineSettled { s with pending := rest } from hs) h

end Sys2Proof.Machine

/-! # What the shared operations do to the table

A read-check, a search, a quarantine, the giving up of a package, the serving of a list, a start of service: whatever they set
off, a slot goes through a sequence of four kinds of change. -/

namespace Sys2Proof.Machine

/-- One change of a slot within a shared operation: the quarantine of its record (R160), the disposal of a number (R43, R146 to
R148), stations leaving its waiting list (R45, R46), the taking of a number (R34). -/
inductive SlotMove : Slot → Slot → Prop where
  | quarantine (sl : Slot) : SlotMove sl sl.quarantine
  | dispose (sl : Slot) (d : Disposal) (n : Nat) : SlotMove sl (sl.dispose d n)
  | leave (sl : Slot) (w : List StationId) (h : w ⊆ sl.waiting) : SlotMove sl { sl with waiting := w }
  | take (sl : Slot) (a : Account) (iss : Issuance) (ha : sl.account = some a) (hi : a.issuance = some iss)
      (hv : a.takeVerdict iss = .number) : SlotMove sl (sl.write (a.afterTake iss) sl.secret)

/-- A sequence of such changes. -/
abbrev SlotMoves : Slot → Slot → Prop := Relation.ReflTransGen SlotMove

/-- Every slot of the table has gone through such changes alone. -/
structure TableMoves (s t : State) : Prop where
  slot : ∀ i, SlotMoves (s.slot i) (t.slot i)

namespace TableMoves

theorem refl (s : State) : TableMoves s s := ⟨fun _ => .refl⟩

theorem trans {s t u : State} (h : TableMoves s t) (k : TableMoves t u) : TableMoves s u := ⟨fun i => (h.slot i).trans (k.slot i)⟩

theorem foldl {α : Type} (f : State → α → State) (h : ∀ s a, TableMoves s (f s a)) (l : List α) (s : State) :
    TableMoves s (l.foldl f s) := by
  induction l generalizing s with
  | nil => exact refl s
  | cons a l ih => exact (h s a).trans (ih _)

/-- An operation that does not touch the table. -/
theorem of_table {s t : State} (h : t.table = s.table) : TableMoves s t := ⟨fun i => by
  rw [State.slot, State.slot, h]⟩

theorem modifySlot {s : State} {i : SlotId} {f : Slot → Slot} (h : SlotMove (s.slot i) (f (s.slot i))) :
    TableMoves s (s.modifySlot i f) := by
  refine ⟨fun j => ?_⟩
  rw [slot_modifySlot]
  split
  · next e => subst e; exact .single h
  · exact .refl

theorem latch (s : State) (e : Event) : TableMoves s (s.latch e) := of_table rfl

theorem modifyStation (s : State) (st : StationId) (f : Station → Station) : TableMoves s (s.modifyStation st f) :=
  of_table rfl

theorem setEngine (s : State) (e : Engine) : TableMoves s (s.setEngine e) := of_table rfl

theorem setOutcome (l : Line) (i : SlotId) (o : LineOutcome) (c : Option (BitVec 24)) (s : State) :
    TableMoves s (setOutcome l i o c s) := by
  unfold Machine.setOutcome
  split
  · exact of_table rfl
  · exact refl s

theorem cancelLines (m : BitVec 3) (i : SlotId) (s : State) : TableMoves s (cancelLines m i s) := by
  refine foldl _ (fun s l => ?_) _ s
  split
  · exact setOutcome ..
  · exact refl s

theorem endVerify (o : VerifyOutcome) (i : SlotId) (s : State) : TableMoves s (endVerify o i s) := of_table rfl

theorem stopWork (st : StationId) (s : State) : TableMoves s (stopWork st s) := of_table rfl

theorem hold (c : HoldCondition) (st : StationId) (s : State) : TableMoves s (hold c st s) := by
  unfold Machine.hold
  dsimp only
  split <;> exact of_table rfl

theorem placeClose (c : CloseCode) (st : StationId) (s : State) : TableMoves s (placeClose c st s) := of_table rfl

theorem refuseService (c : HoldCondition) (st : StationId) (s : State) : TableMoves s (refuseService c st s) :=
  (placeClose .notServed st s).trans (hold ..)

theorem leaveWaitingList (st : StationId) (s : State) : TableMoves s (leaveWaitingList st s) := by
  unfold Machine.leaveWaitingList
  split
  · exact refl s
  · exact modifySlot (.leave _ _ fun _ => List.mem_of_mem_filter)

theorem latchIf (c : Prop) [Decidable c] (s : State) (e : Event) : TableMoves s (if c then s.latch e else s) := by
  split
  · exact latch s e
  · exact refl s

theorem takeNumber {i : SlotId} {a : Account} {iss : Issuance} {s : State} (ha : s.account i = some a)
    (hi : a.issuance = some iss) (hv : a.takeVerdict iss = .number) (st : StationId) (p : Protection) :
    TableMoves s (takeNumber i st p a iss s) := by
  have written : TableMoves s (s.modifySlot i fun sl => sl.write (a.afterTake iss) sl.secret) :=
    modifySlot (.take _ a iss ha hi hv)
  unfold Machine.takeNumber
  dsimp only
  exact written.trans ((latchIf _ _ _).trans ((latchIf _ _ _).trans (of_table rfl)))

theorem disposeNumber (d : Disposal) (i : SlotId) (n : Nat) (s : State) : TableMoves s (disposeNumber d i n s) :=
  modifySlot (.dispose _ d n)

/-! ### Under any quarantine that moves slots so -/

section
variable {q : Quarantine} (hq : ∀ busy i s, TableMoves s (q busy i s))
include hq

theorem readCheck (busy : List SlotId) (i : SlotId) (s : State) : TableMoves s (readCheck q busy i s) := by
  unfold Machine.readCheck
  split
  · exact refl s
  · exact hq ..

theorem searchIn (busy : List SlotId) (found : Account → Bool) (l : List SlotId) (s : State) :
    TableMoves s (searchIn q busy found l s).1 := by
  induction l generalizing s with
  | nil => exact refl s
  | cons i l ih =>
    unfold Machine.searchIn
    dsimp only
    split
    · exact (readCheck hq ..).trans (ih _)
    · split
      · exact readCheck hq ..
      · exact (readCheck hq ..).trans (ih _)

theorem transportLookup (busy : List SlotId) (b : SlotId) (t : TerminalId) (s : State) :
    TableMoves s (transportLookup q busy b t s).1 := searchIn hq ..

theorem serveStation (busy : List SlotId) (i : SlotId) (st : StationId) (s : State) :
    TableMoves s (serveStation q busy i st s) := by
  unfold Machine.serveStation
  split
  · split
    · exact refl s
    · dsimp only
      split
      · exact refuseService ..
      · split
        · exact (transportLookup hq ..).trans (refuseService ..)
        · split
          · exact transportLookup hq ..
          · next hb =>
            split
            · exact transportLookup hq ..
            · next hi =>
              split
              · next hv => exact (transportLookup hq ..).trans (takeNumber hb hi hv ..)
              · exact transportLookup hq ..
  · exact refl s

theorem serveList (busy : List SlotId) (i : SlotId) (n : Nat) (s : State) : TableMoves s (serveList q busy i n s) := by
  induction n generalizing s with
  | zero => exact refl s
  | succ n ih =>
    unfold Machine.serveList
    split
    · exact refl s
    · next st rest hw =>
      split
      · exact ((modifySlot (.leave _ _ (by rw [hw]; exact List.subset_cons_self ..))).trans
          (serveStation hq ..)).trans (ih _)
      · exact refl s

theorem openRoom (busy : List SlotId) (i : SlotId) (full : Bool) (s : State) :
    TableMoves s (openRoom q busy i full s) := by
  unfold Machine.openRoom
  split
  · exact serveList hq ..
  · exact refl s

theorem giveUp (busy : List SlotId) (d : Disposal) (st : StationId) (p : Package) {after : State → State}
    (ha : ∀ s, TableMoves s (after s)) (s : State) : TableMoves s (giveUp q busy d st p after s) := by
  unfold Machine.giveUp
  dsimp only
  split
  · exact readCheck hq ..
  · exact (readCheck hq ..).trans (((disposeNumber ..).trans (modifyStation ..)).trans ((ha _).trans (openRoom hq ..)))

theorem quarantineUser (busy : List SlotId) (i : SlotId) (st : StationId) (s : State) :
    TableMoves s (quarantineUser q busy i st s) := by
  unfold Machine.quarantineUser
  split
  · exact refl s
  · split
    · exact (stopWork st s).trans (giveUp hq _ _ _ _ (fun s => (placeClose ..).trans (hold ..)) _)
    · exact refl s

omit hq in
theorem quarantineBound (st : StationId) (s : State) : TableMoves s (quarantineBound st s) := by
  unfold Machine.quarantineBound
  dsimp only
  refine TableMoves.trans ?_ ((modifyStation ..).trans (hold ..))
  split
  · exact (stopWork st s).trans (modifyStation ..)
  · exact refl s

omit hq in
theorem abandonNaming (i : SlotId) (s : State) : TableMoves s (abandonNaming i s) := by
  unfold Machine.abandonNaming
  dsimp only
  split <;> exact of_table rfl

theorem quarantineStep (busy : List SlotId) (i : SlotId) (s : State) : TableMoves s (quarantineStep q busy i s) := by
  unfold Machine.quarantineStep
  split
  · exact refl s
  · split
    · exact refl s
    · dsimp only
      refine TableMoves.trans ?_ (foldl _ (fun s st => quarantineUser hq ..) _ _)
      refine TableMoves.trans ?_ (foldl _ (fun s st => quarantineBound ..) _ _)
      exact ((modifySlot (.quarantine _)).trans (latch ..)).trans ((abandonNaming ..).trans (cancelLines ..))

end

theorem quarantineAt (n : Nat) (busy : List SlotId) (i : SlotId) (s : State) :
    TableMoves s (quarantineAt n busy i s) := by
  induction n generalizing busy i s with
  | zero => exact refl s
  | succ n ih => exact quarantineStep ih ..

/-! ### What the events call -/

theorem quarantine (busy : List SlotId) (i : SlotId) (s : State) : TableMoves s (quarantine busy i s) := quarantineAt ..

theorem check (i : SlotId) (s : State) : TableMoves s (check i s) := readCheck quarantine ..

theorem search (found : Account → Bool) (s : State) : TableMoves s (search found s).1 := searchIn quarantine ..

theorem surrender (d : Disposal) (st : StationId) (p : Package) {after : State → State}
    (ha : ∀ s, TableMoves s (after s)) (s : State) : TableMoves s (surrender d st p after s) :=
  giveUp quarantine _ _ _ _ ha _

theorem inService (j : Job) (c : Copies) (s : State) : TableMoves s (inService j c s) := setEngine ..

theorem freeEngine (s : State) : TableMoves s (freeEngine s) := setEngine ..

theorem readForService (i : SlotId) (go : State → State) (hg : ∀ s, TableMoves s (go s)) (s : State) :
    TableMoves s (readForService i go s) := by
  unfold Machine.readForService
  dsimp only
  split
  · exact (check ..).trans (freeEngine ..)
  · exact (check ..).trans (hg _)

theorem startService (j : Job) (s : State) : TableMoves s (startService j s) := by
  cases j with
  | componentCheck => exact inService ..
  | keyCheck l i =>
    refine (inService ..).trans (readForService _ _ (fun s => ?_) _)
    unfold startKeyCheck
    split
    · exact inService ..
    · exact freeEngine ..
  | package st b n ksi serial t =>
    refine (inService ..).trans (readForService _ _ (fun s => ?_) _)
    unfold startPackage
    split
    · split
      · exact inService ..
      · refine readForService _ _ (fun s => ?_) _
        unfold startWrapped
        split
        · exact inService ..
        · exact freeEngine ..
    · exact freeEngine ..
  | verify i =>
    refine (inService ..).trans (readForService _ _ (fun s => ?_) _)
    unfold startVerify
    split
    · exact inService ..
    · exact (freeEngine ..).trans (endVerify ..)

theorem settleEngine (s : State) : TableMoves s (settleEngine s) := by
  unfold Machine.settleEngine
  generalize choiceBound s = n
  induction n generalizing s with
  | zero => exact refl s
  | succ n ih =>
    unfold chooseJobs
    split
    · exact refl s
    · split
      · exact refl s
      · exact ((setEngine ..).trans (startService ..)).trans (ih _)

end TableMoves

end Sys2Proof.Machine

/-! # The laws of a record under every change of its slot (chapters 1 to 3)

Taking, settling, returning and voiding numbers keep the laws of the issuance part; so every change of a slot that any event
makes keeps the laws of the slot. -/

namespace Sys2Proof.Machine

/-! ## The issuance part (R28 to R32) -/

theorem count_settled_front (w : List Entry) :
    (w.dropWhile Entry.isSettled).count .outstanding = w.count .outstanding := by
  have none_settled : (w.takeWhile Entry.isSettled).count .outstanding = 0 := by
    refine List.count_eq_zero.2 fun h => ?_
    exact Entry.isSettled_iff.1 (List.mem_takeWhile_imp h) rfl
  calc (w.dropWhile Entry.isSettled).count .outstanding
      = (w.takeWhile Entry.isSettled ++ w.dropWhile Entry.isSettled).count .outstanding := by
        rw [List.count_append, none_settled, Nat.zero_add]
    _ = w.count .outstanding := by rw [List.takeWhile_append_dropWhile]

/-- The window is full or holds room, next has not passed last: the number taken is a new OUTSTANDING entry. -/
theorem Issuance.Lawful.takeNext {s : Issuance} (h : s.Lawful) (hl : s.next ≤ s.last)
    (hw : s.windowLength ≠ Config.windowSize) : s.takeNext.Lawful := by
  obtain ⟨⟨hff, hfn, hnl, hlast⟩, hsize, hlen, hhead, hissued, hsum, hall⟩ := h
  simp only [Issuance.windowLength, Config.windowSize] at hw
  refine ⟨⟨hff, ?_, ?_, hlast⟩, ?_, ?_, fun _ => ?front, ?_, ?_, ?_⟩
  case front =>
    cases hwin : s.window with
    | nil => simp [Issuance.takeNext, hwin]
    | cons e w =>
      rw [hwin] at hhead
      simpa [Issuance.takeNext, hwin] using hhead (List.cons_ne_nil _ _)
  all_goals
    simp only [Issuance.takeNext, Issuance.outstanding, List.length_append, List.length_singleton, List.count_append,
      List.count_singleton_self] at *
    omega

/-- Floor advancement keeps the laws, and makes the front of the window OUTSTANDING. -/
theorem Issuance.advance_lawful {s : Issuance} (hrange : s.first ≤ s.floor ∧ s.floor ≤ s.next ∧ s.next ≤ s.last + 1 ∧ s.last + 1 ≤ 16777215)
    (hsize : s.next - s.floor ≤ 16) (hlen : s.window.length = s.next - s.floor) (hissued : s.issued = s.next - s.first)
    (hsum : s.issued = s.confirmed + s.voided + s.outstanding) (hall : s.allowance ≤ 65535) : s.advance.Lawful := by
  obtain ⟨hff, hfn, hnl, hlast⟩ := hrange
  have moved := s.advance_floor_add_length
  have floor := s.advance_floor
  have frame := s.advance_frame
  have next : s.advance.next = s.next := rfl
  have counted : s.advance.outstanding = s.outstanding := by
    rw [Issuance.outstanding, Issuance.advance_window, count_settled_front]; rfl
  have shorter : s.advance.window.length ≤ s.window.length := by omega
  refine ⟨⟨?_, ?_, hnl, hlast⟩, ?_, ?_, fun hne => ?_, hissued, ?_, hall⟩
  · show s.first ≤ s.advance.floor; omega
  · omega
  · omega
  · omega
  · rw [Issuance.advance_window] at hne ⊢
    rcases head?_dropWhile_isSettled s.window with hn | ho
    · exact absurd (List.head?_eq_none_iff.1 hn) hne
    · exact ho
  · rw [counted]; exact hsum

/-- A settlement keeps the laws (R38, R39). -/
theorem Issuance.Lawful.settle {s : Issuance} (h : s.Lawful) (k : Settlement) {n : Nat}
    (hn : s.entry? n = some .outstanding) : (s.settle k n).Lawful := by
  obtain ⟨hrange, hsize, hlen, -, hissued, hsum, hall⟩ := h
  have entry : s.window[n - s.floor]? = some .outstanding := by
    unfold Issuance.entry? at hn
    split at hn
    · exact hn
    · cases hn
  obtain ⟨hlt, hget⟩ := List.getElem?_eq_some_iff.1 entry
  have settled : k.entry ≠ .outstanding := by cases k <;> decide
  have counted : (s.window.set (n - s.floor) k.entry).count .outstanding + 1 = s.window.count .outstanding := by
    have positive : 0 < s.window.count .outstanding :=
      List.count_pos_iff.2 (hget ▸ List.getElem_mem hlt)
    rw [List.count_set hlt, hget]
    simp only [beq_self_eq_true, if_true, beq_iff_eq, settled, if_false]
    omega
  refine Issuance.advance_lawful hrange hsize ?_ hissued ?_ hall
  · simpa using hlen
  · simp only [Issuance.outstanding] at hsum ⊢
    cases k <;> dsimp only <;> omega

/-- A return keeps the laws (R41, R42). -/
theorem Issuance.Lawful.giveBack {s : Issuance} (h : s.Lawful) {n : Nat} (hn : s.returnable n = true) :
    (s.giveBack n).Lawful ∧ (s.giveBack n).next ≤ s.last := by
  obtain ⟨⟨hff, hfn, hnl, hlast⟩, hsize, hlen, hhead, hissued, hsum, hall⟩ := h
  obtain ⟨hnext, hback⟩ : n + 1 = s.next ∧ s.window.getLast? = some .outstanding := by
    simpa [Issuance.returnable] using hn
  obtain ⟨w, hw⟩ : ∃ w, s.window = w ++ [.outstanding] := List.getLast?_eq_some_iff.1 hback
  have front : w ≠ [] → w.head? = some .outstanding := by
    intro hne
    obtain ⟨e, w', rfl⟩ := List.exists_cons_of_ne_nil hne
    simpa [hw] using hhead (by simp [hw])
  have dropped : s.window.dropLast = w := by rw [hw, List.dropLast_concat]
  simp only [Issuance.outstanding, hw, List.length_append, List.length_singleton, List.count_append,
    List.count_singleton_self] at hlen hsum
  refine ⟨⟨⟨hff, ?_, ?_, hlast⟩, ?_, ?_, fun hne => ?front, ?_, ?_, Nat.min_le_right _ _⟩, ?_⟩
  case front =>
    simp only [Issuance.giveBack, dropped] at hne ⊢
    exact front hne
  all_goals
    simp only [Issuance.giveBack, Issuance.outstanding, dropped]
    omega

/-- The bulk void keeps the laws (R49, R51). -/
theorem Issuance.Lawful.voidAll {s : Issuance} (h : s.Lawful) : s.voidAll.Lawful := by
  obtain ⟨⟨hff, hfn, hnl, hlast⟩, hsize, hlen, -, hissued, hsum, hall⟩ := h
  refine ⟨⟨?_, Nat.le_refl _, hnl, hlast⟩, ?_, ?_, fun hne => absurd rfl hne, hissued, ?_, hall⟩
  all_goals
    simp only [Issuance.voidAll, Issuance.outstanding, List.length_nil, List.count_nil] at *
    omega

/-- A grant keeps the laws (R32, R47). -/
theorem Issuance.Lawful.grant {s : Issuance} (h : s.Lawful) (n : Nat) :
    Issuance.Lawful { s with allowance := raiseAllowance s.allowance n } := by
  obtain ⟨hrange, hsize, hlen, hhead, hissued, hsum, -⟩ := h
  exact ⟨hrange, hsize, hlen, hhead, hissued, hsum, Nat.min_le_right _ _⟩

end Sys2Proof.Machine

namespace Sys2Proof.Machine

/-! ## The kinds of change that an event makes to a slot -/

/-- One change of a slot by an event, creation apart. -/
inductive SlotChange : Slot → Slot → Prop where
  | move {sl x : Slot} (h : SlotMove sl x) : SlotChange sl x
  | alter (sl : Slot) (w : List Word32) (h : sl.account.isSome) : SlotChange sl { sl with words := w }
  | empty (sl : Slot) : SlotChange sl Slot.empty
  | restart (sl : Slot) : SlotChange sl sl.restart
  | startUpVoid (sl : Slot) : SlotChange sl sl.startUpVoid
  | retire (sl : Slot) (a : Account) (ha : sl.account = some a) (hl : a.state.isLive = true) : SlotChange sl sl.retire
  | forceRetire (sl : Slot) (a : Account) (ha : sl.account = some a) (hl : a.state.isLive = true) :
      SlotChange sl sl.forceRetire
  | complete (sl : Slot) (key : Key) (h : sl.recordState = some .assembling) : SlotChange sl (sl.complete key)
  | suspend (sl : Slot) (h : sl.recordState = some .active) :
      SlotChange sl (sl.update fun a => { a with state := .suspended })
  | resume (sl : Slot) (h : sl.recordState = some .suspended) :
      SlotChange sl (sl.update fun a => { a with state := .active })
  | permit (sl : Slot) (f : Account → BitVec 4)
      (h : ∀ a, sl.account = some a → f a &&& ~~~ (a.permissions ||| a.part.validFlags) = 0) :
      SlotChange sl (sl.update fun a => { a with permissions := f a })
  | grant (sl : Slot) (n : Nat) :
      SlotChange sl (sl.update (·.mapIssuance fun x => { x with allowance := raiseAllowance x.allowance n }))
  | assemble (sl : Slot) (a : Account) (m m' : Assembly) (k : Option Key) (ha : sl.account = some a)
      (hm : a.assembly = some m)
      (hl : m.contributed &&& m.reserved = 0 → lineCount m.contributed + lineCount m.reserved ≤ a.quorum.toNat →
        m'.contributed &&& m'.reserved = 0 ∧ lineCount m'.contributed + lineCount m'.reserved ≤ a.quorum.toNat) :
      SlotChange sl (sl.write { a with assembly := some m' } k)
  | stall (sl : Slot) (a : Account) (st : StationId) (ha : sl.account = some a) (hb : a.part.isBase = true)
      (hl : a.state.isLive = true) : SlotChange sl { sl with waiting := sl.waiting ++ [st] }

/-- A sequence of such changes. -/
abbrev SlotChanges : Slot → Slot → Prop := Relation.ReflTransGen SlotChange

theorem SlotMoves.changes {x y : Slot} (h : SlotMoves x y) : SlotChanges x y :=
  Relation.ReflTransGen.mono (fun _ _ => SlotChange.move) _ _ h

/-! ## The laws of a record in use -/

theorem Slot.lawful_of_account {sl : Slot} {a : Account} (h : sl.account = some a) :
    sl.Lawful ↔ a.Lawful ∧ (sl.waiting ≠ [] → a.part.isBase = true ∧ a.state.isLive = true) := by
  unfold Slot.Lawful
  rw [h]

theorem Slot.lawful_write {sl : Slot} {a : Account} {k : Option Key} :
    (sl.write a k).Lawful ↔ a.Lawful ∧ (sl.waiting ≠ [] → a.part.isBase = true ∧ a.state.isLive = true) :=
  Iff.rfl

theorem Slot.lawful_of_empty {sl : Slot} (h : sl.account = none) : sl.Lawful ↔ sl.words = [] ∧ sl.waiting = [] := by
  unfold Slot.Lawful
  rw [h]

/-- A change of fields of a record in use, which keeps class and liveness, and the laws of the record. -/
theorem Slot.Lawful.update {sl : Slot} (h : sl.Lawful) {f : Account → Account}
    (hf : ∀ a, sl.account = some a → a.Lawful →
      (f a).Lawful ∧ (f a).part.isBase = a.part.isBase ∧ (a.state.isLive = true → (f a).state.isLive = true)) :
    (sl.update f).Lawful := by
  unfold Slot.update
  cases ha : sl.account with
  | none => exact h
  | some a =>
    obtain ⟨hl, hw⟩ := (Slot.lawful_of_account ha).1 h
    obtain ⟨hlaw, hbase, hlive⟩ := hf a ha hl
    exact Slot.lawful_write.2 ⟨hlaw, fun hne => ⟨hbase.trans (hw hne).1, hlive (hw hne).2⟩⟩

namespace Account

variable {a : Account}

theorem issuance_eq_some {iss : Issuance} : a.issuance = some iss ↔ a.part = .base iss := by
  unfold Account.issuance
  cases a.part <;> simp

theorem mapIssuance_of_base {iss : Issuance} (h : a.part = .base iss) (f : Issuance → Issuance) :
    a.mapIssuance f = { a with part := .base (f iss) } := by
  simp [mapIssuance, h]

theorem mapIssuance_of_transport {m : BitVec 16} (h : a.part = .transport m) (f : Issuance → Issuance) :
    a.mapIssuance f = a := by
  simp [mapIssuance, h]

theorem takeVerdict_number {s : Issuance} (h : a.takeVerdict s = .number) :
    a.state = .active ∧ a.has .issue = true ∧ s.next ≤ s.last ∧ s.allowance ≠ 0 ∧ s.windowLength ≠ Config.windowSize := by
  unfold takeVerdict at h
  split at h; · cases h
  split at h; · cases h
  split at h; · cases h
  split at h; · cases h
  split at h; · cases h
  simp_all

theorem Lawful.assembly_eq_none (h : a.Lawful) (hs : a.state ≠ .assembling) : a.assembly = none := by
  obtain ⟨-, -, -, hassembly, -⟩ := h
  unfold assemblyLawful at hassembly
  split at hassembly
  · assumption
  · exact absurd hassembly.1 hs

/-- A record that leaves its state for one in which nothing is assembled and nothing awaits the end of a range. -/
theorem Lawful.leaveState (h : a.Lawful) (st : RecordState)
    (hst : st = .quarantined ∨ (st = .retired ∧ a.state.isLive = true)) :
    Lawful { a with state := st, assembly := none } := by
  obtain ⟨hperm, hcheck, -, -, hpart⟩ := h
  have notLive : st.isLive = false := by rcases hst with rfl | ⟨rfl, -⟩ <;> rfl
  refine ⟨hperm, fun hst' => ?check, fun has => ?unchecked, fun has => ?unassembled, ?part⟩
  case check =>
    rcases hst with rfl | ⟨rfl, hl⟩
    · rcases hst' with h | h <;> cases h
    · exact hcheck (.inl hl)
  case unchecked | unassembled => rcases hst with rfl | ⟨rfl, -⟩ <;> cases has
  case part =>
    unfold partLawful at hpart ⊢
    cases hp : a.part with
    | transport m => rcases hst with rfl | ⟨rfl, -⟩ <;> simp
    | base s =>
      rw [hp] at hpart
      refine ⟨hpart.1, ?_, ?_⟩ <;> rcases hst with rfl | ⟨rfl, -⟩ <;> simp

/-- A change of the issuance part alone. -/
theorem Lawful.withIssuance (h : a.Lawful) {s s' : Issuance} (hp : a.part = .base s) {st : RecordState}
    (hs : s'.Lawful) (hst : (st = a.state) ∨ (st.isLive = true ∧ a.state.isLive = true))
    (hex : st = .exhausted → s'.next = s'.last + 1) (hopen : st = .assembling ∨ st = .active ∨ st = .suspended → s'.next ≤ s'.last) :
    Lawful { a with part := .base s', state := st } := by
  obtain ⟨hperm, hcheck, hnone, hassembly, -⟩ := h
  rw [hp] at hperm
  refine ⟨hperm, fun hl => ?_, fun has => ?_, ?_, hs, hex, hopen⟩
  · rcases hst with rfl | ⟨-, hlive⟩
    · exact hcheck hl
    · exact hcheck (.inl hlive)
  · rcases hst with rfl | ⟨hlive, -⟩
    · exact hnone has
    · rw [show st = .assembling from has] at hlive; cases hlive
  · unfold assemblyLawful at hassembly ⊢
    dsimp only
    rcases hst with rfl | ⟨hlive, hlive'⟩
    · exact hassembly
    · split at hassembly
      · rintro rfl; cases hlive
      · rw [hassembly.1] at hlive'; cases hlive'

theorem Lawful.issuance_lawful (h : a.Lawful) {s : Issuance} (hp : a.part = .base s) :
    s.Lawful ∧ (a.state = .exhausted → s.next = s.last + 1) ∧
      (a.state = .assembling ∨ a.state = .active ∨ a.state = .suspended → s.next ≤ s.last) := by
  obtain ⟨-, -, -, -, hpart⟩ := h
  unfold partLawful at hpart
  rwa [hp] at hpart

theorem Lawful.afterTake (h : a.Lawful) {s : Issuance} (hi : a.issuance = some s) (hv : a.takeVerdict s = .number) :
    (a.afterTake s).Lawful := by
  obtain ⟨hactive, -, hnext, -, hroom⟩ := takeVerdict_number hv
  have hp := issuance_eq_some.1 hi
  refine h.withIssuance hp ((h.issuance_lawful hp).1.takeNext hnext hroom) ?_ ?_ ?_
  · rw [hactive]; split <;> simp [RecordState.isLive]
  · split
    · next he => intro _; exact he
    · rw [hactive]; rintro ⟨⟩
  · split
    · simp
    · next hne =>
      intro _
      simp only [Issuance.takeNext] at hne ⊢
      omega

theorem Lawful.afterSettlement {b : Account} (h : a.Lawful) {k : Settlement} {n : Nat}
    (hb : a.afterSettlement k n = some b) :
    b.Lawful ∧ b.part.isBase = a.part.isBase ∧ a.state.isLive = true ∧ b.state.isLive = true := by
  unfold Account.afterSettlement at hb
  split at hb
  · next s hp =>
    split at hb
    · next hc =>
      obtain ⟨hlaw, hex, hopen⟩ := h.issuance_lawful hp
      cases hb
      exact ⟨h.withIssuance hp (hlaw.settle k hc.2) (.inl rfl) hex hopen, by rw [hp]; rfl, hc.1, hc.1⟩
    · cases hb
  · cases hb

theorem Lawful.afterDisposal {b : Account} (h : a.Lawful) {d : Disposal} {n : Nat}
    (hb : a.afterDisposal d n = some b) :
    b.Lawful ∧ b.part.isBase = a.part.isBase ∧ a.state.isLive = true ∧ b.state.isLive = true := by
  cases d with
  | confirm | void => exact h.afterSettlement hb
  | giveBack =>
    unfold Account.afterDisposal at hb
    dsimp only at hb
    split at hb
    · next s hp =>
      split at hb
      · next hc =>
        obtain ⟨hlaw, hex, hopen⟩ := h.issuance_lawful hp
        obtain ⟨hgive, hle⟩ := hlaw.giveBack hc.2
        have live : RecordState.isLive (if a.state = .exhausted then .active else a.state) = true := by
          split
          · rfl
          · exact hc.1
        cases hb
        refine ⟨h.withIssuance hp hgive (.inr ⟨live, hc.1⟩) (fun he => ?_) fun _ => hle, by rw [hp]; rfl, hc.1, live⟩
        split at he
        · cases he
        · contradiction
      · exact h.afterSettlement hb
    · cases hb

end Account

/-! ## Every change keeps the laws of the slot -/

namespace Slot.Lawful

variable {sl : Slot}

theorem quarantine (h : sl.Lawful) : sl.quarantine.Lawful := by
  unfold Slot.quarantine
  cases ha : sl.account with
  | none => exact h
  | some a =>
    obtain ⟨hlaw, -⟩ := (Slot.lawful_of_account ha).1 h
    exact ⟨hlaw.leaveState _ (.inl rfl), fun hne => absurd rfl hne⟩

theorem dispose (h : sl.Lawful) (d : Disposal) (n : Nat) : (sl.dispose d n).Lawful := by
  unfold Slot.dispose
  split
  · exact h
  · next a ha =>
    split
    · exact h
    · next b hb =>
      obtain ⟨hlaw, hw⟩ := (Slot.lawful_of_account ha).1 h
      obtain ⟨hblaw, hbase, -, hlive⟩ := hlaw.afterDisposal hb
      exact Slot.lawful_write.2 ⟨hblaw, fun hne => ⟨hbase.trans (hw hne).1, hlive⟩⟩

/-- A new waiting list whose stations wait rightfully. -/
theorem withWaiting (h : sl.Lawful) {w : List StationId}
    (hw : w ≠ [] → sl.waiting ≠ [] ∨ ∃ a, sl.account = some a ∧ a.part.isBase = true ∧ a.state.isLive = true) :
    Slot.Lawful { sl with waiting := w } := by
  rcases ha : sl.account with _ | a
  · obtain ⟨hwords, hwait⟩ := (Slot.lawful_of_empty ha).1 h
    rw [← ha]
    refine (Slot.lawful_of_empty (sl := { sl with waiting := w }) ha).2 ⟨hwords, ?_⟩
    by_contra hne
    rcases hw hne with h | ⟨a, h, -⟩
    · exact h hwait
    · rw [ha] at h; cases h
  · obtain ⟨hlaw, hwait⟩ := (Slot.lawful_of_account ha).1 h
    rw [← ha]
    refine (Slot.lawful_of_account (sl := { sl with waiting := w }) ha).2 ⟨hlaw, fun hne => ?_⟩
    rcases hw hne with h | ⟨b, hb, hrest⟩
    · exact hwait h
    · rw [ha] at hb; cases hb; exact hrest

theorem move {x : Slot} (h : sl.Lawful) (hm : SlotMove sl x) : x.Lawful := by
  cases hm with
  | quarantine => exact h.quarantine
  | dispose d n => exact h.dispose d n
  | leave w hw => exact h.withWaiting fun hne => .inl fun he => hne (List.subset_nil.1 (he ▸ hw))
  | take a iss ha hi hv =>
    obtain ⟨hlaw, hw⟩ := (Slot.lawful_of_account ha).1 h
    refine Slot.lawful_write.2 ⟨hlaw.afterTake hi hv, fun _ => ⟨rfl, ?_⟩⟩
    obtain ⟨hactive, -⟩ := Account.takeVerdict_number hv
    dsimp only [Account.afterTake]
    rw [hactive]
    split <;> rfl

/-- A record with key material is RETIRED. -/
theorem retired {b : Account} (hb : b.Lawful) (hl : b.state.isLive = true) :
    Slot.Lawful { sl.write { b with state := .retired } none with waiting := [] } := by
  have nothing : b.assembly = none := hb.assembly_eq_none (by rintro he; rw [he] at hl; cases hl)
  have lawful := hb.leaveState .retired (.inr ⟨rfl, hl⟩)
  rw [← nothing] at lawful
  exact ⟨lawful, fun hne => absurd rfl hne⟩

theorem complete (h : sl.Lawful) (key : Key) (ha : sl.recordState = some .assembling) : (sl.complete key).Lawful := by
  unfold Slot.complete
  obtain ⟨a, hacc, hst⟩ := Option.map_eq_some_iff.1 ha
  rw [hacc]
  obtain ⟨⟨hperm, -, -, -, hpart⟩, hw⟩ := (Slot.lawful_of_account hacc).1 h
  refine Slot.lawful_write.2 ⟨⟨hperm, fun _ => rfl, fun he => ?_, fun he => ?_, ?_⟩, fun hne => ?_⟩
  · cases he
  · cases he
  · unfold Account.partLawful at hpart ⊢
    cases hp : a.part with
    | transport m => simp
    | base s =>
      rw [hp] at hpart
      exact ⟨hpart.1, fun he => (by cases he), fun _ => hpart.2.2 (.inl hst)⟩
  · have live := (hw hne).2
    rw [hst] at live; cases live

/-- ACTIVE and SUSPENDED keep the same laws. -/
theorem moveState (h : sl.Lawful) {source target : RecordState} (hs : sl.recordState = some source)
    (hst : source = .active ∧ target = .suspended ∨ source = .suspended ∧ target = .active) :
    (sl.update fun a => { a with state := target }).Lawful := by
  refine h.update fun a ha hlaw => ?_
  have state : a.state = source := by simpa [Slot.recordState, ha] using hs
  have live : a.state.isLive = true ∧ target.isLive = true := by
    rw [state]; rcases hst with ⟨rfl, rfl⟩ | ⟨rfl, rfl⟩ <;> exact ⟨rfl, rfl⟩
  refine ⟨?_, rfl, fun _ => live.2⟩
  obtain ⟨hperm, hcheck, -, -, hpart⟩ := id hlaw
  have nothing := hlaw.assembly_eq_none (by rintro he; rw [he] at live; cases live.1)
  refine ⟨hperm, fun _ => hcheck (.inl live.1), fun he => ?_, ?_, ?_⟩
  · rw [show target = .assembling from he] at live; cases live.2
  · unfold Account.assemblyLawful
    dsimp only
    rw [nothing]
    rintro rfl
    cases live.2
  · unfold Account.partLawful at hpart ⊢
    cases hp : a.part with
    | transport m => rcases hst with ⟨-, rfl⟩ | ⟨-, rfl⟩ <;> simp
    | base s =>
      rw [hp] at hpart
      have next : s.next ≤ s.last := hpart.2.2 (by rw [state]; rcases hst with ⟨rfl, -⟩ | ⟨rfl, -⟩ <;> simp)
      refine ⟨hpart.1, fun he => ?_, fun _ => next⟩
      rcases hst with ⟨-, rfl⟩ | ⟨-, rfl⟩ <;> cases he

theorem permit (h : sl.Lawful) {f : Account → BitVec 4}
    (hf : ∀ a, sl.account = some a → f a &&& ~~~ (a.permissions ||| a.part.validFlags) = 0) :
    (sl.update fun a => { a with permissions := f a }).Lawful := by
  refine h.update fun a ha hlaw => ⟨?_, rfl, id⟩
  obtain ⟨hperm, hcheck, hnone, hassembly, hpart⟩ := hlaw
  refine ⟨?_, hcheck, hnone, hassembly, hpart⟩
  have within := hf a ha
  dsimp only
  generalize a.permissions = p at hperm within
  generalize a.part.validFlags = v at hperm within ⊢
  generalize f a = x at within ⊢
  have decided : ∀ p v x : BitVec 4, p &&& ~~~ v = 0 → x &&& ~~~ (p ||| v) = 0 → x &&& ~~~ v = 0 := by decide
  exact decided p v x hperm within

theorem mapIssuance (h : sl.Lawful) {f : Issuance → Issuance}
    (hf : ∀ s : Issuance, s.Lawful → (f s).Lawful ∧ (f s).next = s.next ∧ (f s).last = s.last) :
    (sl.update (·.mapIssuance f)).Lawful := by
  refine h.update fun a ha hlaw => ?_
  cases hp : a.part with
  | transport m => rw [Account.mapIssuance_of_transport hp, hp]; exact ⟨hlaw, rfl, id⟩
  | base s =>
    obtain ⟨hs, hex, hopen⟩ := hlaw.issuance_lawful hp
    obtain ⟨hfs, hnext, hlast⟩ := hf s hs
    rw [Account.mapIssuance_of_base hp]
    exact ⟨hlaw.withIssuance hp hfs (.inl rfl) (fun he => by rw [hnext, hlast]; exact hex he)
      fun he => by rw [hnext, hlast]; exact hopen he, rfl, id⟩

theorem assemble (h : sl.Lawful) {a : Account} {m m' : Assembly} {k : Option Key} (ha : sl.account = some a)
    (hm : a.assembly = some m)
    (hl : m.contributed &&& m.reserved = 0 → lineCount m.contributed + lineCount m.reserved ≤ a.quorum.toNat →
      m'.contributed &&& m'.reserved = 0 ∧ lineCount m'.contributed + lineCount m'.reserved ≤ a.quorum.toNat) :
    (sl.write { a with assembly := some m' } k).Lawful := by
  obtain ⟨⟨hperm, hcheck, hnone, hassembly, hpart⟩, hw⟩ := (Slot.lawful_of_account ha).1 h
  unfold Account.assemblyLawful at hassembly
  rw [hm] at hassembly
  obtain ⟨hst, hdisjoint, hcount⟩ := hassembly
  exact Slot.lawful_write.2 ⟨⟨hperm, hcheck, hnone, ⟨hst, hl hdisjoint hcount⟩, hpart⟩, hw⟩

theorem restart (h : sl.Lawful) : sl.restart.Lawful := by
  unfold Slot.restart
  split
  · exact ⟨rfl, rfl⟩
  · split
    · exact ⟨rfl, rfl⟩
    · exact h.withWaiting fun hne => absurd rfl hne

theorem voidAll_lawful (h : sl.Lawful) {a : Account} (ha : sl.account = some a) :
    (a.mapIssuance Issuance.voidAll).Lawful := by
  have updated := h.mapIssuance (f := Issuance.voidAll) fun s hs => ⟨hs.voidAll, rfl, rfl⟩
  unfold Slot.update at updated
  rw [ha] at updated
  exact (Slot.lawful_write.1 updated).1

end Slot.Lawful

theorem Account.mapIssuance_state (a : Account) (f : Issuance → Issuance) : (a.mapIssuance f).state = a.state := by
  unfold mapIssuance
  split <;> rfl

theorem Account.mapIssuance_isBase (a : Account) (f : Issuance → Issuance) :
    (a.mapIssuance f).part.isBase = a.part.isBase := by
  unfold mapIssuance
  split
  · next h => rw [h]; rfl
  · rfl

/-- Every change that an event makes to a slot keeps the laws of its record. -/
theorem Slot.Lawful.change {sl x : Slot} (h : sl.Lawful) (hc : SlotChange sl x) : x.Lawful := by
  cases hc with
  | move hm => exact h.move hm
  | alter w hu =>
    obtain ⟨a, ha⟩ := Option.isSome_iff_exists.1 hu
    exact (Slot.lawful_of_account (sl := { sl with words := w }) ha).2 ((Slot.lawful_of_account ha).1 h)
  | empty => exact ⟨rfl, rfl⟩
  | restart => exact h.restart
  | startUpVoid =>
    unfold Slot.startUpVoid
    split
    · exact h
    · next a ha =>
      split
      · next hc =>
        refine (Slot.lawful_of_account (a := a.mapIssuance Issuance.voidAll) rfl).2 ⟨h.voidAll_lawful ha, fun _ => ?_⟩
        rw [Account.mapIssuance_state, Account.mapIssuance_isBase]
        exact ⟨hc.2, hc.1⟩
      · exact h
  | retire a ha hl =>
    unfold Slot.retire
    rw [ha]
    exact Slot.Lawful.retired ((Slot.lawful_of_account ha).1 h).1 hl
  | forceRetire a ha hl =>
    unfold Slot.forceRetire
    rw [ha]
    exact Slot.Lawful.retired (h.voidAll_lawful ha) (by rwa [Account.mapIssuance_state])
  | complete key ha => exact h.complete key ha
  | suspend hs => exact h.moveState hs (.inl ⟨rfl, rfl⟩)
  | resume hs => exact h.moveState hs (.inr ⟨rfl, rfl⟩)
  | permit f hf => exact h.permit hf
  | grant n => exact h.mapIssuance fun s hs => ⟨hs.grant n, rfl, rfl⟩
  | assemble a m m' k ha hm hl => exact h.assemble ha hm hl
  | stall a st ha hb hl => exact h.withWaiting fun _ => .inr ⟨a, ha, hb, hl⟩

theorem Slot.Lawful.changes {sl x : Slot} (h : sl.Lawful) (hc : SlotChanges sl x) : x.Lawful := by
  induction hc with
  | refl => exact h
  | tail _ hc ih => exact ih.change hc

/-! ## Names (R10) -/

/-- The record in the second slot bears the label of the record in the first, and holds no model class that the first does
not hold. -/
def NamesKept (x y : Slot) : Prop :=
  ∀ b, y.account = some b → ∃ a, x.account = some a ∧ b.label = a.label ∧
    ∀ m, b.part = .transport m → a.part = .transport m ∧ (b.state.holdsModel = true → a.state.holdsModel = true)

namespace NamesKept

theorem refl (x : Slot) : NamesKept x x := fun b hb => ⟨b, hb, rfl, fun _ hm => ⟨hm, id⟩⟩

theorem trans {x y z : Slot} (h : NamesKept x y) (k : NamesKept y z) : NamesKept x z := fun c hc => by
  obtain ⟨b, hb, hlabel, hmodel⟩ := k c hc
  obtain ⟨a, ha, hlabel', hmodel'⟩ := h b hb
  refine ⟨a, ha, hlabel.trans hlabel', fun m hm => ?_⟩
  obtain ⟨hbm, hbs⟩ := hmodel m hm
  exact ⟨(hmodel' m hbm).1, fun hs => (hmodel' m hbm).2 (hbs hs)⟩

theorem of_empty {x y : Slot} (h : y.account = none) : NamesKept x y := fun b hb => by rw [h] at hb; cases hb

/-- A record rewritten with its label, its class, and as much of its model class as it held. -/
theorem of_account {x y : Slot} {a b : Account} (ha : x.account = some a) (hb : y.account = some b)
    (hlabel : b.label = a.label)
    (hm : ∀ m, b.part = .transport m → a.part = .transport m ∧ (b.state.holdsModel = true → a.state.holdsModel = true)) :
    NamesKept x y := fun c hc => by
  rw [hb] at hc
  cases hc
  exact ⟨a, ha, hlabel, hm⟩

theorem of_eq {x y : Slot} (h : y.account = x.account) : NamesKept x y := fun b hb => refl x b (h ▸ hb)

theorem update {x : Slot} {f : Account → Account}
    (hf : ∀ a, x.account = some a → (f a).label = a.label ∧ ∀ m, (f a).part = .transport m →
      a.part = .transport m ∧ ((f a).state.holdsModel = true → a.state.holdsModel = true)) : NamesKept x (x.update f) := by
  unfold Slot.update
  cases ha : x.account with
  | none => exact refl x
  | some a => exact of_account ha rfl (hf a ha).1 (hf a ha).2

end NamesKept

theorem Account.mapIssuance_names (a : Account) (f : Issuance → Issuance) :
    (a.mapIssuance f).label = a.label ∧ ∀ m, (a.mapIssuance f).part = .transport m →
      a.part = .transport m ∧ ((a.mapIssuance f).state.holdsModel = true → a.state.holdsModel = true) := by
  cases hp : a.part with
  | transport m => rw [mapIssuance_of_transport hp, hp]; exact ⟨rfl, fun _ h => ⟨h, id⟩⟩
  | base s => rw [mapIssuance_of_base hp]; exact ⟨rfl, fun _ h => by cases h⟩

theorem Account.afterDisposal_names {a b : Account} {d : Disposal} {n : Nat} (h : a.afterDisposal d n = some b) :
    b.label = a.label ∧ b.part.isBase = true := by
  have settlement : ∀ k, a.afterSettlement k n = some b → b.label = a.label ∧ b.part.isBase = true := fun k hk => by
    unfold afterSettlement at hk
    split at hk
    · split at hk
      · cases hk; exact ⟨rfl, rfl⟩
      · cases hk
    · cases hk
  cases d with
  | confirm | void => exact settlement _ h
  | giveBack =>
    unfold afterDisposal at h
    dsimp only at h
    split at h
    · split at h
      · cases h; exact ⟨rfl, rfl⟩
      · exact settlement _ h
    · cases h

theorem NamesKept.of_base {x y : Slot} {a b : Account} (ha : x.account = some a) (hb : y.account = some b)
    (hlabel : b.label = a.label) (hbase : b.part.isBase = true) : NamesKept x y :=
  NamesKept.of_account ha hb hlabel fun m hm => by rw [hm] at hbase; cases hbase

/-- No change of a slot brings a label or a model class into the table. -/
theorem SlotChange.namesKept {x y : Slot} (h : SlotChange x y) : NamesKept x y := by
  cases h with
  | move hm =>
    cases hm with
    | quarantine =>
      unfold Slot.quarantine
      split
      · exact .refl x
      · next a ha => exact .of_account ha rfl rfl fun m hm => ⟨hm, fun h => by cases h⟩
    | dispose d n =>
      unfold Slot.dispose
      split
      · exact .refl x
      · next a ha =>
        split
        · exact .refl x
        · next b hb => exact .of_base ha rfl (Account.afterDisposal_names hb).1 (Account.afterDisposal_names hb).2
    | leave => exact .of_eq rfl
    | take a iss ha => exact .of_base ha rfl rfl rfl
  | alter => exact .of_eq rfl
  | empty => exact .of_empty rfl
  | restart =>
    unfold Slot.restart
    split
    · exact .of_empty rfl
    · split
      · exact .of_empty rfl
      · exact .of_eq rfl
  | startUpVoid =>
    unfold Slot.startUpVoid
    split
    · exact .refl x
    · next a ha =>
      split
      · exact .of_account ha rfl (a.mapIssuance_names _).1 (a.mapIssuance_names _).2
      · exact .refl x
  | retire a ha hl =>
    unfold Slot.retire
    rw [ha]
    exact .of_account ha rfl rfl fun m hm => ⟨hm, fun h => by cases h⟩
  | forceRetire a ha hl =>
    unfold Slot.forceRetire
    rw [ha]
    exact .of_account ha rfl (a.mapIssuance_names _).1 fun m hm =>
      ⟨((a.mapIssuance_names _).2 m hm).1, fun h => by cases h⟩
  | complete key hs =>
    unfold Slot.complete
    obtain ⟨a, ha, hst⟩ := Option.map_eq_some_iff.1 hs
    rw [ha]
    exact .of_account ha rfl rfl fun m hm => ⟨hm, fun _ => by rw [hst]; rfl⟩
  | suspend hs | resume hs =>
    refine .update fun a ha => ⟨rfl, fun m hm => ⟨hm, fun _ => ?_⟩⟩
    rw [Slot.recordState, ha] at hs
    rw [show a.state = _ from Option.some_inj.1 hs]
    rfl
  | permit f => exact .update fun a _ => ⟨rfl, fun _ hm => ⟨hm, id⟩⟩
  | grant n => exact .update fun a _ => a.mapIssuance_names _
  | assemble a m m' k ha => exact .of_account ha rfl rfl fun _ hm => ⟨hm, id⟩
  | stall => exact .of_eq rfl

theorem SlotChanges.namesKept {x y : Slot} (h : SlotChanges x y) : NamesKept x y := by
  induction h with
  | refl => exact .refl x
  | tail _ hc ih => exact ih.trans hc.namesKept

/-- An EMPTY slot stays EMPTY under every change but creation. -/
theorem SlotChanges.account_none {x y : Slot} (h : SlotChanges x y) (hx : x.account = none) : y.account = none := by
  cases hy : y.account with
  | none => rfl
  | some b =>
    obtain ⟨a, ha, -⟩ := h.namesKept b hy
    rw [hx] at ha; cases ha

/-- A table whose slots bring in no name keeps its names distinct. -/
theorem State.NamesDistinct.of_namesKept {s t : State} (hs : s.NamesDistinct)
    (h : ∀ i, NamesKept (s.slot i) (t.slot i)) : t.NamesDistinct := by
  intro i j a b hij ha hb
  obtain ⟨a', ha', hal, ham⟩ := h i a ha
  obtain ⟨b', hb', hbl, hbm⟩ := h j b hb
  obtain ⟨hlabel, hmodel⟩ := hs i j a' b' hij ha' hb'
  refine ⟨by rwa [hal, hbl], fun m hma hmb hboth => ?_⟩
  obtain ⟨hma', hsa⟩ := ham m hma
  obtain ⟨hmb', hsb⟩ := hbm m hmb
  exact hmodel m hma' hmb' ⟨hsa hboth.1, hsb hboth.2⟩

end Sys2Proof.Machine

/-! # The laws of the approval table under every change of it (R72, R74)

A ticket joins the table under a number that no ticket bears; it leaves OPEN once, its number joining the finished order; a
finished one leaves the table. -/

namespace Sys2Proof.Machine

/-! ## The number of a new ticket (R74) -/

/-- The number `k` candidates on. -/
def candidate (n k : Nat) : Nat := (nextNumber)^[k] n

theorem nextNumber_range {n : Nat} (h : n ≤ 255) : 1 ≤ nextNumber n ∧ nextNumber n ≤ 255 := by
  unfold nextNumber
  split <;> omega

/-- The search stops at a free candidate, or has found every candidate taken. -/
theorem freeNumber_spec (used : List Nat) (fuel n : Nat) (hn : 1 ≤ n ∧ n ≤ 255) :
    (1 ≤ freeNumber used fuel n ∧ freeNumber used fuel n ≤ 255) ∧
      (freeNumber used fuel n ∉ used ∨ ∀ k < fuel, candidate n k ∈ used) := by
  induction fuel generalizing n with
  | zero => exact ⟨hn, .inr fun k hk => absurd hk (Nat.not_lt_zero k)⟩
  | succ fuel ih =>
    unfold freeNumber
    split
    · next hmem =>
      obtain ⟨range, free | taken⟩ := ih (nextNumber n) (nextNumber_range hn.2)
      · exact ⟨range, .inl free⟩
      · refine ⟨range, .inr fun k hk => ?_⟩
        cases k with
        | zero => exact hmem
        | succ k => exact taken k (Nat.lt_of_succ_lt_succ hk)
    · next hfree => exact ⟨hn, .inl hfree⟩

/-- Five successive candidates differ. -/
theorem candidates_nodup {n : Nat} (hn : 1 ≤ n ∧ n ≤ 255) : ((List.range 5).map (candidate n)).Nodup := by
  obtain ⟨h1, h2⟩ := hn
  interval_cases n <;> decide

/-- With fewer than five numbers in use a free one is found. -/
theorem freeNumber_not_mem {used : List Nat} (hlen : used.length < 5) {n : Nat} (hn : 1 ≤ n ∧ n ≤ 255) :
    freeNumber used 5 n ∉ used := by
  rcases (freeNumber_spec used 5 n hn).2 with free | taken
  · exact free
  · exfalso
    have within : (List.range 5).map (candidate n) ⊆ used := fun x hx => by
      obtain ⟨k, hk, rfl⟩ := List.mem_map.1 hx
      exact taken k (List.mem_range.1 hk)
    have := ((candidates_nodup hn).subperm within).length_le
    simp only [List.length_map, List.length_range] at this
    omega

/-! ## Changes of the table -/

/-- The amount and slot that a ticket of the action may bear (R75, R76). -/
def Action.Stores (act : Action) (i : SlotId) (amount : BitVec 16) : Prop :=
  match act with
  | .grant => amount ≠ 0
  | .widen => amount ≠ 0 ∧ amount.toNat < 16
  | .clearTamper => amount = 0 ∧ i = 0
  | _ => amount = 0

/-- A new ticket is lawful. -/
theorem Action.Stores.ticket_lawful {act : Action} {i : SlotId} {amount : BitVec 16} (h : act.Stores i amount) {n : Nat}
    (hn : 1 ≤ n ∧ n ≤ 255) (left : Nat) :
    Ticket.Lawful
      { number := n, action := act, slot := i, amount := amount, approvals := 0, state := .stillOpen left } := by
  refine ⟨hn, ?_, show lineCount 0 ≤ 1 by decide⟩
  cases act <;> exact h

namespace ApprovalUnit

/-- One change of the approval table by an event in device state `d`, an APPROVE apart. -/
inductive Move (d : DeviceState) : ApprovalUnit → ApprovalUnit → Prop where
  | opening (u : ApprovalUnit) (act : Action) (i : SlotId) (amount : BitVec 16) (window : Nat)
      (room : ¬ (u.tickets.length ≥ Config.maxTickets ∧ u.tickets.all Ticket.isOpen = true))
      (single : u.tickets.any (fun t => t.isOpen && t.action == act && t.slot == i) = false)
      (stored : act.Stores i amount)
      (device : d = .tampered → act = .clearTamper) : Move d u (u.makeRoom.addTicket act i amount window).1
  | decline (u : ApprovalUnit) (t : Ticket) (ht : t ∈ u.tickets) (ho : t.isOpen = true) :
      Move d u (u.finish { t with state := .failed .declined })
  | expire (u : ApprovalUnit) (t : Ticket) (ht : t ∈ u.tickets) (ho : t.isOpen = true) :
      Move d u (u.finish { t with state := .expired, approvals := 0 })
  | fail (u : ApprovalUnit) (l : List Ticket) (hl : l.Sublist u.tickets) (ho : ∀ t ∈ l, t.isOpen = true) :
      Move d u (l.foldl (fun u t => u.finish { t with state := .failed .badState }) u)
  | dismiss (u : ApprovalUnit) (t : Ticket) (ht : t ∈ u.tickets) (ho : t.isOpen = false) : Move d u (u.remove t.number)

/-- A sequence of such changes. -/
abbrev Moves (d : DeviceState) : ApprovalUnit → ApprovalUnit → Prop := Relation.ReflTransGen (Move d)

/-! ### The laws one by one -/

variable {u : ApprovalUnit}

theorem find?_eq_some {n : Nat} {t : Ticket} (h : u.find? n = some t) : t ∈ u.tickets ∧ t.number = n :=
  ⟨List.mem_of_find?_eq_some h, by simpa using List.find?_some h⟩

theorem Lawful.eq_of_number (h : u.Lawful) {t x : Ticket} (ht : t ∈ u.tickets) (hx : x ∈ u.tickets)
    (hn : t.number = x.number) : t = x := by
  obtain ⟨-, -, hnodup, -⟩ := h
  exact List.inj_on_of_nodup_map hnodup ht hx hn

@[simp] theorem put_finished (t : Ticket) : (u.put t).finished = u.finished := rfl

@[simp] theorem put_counter (t : Ticket) : (u.put t).counter = u.counter := rfl

theorem put_numbers (t : Ticket) : (u.put t).tickets.map (·.number) = u.tickets.map (·.number) := by
  simp only [put, List.map_map]
  refine List.map_congr_left fun x _ => ?_
  dsimp only [Function.comp]
  split
  · next h => exact h.symm
  · rfl

theorem mem_put {t x : Ticket} (h : x ∈ (u.put t).tickets) : x = t ∨ x ∈ u.tickets ∧ x.number ≠ t.number := by
  simp only [put, List.mem_map] at h
  obtain ⟨y, hy, rfl⟩ := h
  split
  · exact .inl rfl
  · next hne => exact .inr ⟨hy, hne⟩

theorem mem_put_of_mem {t x : Ticket} (hx : x ∈ u.tickets) (hn : x.number ≠ t.number) : x ∈ (u.put t).tickets :=
  List.mem_map.2 ⟨x, hx, if_neg hn⟩

theorem mem_put_self {t x : Ticket} (hx : x ∈ u.tickets) (hn : x.number = t.number) : t ∈ (u.put t).tickets :=
  List.mem_map.2 ⟨x, hx, if_pos hn⟩

/-- Of two values put for one number the second stands. -/
theorem put_put {t x : Ticket} (h : x.number = t.number) : (u.put t).put x = u.put x := by
  simp only [put, List.map_map]
  congr 1
  refine List.map_congr_left fun y _ => ?_
  dsimp only [Function.comp]
  split
  · next hy => rw [if_pos h.symm, if_pos (hy.trans h.symm)]
  · rfl

/-- No two OPEN tickets alike, when a ticket takes a new value that is like the old one or finished. -/
theorem put_distinct {t t' : Ticket}
    (h : u.tickets.Pairwise fun t x => t.isOpen = true → x.isOpen = true → ¬ (t.action = x.action ∧ t.slot = x.slot))
    (huniq : ∀ x ∈ u.tickets, x.number = t'.number → x = t)
    (hopen : t'.isOpen = true → t.isOpen = true ∧ t'.action = t.action ∧ t'.slot = t.slot) :
    (u.put t').tickets.Pairwise fun t x =>
      t.isOpen = true → x.isOpen = true → ¬ (t.action = x.action ∧ t.slot = x.slot) := by
  refine List.pairwise_map.2 (h.imp_of_mem fun {a b} ha hb hab => ?_)
  split
  · next hn =>
    cases huniq a ha hn
    split
    · next hn' =>
      cases huniq b hb hn'
      intro ho ho'
      obtain ⟨open', -⟩ := hopen ho
      exact absurd ⟨rfl, rfl⟩ (hab open' open')
    · intro ho ho' hsame
      obtain ⟨open', hact, hslot⟩ := hopen ho
      rw [hact, hslot] at hsame
      exact hab open' ho' hsame
  · split
    · next hn' =>
      cases huniq b hb hn'
      intro ho ho' hsame
      obtain ⟨open', hact, hslot⟩ := hopen ho'
      rw [hact, hslot] at hsame
      exact hab ho open' hsame
    · exact hab

/-- A ticket's new value, which leaves it OPEN. -/
theorem Lawful.put (h : u.Lawful) {t t' : Ticket} (ht : t ∈ u.tickets) (hn : t'.number = t.number) (hlaw : t'.Lawful)
    (ho : t.isOpen = true) (ho' : t'.isOpen = true) (hact : t'.action = t.action) (hslot : t'.slot = t.slot) :
    (u.put t').Lawful := by
  have uniq : ∀ x ∈ u.tickets, x.number = t'.number → x = t := fun x hx hx' => h.eq_of_number hx ht (hx'.trans hn)
  obtain ⟨hlen, htickets, hnodup, hpair, hfin, hiff, hcounter⟩ := h
  refine ⟨by simpa [ApprovalUnit.put] using hlen, fun x hx => ?_, by rwa [put_numbers],
    put_distinct hpair uniq fun _ => ⟨ho, hact, hslot⟩, hfin, fun n => ?_, hcounter⟩
  · rcases mem_put hx with rfl | ⟨hx, -⟩
    · exact hlaw
    · exact htickets x hx
  · rw [put_finished, hiff]
    constructor
    · rintro ⟨x, hx, rfl, hclosed⟩
      refine ⟨x, mem_put_of_mem hx fun hx' => ?_, rfl, hclosed⟩
      rw [uniq x hx hx', ho] at hclosed
      cases hclosed
    · rintro ⟨x, hx, rfl, hclosed⟩
      rcases mem_put hx with rfl | ⟨hx, -⟩
      · rw [ho'] at hclosed; cases hclosed
      · exact ⟨x, hx, rfl, hclosed⟩

/-- A ticket leaves OPEN (R72). -/
theorem Lawful.finish (h : u.Lawful) {t t' : Ticket} (ht : t ∈ u.tickets) (hn : t'.number = t.number) (hlaw : t'.Lawful)
    (ho : t.isOpen = true) (ho' : t'.isOpen = false) : (u.finish t').Lawful := by
  have uniq : ∀ x ∈ u.tickets, x.number = t'.number → x = t := fun x hx hx' => h.eq_of_number hx ht (hx'.trans hn)
  obtain ⟨hlen, htickets, hnodup, hpair, hfin, hiff, hcounter⟩ := h
  have notFinished : t'.number ∉ u.finished := fun hmem => by
    obtain ⟨x, hx, hx', hclosed⟩ := (hiff _).1 hmem
    rw [uniq x hx hx', ho] at hclosed
    cases hclosed
  refine ⟨by simpa [ApprovalUnit.finish, ApprovalUnit.put] using hlen, fun x hx => ?_,
    (put_numbers (u := u) t').symm ▸ hnodup,
    put_distinct hpair uniq fun ho'' => (by rw [ho'] at ho''; cases ho''),
    List.nodup_append.2 ⟨hfin, List.nodup_singleton _, fun a ha b hb hab => ?_⟩, fun n => ?_, hcounter⟩
  · rcases mem_put hx with rfl | ⟨hx, -⟩
    · exact hlaw
    · exact htickets x hx
  · rw [List.mem_singleton.1 hb] at hab
    exact notFinished (hab ▸ ha)
  · show n ∈ u.finished ++ [t'.number] ↔ ∃ x ∈ (u.put t').tickets, _
    rw [List.mem_append, List.mem_singleton, hiff]
    constructor
    · rintro (⟨x, hx, rfl, hclosed⟩ | rfl)
      · refine ⟨x, mem_put_of_mem hx fun hx' => ?_, rfl, hclosed⟩
        rw [uniq x hx hx', ho] at hclosed
        cases hclosed
      · exact ⟨t', mem_put_self ht hn.symm, rfl, ho'⟩
    · rintro ⟨x, hx, rfl, hclosed⟩
      rcases mem_put hx with rfl | ⟨hx, -⟩
      · exact .inr rfl
      · exact .inl ⟨x, hx, rfl, hclosed⟩

/-- A ticket leaves the table and the finished order (R78, R81). -/
theorem Lawful.remove (h : u.Lawful) (n : Nat) : (u.remove n).Lawful := by
  obtain ⟨hlen, htickets, hnodup, hpair, hfin, hiff, hcounter⟩ := h
  refine ⟨(List.length_filter_le _ _).trans hlen, fun x hx => htickets x (List.mem_of_mem_filter hx), ?_,
    hpair.sublist List.filter_sublist, hfin.filter _, fun m => ?_, hcounter⟩
  · exact hnodup.sublist (List.filter_sublist.map _)
  · simp only [ApprovalUnit.remove, List.mem_filter, hiff]
    constructor
    · rintro ⟨⟨x, hx, rfl, hclosed⟩, hne⟩
      exact ⟨x, ⟨hx, hne⟩, rfl, hclosed⟩
    · rintro ⟨x, ⟨hx, hne⟩, rfl, hclosed⟩
      exact ⟨⟨x, hx, rfl, hclosed⟩, hne⟩

/-- Room is made by the front of the finished order, which a full table with a finished ticket has (R78). -/
theorem Lawful.makeRoom (h : u.Lawful)
    (room : ¬ (u.tickets.length ≥ Config.maxTickets ∧ u.tickets.all Ticket.isOpen = true)) :
    u.makeRoom.Lawful ∧ u.makeRoom.tickets.length < 4 ∧ u.makeRoom.tickets.Sublist u.tickets := by
  unfold ApprovalUnit.makeRoom
  have hlaw := h
  obtain ⟨hlen, -, -, -, -, hiff, -⟩ := h
  split
  · next full =>
    have closed : ∃ t ∈ u.tickets, t.isOpen = false := by
      by_contra hall
      refine room ⟨full, List.all_eq_true.2 fun t ht => ?_⟩
      by_contra ho
      exact hall ⟨t, ht, by simpa using ho⟩
    obtain ⟨t, ht, ho⟩ := closed
    have mem : t.number ∈ u.finished := (hiff _).2 ⟨t, ht, rfl, ho⟩
    split
    · next hnil => rw [hnil] at mem; cases mem
    · next n rest hfin =>
      obtain ⟨x, hx, rfl, -⟩ := (hiff n).1 (hfin ▸ List.mem_cons_self)
      have dropped : (u.tickets.filter (·.number ≠ x.number)).length < u.tickets.length :=
        List.length_filter_lt_length_iff_exists.2 ⟨x, hx, by simp⟩
      exact ⟨hlaw.remove _, Nat.lt_of_lt_of_le dropped hlen, List.filter_sublist⟩
  · next notFull => exact ⟨hlaw, Nat.lt_of_not_le notFull, List.Sublist.refl _⟩

/-- A ticket joins a table with room under a number that no ticket bears (R74, R79). -/
theorem Lawful.addTicket (h : u.Lawful) (hroom : u.tickets.length < 4) {act : Action} {i : SlotId} {amount : BitVec 16}
    (window : Nat)
    (single : ∀ t ∈ u.tickets, t.isOpen = true → ¬ (t.action = act ∧ t.slot = i))
    (stored : act.Stores i amount) : (u.addTicket act i amount window).1.Lawful := by
  obtain ⟨hlen, htickets, hnodup, hpair, hfin, hiff, hcounter⟩ := h
  have start := nextNumber_range hcounter
  have range := (freeNumber_spec (u.tickets.map (·.number)) 5 (nextNumber u.counter) start).1
  have free := freeNumber_not_mem (used := u.tickets.map (·.number)) (by rw [List.length_map]; omega) start
  unfold ApprovalUnit.addTicket
  dsimp only
  generalize freeNumber (u.tickets.map (·.number)) 5 (nextNumber u.counter) = n at range free ⊢
  refine ⟨?_, fun x hx => ?_, ?_, ?_, hfin, fun m => ?_, range.2⟩
  · simp only [List.length_append, List.length_singleton]; omega
  · rcases List.mem_append.1 hx with hx | hx
    · exact htickets x hx
    · rw [List.mem_singleton.1 hx]
      exact stored.ticket_lawful range _
  · rw [List.map_append]
    refine List.nodup_append.2 ⟨hnodup, List.nodup_singleton _, fun a ha b hb hab => free ?_⟩
    rw [List.mem_singleton.1 hb] at hab
    rwa [show a = n from hab] at ha
  · refine List.pairwise_append.2 ⟨hpair, List.pairwise_singleton _ _, fun a ha b hb ho _ => ?_⟩
    rw [List.mem_singleton.1 hb]
    exact single a ha ho
  · rw [hiff]
    constructor
    · rintro ⟨x, hx, hrest⟩
      exact ⟨x, List.mem_append_left _ hx, hrest⟩
    · rintro ⟨x, hx, rfl, hclosed⟩
      rcases List.mem_append.1 hx with hx | hx
      · exact ⟨x, hx, rfl, hclosed⟩
      · rw [List.mem_singleton.1 hx] at hclosed
        cases hclosed

end ApprovalUnit

theorem Ticket.isOpen_iff {t : Ticket} : t.isOpen = true ↔ ∃ left, t.state = .stillOpen left := by
  unfold isOpen
  cases t.state <;> simp

/-- An OPEN ticket has at most one approval. -/
theorem Ticket.Lawful.approvals_of_open {t : Ticket} (h : t.Lawful) (ho : t.isOpen = true) : lineCount t.approvals ≤ 1 := by
  obtain ⟨-, -, hstate⟩ := h
  obtain ⟨left, hs⟩ := Ticket.isOpen_iff.1 ho
  rwa [hs] at hstate

/-- A ticket that leaves OPEN unexecuted with its approvals. -/
theorem Ticket.Lawful.failed {t : Ticket} (h : t.Lawful) (ho : t.isOpen = true) (r : FailReason) :
    Ticket.Lawful { t with state := .failed r } := by
  have count := h.approvals_of_open ho
  obtain ⟨hnum, hamount, -⟩ := h
  refine ⟨hnum, hamount, ?_⟩
  cases r with
  | declined => exact count
  | badState => exact count.trans (by decide)

namespace ApprovalUnit.Lawful

variable {u : ApprovalUnit}

/-- Several tickets fail one after the other (R89). -/
theorem failAll (h : u.Lawful) {l : List Ticket} (hl : l.Sublist u.tickets) (ho : ∀ t ∈ l, t.isOpen = true) :
    (l.foldl (fun u t => u.finish { t with state := .failed .badState }) u).Lawful := by
  have hnodup : (l.map (·.number)).Nodup := by
    obtain ⟨-, -, hnodup, -⟩ := h
    exact hnodup.sublist (hl.map _)
  have hmem : ∀ t ∈ l, t ∈ u.tickets := fun t ht => hl.subset ht
  clear hl
  induction l generalizing u with
  | nil => exact h
  | cons t l ih =>
    obtain ⟨hfresh, hnodup⟩ := List.nodup_cons.1 hnodup
    have ht := hmem t List.mem_cons_self
    have hopen := ho t List.mem_cons_self
    have hlaw : t.Lawful := h.2.1 t ht
    refine ih (h.finish (t := t) ht rfl (hlaw.failed hopen _) hopen rfl) (fun x hx => ho x (List.mem_cons_of_mem _ hx))
      hnodup fun x hx => ApprovalUnit.mem_put_of_mem (hmem x (List.mem_cons_of_mem _ hx)) fun hn => ?_
    exact hfresh (List.mem_map.2 ⟨x, hx, hn⟩)

/-- Every change of the approval table keeps its laws. -/
theorem move {d : DeviceState} {v : ApprovalUnit} (h : u.Lawful) (hm : Move d u v) : v.Lawful := by
  cases hm with
  | opening act i amount window room single stored _ =>
    obtain ⟨hroom, hlen, hsub⟩ := h.makeRoom room
    refine hroom.addTicket hlen window (fun t ht ho hsame => ?_) stored
    have := List.any_eq_false.1 single t (hsub.subset ht)
    simp [ho, hsame] at this
  | decline t ht ho => exact h.finish ht rfl (Ticket.Lawful.failed (h.2.1 t ht) ho _) ho rfl
  | expire t ht ho =>
    obtain ⟨hnum, hamount, -⟩ := h.2.1 t ht
    exact h.finish ht rfl ⟨hnum, hamount, rfl⟩ ho rfl
  | fail l hl ho => exact h.failAll hl ho
  | dismiss t => exact h.remove _

theorem moves {d : DeviceState} {v : ApprovalUnit} (h : u.Lawful) (hm : Moves d u v) : v.Lawful := by
  induction hm with
  | refl => exact h
  | tail _ hm ih => exact ih.move hm

/-- A table without tickets. -/
theorem of_no_tickets {c : Nat} (hc : c ≤ 255) : ApprovalUnit.Lawful { tickets := [], finished := [], counter := c } := by
  refine ⟨Nat.zero_le _, ?_, List.nodup_nil, List.Pairwise.nil, List.nodup_nil, ?_, hc⟩ <;> simp

end ApprovalUnit.Lawful

/-! ## The actions in a TAMPERED device's table (R73) -/

/-- In a TAMPERED device a table of CLEAR_TAMPER tickets stays one. -/
theorem ApprovalUnit.Moves.clearTamper {u v : ApprovalUnit} (hm : Moves .tampered u v)
    (h : ∀ t ∈ u.tickets, t.action = .clearTamper) : ∀ t ∈ v.tickets, t.action = .clearTamper := by
  have finish : ∀ {u : ApprovalUnit} {t : Ticket}, (∀ x ∈ u.tickets, x.action = .clearTamper) →
      t.action = .clearTamper → ∀ x ∈ (u.finish t).tickets, x.action = .clearTamper := fun hu ht x hx => by
    rcases mem_put hx with rfl | ⟨hx, -⟩
    · exact ht
    · exact hu x hx
  have failAll : ∀ (l : List Ticket) (u : ApprovalUnit), (∀ x ∈ u.tickets, x.action = .clearTamper) →
      (∀ t ∈ l, t.action = .clearTamper) →
      ∀ x ∈ (l.foldl (fun u t => u.finish { t with state := .failed .badState }) u).tickets,
        x.action = .clearTamper := fun l => by
    induction l with
    | nil => exact fun u hu _ => hu
    | cons t l ih =>
      exact fun u hu hl => ih _ (finish hu (hl t List.mem_cons_self)) fun x hx => hl x (List.mem_cons_of_mem _ hx)
  induction hm with
  | refl => exact h
  | @tail v w _ hm ih =>
    cases hm with
    | opening act i amount window _ _ _ device =>
      intro t ht
      rcases List.mem_append.1 ht with ht | ht
      · refine ih t ?_
        unfold makeRoom at ht
        split at ht
        · split at ht
          · exact ht
          · exact List.mem_of_mem_filter ht
        · exact ht
      · rw [List.mem_singleton.1 ht]
        exact device rfl
    | decline t ht => exact finish ih (ih t ht)
    | expire t ht => exact finish ih (ih t ht)
    | fail l hl => exact failAll l v ih fun t ht => ih t (hl.subset ht)
    | dismiss t => exact fun x hx => ih x (List.mem_of_mem_filter hx)

end Sys2Proof.Machine

/-! # What a command or event can do (chapters 1 to 8, 10 and 11)

Said once for every command and event but twelve, whose own rules change what no other changes: the queue, main power, the device
state, the Tamper Monitor, the settings and the alert mask stay, no event leaves the latched set, every slot goes through the
changes of `SlotChange`, the approval table through those of `ApprovalUnit.Move`. -/

namespace Sys2Proof.Machine

theorem failTickets_eq (l : List Ticket) (s : State) :
    l.foldl (fun s t => (s.setApproval (s.approval.finish { t with state := .failed .badState })).latch .ticketFailed) s =
      { s with
        approval := l.foldl (fun u t => u.finish { t with state := .failed .badState }) s.approval
        events :=
          { s.events with
            latched := if l = [] then s.events.latched else s.events.latched ||| Event.ticketFailed.bit } } := by
  induction l generalizing s with
  | nil => rfl
  | cons t l ih =>
    rw [List.foldl_cons, ih]
    simp only [List.foldl_cons, reduceCtorEq, if_false]
    split <;> simp [State.latch, State.setEvents, State.setApproval, BitVec.or_assoc]

/-- The tickets that name an emptied slot fail: the approval table and the latched set change (R89). -/
theorem failTicketsOn_eq (i : SlotId) (s : State) :
    failTicketsOn i s =
      { s with
        approval := (s.approval.openOn i).foldl (fun u t => u.finish { t with state := .failed .badState }) s.approval
        events :=
          { s.events with
            latched :=
              if s.approval.openOn i = [] then s.events.latched else s.events.latched ||| Event.ticketFailed.bit } } :=
  failTickets_eq _ s

/-- What every command and event keeps of the stored values, by its own rule apart, and how it may change the table. -/
structure Steady (s t : State) : Prop where
  pending : t.pending = s.pending
  settings : t.console.settings = s.console.settings
  mask : t.events.mask = s.events.mask
  latched : s.events.latched &&& t.events.latched = s.events.latched
  slots : ∀ i, SlotChanges (s.slot i) (t.slot i)

/-- What the ordinary commands and events keep beside, and how they may change the approval table. -/
structure Ordinary (s t : State) : Prop extends Steady s t where
  powered : t.powered = s.powered
  device : t.device = s.device
  tamper : t.tamper = s.tamper
  approval : ApprovalUnit.Moves s.device s.approval t.approval

namespace Ordinary

theorem of_keeps {s t : State} (h : Keeps s t) (m : TableMoves s t) : Ordinary s t where
  pending := h.pending
  settings := h.settings
  mask := h.mask
  latched := h.latched
  slots := fun i => (m.slot i).changes
  powered := h.powered
  device := h.device
  tamper := h.tamper
  approval := by rw [h.approval]

theorem refl (s : State) : Ordinary s s := of_keeps (.refl s) (.refl s)

theorem trans {s t u : State} (h : Ordinary s t) (k : Ordinary t u) : Ordinary s u where
  pending := k.pending.trans h.pending
  settings := k.settings.trans h.settings
  mask := k.mask.trans h.mask
  latched := by rw [← h.latched, BitVec.and_assoc, k.latched]
  slots := fun i => (h.slots i).trans (k.slots i)
  powered := k.powered.trans h.powered
  device := k.device.trans h.device
  tamper := k.tamper.trans h.tamper
  approval := h.approval.trans (h.device ▸ k.approval)

theorem foldl {α : Type} {f : State → α → State} (h : ∀ s a, Ordinary s (f s a)) (l : List α) (s : State) :
    Ordinary s (l.foldl f s) :=
  foldl_state (P := Ordinary s) (fun _ a ht => ht.trans (h _ a)) l (refl s)

/-! ### The parts of the state -/

variable {s t : State} (h : Ordinary s t)
include h

theorem setStation (st : StationId) (k : Station) : Ordinary s (t.setStation st k) :=
  h.trans (of_keeps (.setStation ..) (.of_table rfl))

theorem modifyStation (st : StationId) (f : Station → Station) : Ordinary s (t.modifyStation st f) := h.setStation ..

theorem setEngine (e : Engine) : Ordinary s (t.setEngine e) := h.trans (of_keeps (.setEngine ..) (.setEngine ..))

theorem latch (e : Event) : Ordinary s (t.latch e) := h.trans (of_keeps (.latch ..) (.latch ..))

theorem setLine (l : Line) (k : CustodianLine) : Ordinary s (t.setLine l k) :=
  ⟨⟨h.pending, h.settings, h.mask, h.latched, h.slots⟩, h.powered, h.device, h.tamper, h.approval⟩

theorem modifyLine (l : Line) (f : CustodianLine → CustodianLine) : Ordinary s (t.modifyLine l f) := h.setLine ..

theorem setChecker (x : IntegrityChecker) : Ordinary s (t.setChecker x) :=
  ⟨⟨h.pending, h.settings, h.mask, h.latched, h.slots⟩, h.powered, h.device, h.tamper, h.approval⟩

theorem setConsole {c : ConsoleLink} (hc : c.settings = t.console.settings) : Ordinary s (t.setConsole c) :=
  ⟨⟨h.pending, hc.trans h.settings, h.mask, h.latched, h.slots⟩, h.powered, h.device, h.tamper, h.approval⟩

theorem setSlot {i : SlotId} {x : Slot} (hx : SlotChange (t.slot i) x) : Ordinary s (t.setSlot i x) := by
  refine ⟨⟨h.pending, h.settings, h.mask, h.latched, fun j => ?_⟩, h.powered, h.device, h.tamper, h.approval⟩
  rw [slot_setSlot]
  split
  · next e => subst e; exact (h.slots j).tail hx
  · exact h.slots j

theorem modifySlot {i : SlotId} {f : Slot → Slot} (hf : SlotChange (t.slot i) (f (t.slot i))) :
    Ordinary s (t.modifySlot i f) := h.setSlot hf

theorem setApproval {u : ApprovalUnit} (hu : ApprovalUnit.Moves t.device t.approval u) : Ordinary s (t.setApproval u) :=
  ⟨⟨h.pending, h.settings, h.mask, h.latched, h.slots⟩, h.powered, h.device, h.tamper,
    h.approval.trans (h.device ▸ hu)⟩

/-! ### The shared operations -/

theorem check (i : SlotId) : Ordinary s (check i t) := h.trans (of_keeps (.check ..) (.check ..))

theorem search (found : Account → Bool) : Ordinary s (search found t).1 := h.trans (of_keeps (.search ..) (.search ..))

theorem settle : Ordinary s (settleEngine t) := h.trans (of_keeps (.settleEngine _) (.settleEngine _))

theorem surrender (d : Disposal) (st : StationId) (p : Package) {after : State → State} (hk : ∀ s, Keeps s (after s))
    (hm : ∀ s, TableMoves s (after s)) : Ordinary s (surrender d st p after t) :=
  h.trans (of_keeps (.surrender _ _ _ _ hk _) (.surrender _ _ _ hm _))

theorem quarantine (i : SlotId) : Ordinary s (quarantine [] i t) := h.trans (of_keeps (.quarantine ..) (.quarantine ..))

theorem transportLookup (b : SlotId) (x : TerminalId) :
    Ordinary s (transportLookup Machine.quarantine [] b x t).1 :=
  h.trans (of_keeps (.transportLookup .quarantine ..) (.transportLookup .quarantine ..))

theorem abandonJobs (p : Job → Bool) : Ordinary s (abandonJobs p t) := h.setEngine _

theorem placeJob (j : Job) : Ordinary s (placeJob j t) := h.setEngine _

theorem freeEngine : Ordinary s (freeEngine t) := h.setEngine _

theorem endVerify (o : VerifyOutcome) (i : SlotId) : Ordinary s (endVerify o i t) :=
  h.trans (of_keeps (.endVerify ..) (.endVerify ..))

theorem stopWork (st : StationId) : Ordinary s (stopWork st t) := (h.abandonJobs _).modifyStation ..

theorem hold (c : HoldCondition) (st : StationId) : Ordinary s (hold c st t) :=
  h.trans (of_keeps (.hold ..) (.hold ..))

theorem refuseService (c : HoldCondition) (st : StationId) : Ordinary s (refuseService c st t) :=
  h.trans (of_keeps (.refuseService ..) (.refuseService ..))

theorem leaveWaitingList (st : StationId) : Ordinary s (leaveWaitingList st t) :=
  h.trans (of_keeps (.leaveWaitingList ..) (.leaveWaitingList ..))

theorem setOutcome (l : Line) (i : SlotId) (o : LineOutcome) (c : Option (BitVec 24)) :
    Ordinary s (setOutcome l i o c t) := h.trans (of_keeps (.setOutcome ..) (.setOutcome ..))

theorem cancelLines (m : BitVec 3) (i : SlotId) : Ordinary s (cancelLines m i t) :=
  h.trans (of_keeps (.cancelLines ..) (.cancelLines ..))

theorem takeNumber {i : SlotId} {a : Account} {iss : Issuance} (ha : t.account i = some a)
    (hi : a.issuance = some iss) (hv : a.takeVerdict iss = .number) (st : StationId) (p : Protection) :
    Ordinary s (takeNumber i st p a iss t) :=
  h.trans (of_keeps (.takeNumber _ _ _ _ _ _ (by rw [ha]; rfl)) (.takeNumber ha hi hv ..))

theorem feed : Ordinary s (feed t) := h.setConsole rfl

/-- Tickets that fail in an event. -/
theorem failTicketsOn (i : SlotId) : Ordinary s (failTicketsOn i t) := by
  rw [failTicketsOn_eq]
  refine ⟨⟨h.pending, h.settings, h.mask, ?_, h.slots⟩, h.powered, h.device, h.tamper, h.approval.trans (.single ?_)⟩
  · dsimp only
    split
    · exact h.latched
    · exact (h.latch .ticketFailed).latched
  · refine .fail _ _ List.filter_sublist fun x hx => ?_
    simp only [ApprovalUnit.openOn, List.mem_filter, Bool.and_eq_true] at hx
    exact hx.2.1.1

end Ordinary

end Sys2Proof.Machine

namespace Sys2Proof.Machine

/-! ## The lines of an assembly (R52, R55) -/

/-- A component that passes the checks of R55 comes from a line that has no part in the record, whose quorum is not met. -/
theorem componentRefusal_none {l : Line} {c : ComponentOperands} {a : Option Account} {e : Engine}
    (h : componentRefusal l c a e = none) :
    ∃ b m, a = some b ∧ b.assembly = some m ∧ inLines l (m.contributed ||| m.reserved) = false ∧
      lineCount m.contributed + lineCount m.reserved < b.quorum.toNat := by
  unfold componentRefusal at h
  split at h; · cases h
  next b =>
  split at h; · cases h
  next m hm =>
  split at h; · cases h
  split at h; · cases h
  split at h; · cases h
  next hfree =>
  split at h; · cases h
  next hcount => exact ⟨b, m, rfl, hm, by simpa using hfree, Nat.lt_of_not_le hcount⟩

/-- A line outside the assembly is reserved: no line is then both contributed and reserved, and one more counts. -/
theorem reserve_lines {l : Line} {c r : BitVec 3} {q : Nat} (hd : c &&& r = 0) (hfree : inLines l (c ||| r) = false)
    (hq : lineCount c + lineCount r < q) :
    c &&& (r ||| lineBit l) = 0 ∧ lineCount c + lineCount (r ||| lineBit l) ≤ q := by
  have decided : ∀ (l : Line) (c r : BitVec 3), c &&& r = 0 → inLines l (c ||| r) = false →
      c &&& (r ||| lineBit l) = 0 ∧ lineCount (r ||| lineBit l) = lineCount r + 1 := by decide
  obtain ⟨disjoint, count⟩ := decided l c r hd hfree
  exact ⟨disjoint, by omega⟩

/-- A reserved line becomes a contributed one. -/
theorem contribute_lines {l : Line} {c r : BitVec 3} (hd : c &&& r = 0) (hr : inLines l r = true) :
    (c ||| lineBit l) &&& (r &&& ~~~ lineBit l) = 0 ∧
      lineCount (c ||| lineBit l) + lineCount (r &&& ~~~ lineBit l) = lineCount c + lineCount r := by
  have decided : ∀ (l : Line) (c r : BitVec 3), c &&& r = 0 → inLines l r = true →
      (c ||| lineBit l) &&& (r &&& ~~~ lineBit l) = 0 ∧
        lineCount (c ||| lineBit l) + lineCount (r &&& ~~~ lineBit l) = lineCount c + lineCount r := by decide
  exact decided l c r hd hr

/-- A reserved line is dropped. -/
theorem drop_line {l : Line} {c r : BitVec 3} (hd : c &&& r = 0) :
    c &&& (r &&& ~~~ lineBit l) = 0 ∧ lineCount (r &&& ~~~ lineBit l) ≤ lineCount r := by
  have decided : ∀ (l : Line) (c r : BitVec 3), c &&& r = 0 →
      c &&& (r &&& ~~~ lineBit l) = 0 ∧ lineCount (r &&& ~~~ lineBit l) ≤ lineCount r := by decide
  exact decided l c r hd

/-- ARM of a member by its state, then by its binding (R122). -/
theorem armMember_eq (st : StationId) (s : State) :
    armMember st s =
      match (s.station st).state with
      | .bound =>
        match (s.station st).base with
        | some i =>
          if ((check i s).station st).state = .bound then armBound ((check i s).account i) st (check i s)
          else (check i s, .badState)
        | none => (s, .badState)
      | .waiting => (s, .ok)
      | .unbound => (s, .badState)
      | .held => (s, .badState)
      | _ => (s, .busy) := by
  unfold armMember
  cases hs : (s.station st).state <;> cases hb : (s.station st).base <;> simp only [hs, hb]

/-! ## The owning rules -/

namespace Ordinary

variable {s t : State} (h : Ordinary s t)
include h

theorem treatEach {treat : StationId → State → State × AnswerCode}
    (ht : ∀ st u, Ordinary s u → Ordinary s (treat st u).1) (group : List StationId) :
    Ordinary s (treatEach treat group t).1 := treatEach_state (P := Ordinary s) ht group h

theorem foldl_of {α : Type} {f : State → α → State} (hf : ∀ u a, Ordinary s u → Ordinary s (f u a)) (l : List α) :
    Ordinary s (l.foldl f t) := foldl_state (P := Ordinary s) hf l h

/-- The stations' own changes at the end of a package's work. -/
theorem surrenderModify (d : Disposal) (st : StationId) (p : Package) (f : Station → Station) :
    Ordinary s (Machine.surrender d st p (fun s => s.modifyStation st f) t) :=
  h.surrender d st p (fun _ => .modifyStation ..) fun _ => .modifyStation ..

/-! ### Records -/

theorem readRecords (first count : Byte) : Ordinary s (readRecords first count t).state := by
  have summarised : ∀ (l : List SlotId) (u : State), Ordinary s u → Ordinary s (summariseSlots l u).1 := fun l => by
    induction l with
    | nil => exact fun _ hu => hu
    | cons i l ih => exact fun u hu => ih _ (hu.check i)
  refine withSlot_state (P := Ordinary s) h fun first => ?_
  dsimp only
  exact (summarised _ _ h).settle

theorem findRecord (found : Account → Bool) (data : SlotId → State → List Byte) :
    Ordinary s (findRecord found data t).state := by
  unfold Machine.findRecord
  dsimp only [reply]
  split <;> (dsimp only; exact (h.search found).settle)

theorem cancelAssembly (b : Byte) : Ordinary s (cancelAssembly b t).state := by
  refine withSlot_state (P := Ordinary s) h fun i => ?_
  have checked := h.check i
  dsimp only [reply]
  split
  · dsimp only; exact checked.settle
  · split
    · dsimp only
      exact (((checked.abandonJobs _).setSlot (.empty _)).cancelLines ..).settle
    · dsimp only; exact checked.settle

theorem narrow (b mask : Byte) : Ordinary s (narrow b mask t).state := by
  refine withSlot_state (P := Ordinary s) h fun i => ?_
  have checked := h.check i
  dsimp only [reply]
  split
  · dsimp only; exact checked.settle
  · next a ha =>
    split
    · dsimp only
      refine settle ?_
      have within : ∀ p q m : BitVec 4, p &&& m &&& ~~~ (p ||| q) = 0 := by decide
      have narrowed := checked.modifySlot (i := i)
        (f := fun sl => sl.update fun b => { b with permissions := a.permissions &&& mask.setWidth 4 })
        (.permit _ _ fun b hb => by
          rw [show (Machine.check i t).account i = some b from hb] at ha
          cases ha
          exact within ..)
      split
      · exact narrowed.foldl_of (fun u st hu => hu.modifyStation ..) _
      · exact narrowed
    · dsimp only; exact checked.settle

theorem moveRecord {source target : RecordState} (i : SlotId)
    (hc : ∀ sl : Slot, sl.recordState = some source → SlotChange sl (sl.update fun a => { a with state := target })) :
    Ordinary s (moveRecord i source target t).state := by
  have checked := h.check i
  unfold Machine.moveRecord
  dsimp only [reply]
  split
  · next hs => dsimp only; exact (checked.modifySlot (hc _ hs)).settle
  · dsimp only; exact checked.settle

theorem retire (b : Byte) : Ordinary s (retire b t).state := by
  refine withSlot_state (P := Ordinary s) h fun i => ?_
  have checked := h.check i
  dsimp only [reply]
  split
  · dsimp only; exact checked.settle
  · next a ha =>
    split
    · next hl =>
      split
      · dsimp only; exact checked.settle
      · dsimp only; exact (checked.modifySlot (.retire _ a ha hl)).settle
    · dsimp only; exact checked.settle

theorem release (b : Byte) : Ordinary s (release b t).state := by
  refine withSlot_state (P := Ordinary s) h fun i => ?_
  have checked := h.check i
  dsimp only [reply]
  split
  · split
    · dsimp only; exact checked.settle
    · dsimp only; exact ((checked.setSlot (.empty _)).failTicketsOn i).settle
  · dsimp only; exact checked.settle

theorem verify (b : Byte) : Ordinary s (verify b t).state := by
  refine withSlot_state (P := Ordinary s) h fun i => ?_
  split
  · exact h
  · have checked := h.check i
    dsimp only [reply]
    split
    · dsimp only; exact checked.settle
    · split
      · dsimp only
        have pending := checked.setConsole (c := { (Machine.check i t).console with verifyPending := true }) rfl
        exact (pending.placeJob _).settle
      · dsimp only; exact checked.settle

/-! ### Stations -/

theorem bindMember (i : SlotId) (m : Mode) (st : StationId) : Ordinary s (bindMember i m st t).1 := by
  unfold Machine.bindMember
  dsimp only
  split
  · exact h.setStation ..
  · exact h.setStation ..
  · exact h
  · exact h

theorem bind (set slot mode : Byte) : Ordinary s (bind set slot mode t).state := by
  refine withStations_state (P := Ordinary s) h fun group => withSlot_state (P := Ordinary s) h fun i => ?_
  split
  · exact h
  · have checked := h.check i
    dsimp only [reply]
    split
    · dsimp only; exact checked.settle
    · rw [memberReply_state]
      exact (checked.treatEach (fun _ _ hu => hu.bindMember ..) group).settle

theorem unbindMember (st : StationId) : Ordinary s (unbindMember st t).1 := by
  unfold Machine.unbindMember
  dsimp only
  split
  · exact h.setStation ..
  · exact h
  · exact h

theorem unbind (set : Byte) : Ordinary s (unbind set t).state :=
  withStations_state (P := Ordinary s) h fun group => h.treatEach (fun st _ hu => hu.unbindMember st) group

theorem armBound (a : Option Account) (st : StationId) : Ordinary s (armBound a st t).1 := by
  unfold Machine.armBound
  extract_lets k lacksLine armed
  split
  · exact h
  · exact h.setStation ..

theorem armMember (st : StationId) : Ordinary s (armMember st t).1 := by
  rw [armMember_eq]
  split
  · split
    · split
      · exact (h.check _).armBound ..
      · exact h.check _
    · exact h
  all_goals exact h

theorem arm (set : Byte) : Ordinary s (arm set t).state := by
  refine withStations_state (P := Ordinary s) h fun group => ?_
  rw [memberReply_state]
  exact (h.treatEach (fun st _ hu => hu.armMember st) group).settle

theorem disarm (set : Byte) : Ordinary s (disarm set t).state := by
  refine withStations_state (P := Ordinary s) h fun group => h.treatEach (fun st u hu => ?_) group
  unfold disarmMember
  split
  · exact hu
  · exact hu.modifyStation ..

theorem abortGroup (group : List StationId) : Ordinary s (abortGroup group t).1 := by
  unfold Machine.abortGroup
  dsimp only
  have left : Ordinary s (stalledLeave group t) := h.foldl_of (fun u st hu => by
    split
    · exact hu.leaveWaitingList st
    · exact hu) group
  refine left.treatEach (fun st u hu => ?_) _
  unfold abortMember abortStation
  split
  · dsimp only
    split
    · exact (hu.stopWork st).surrenderModify ..
    · exact (hu.stopWork st).modifyStation ..
  · exact hu

theorem abort (set : Byte) : Ordinary s (abort set t).state := by
  refine withStations_state (P := Ordinary s) h fun group => ?_
  rw [memberReply_state]
  exact (h.abortGroup group).settle

theorem clearHold (set conditions : Byte) : Ordinary s (clearHold set conditions t).state := by
  refine withStations_state (P := Ordinary s) h fun group => ?_
  split
  · exact h
  · refine h.treatEach (fun st u hu => ?_) group
    rw [clearHoldMember_eq]
    exact hu.modifyStation ..

theorem readStations (set : Byte) : Ordinary s (readStations set t).state := by
  refine withStations_state (P := Ordinary s) h fun group => ?_
  split <;> exact h

theorem disarmStations (group : List StationId) : Ordinary s (disarmStations group t) :=
  h.foldl_of (fun _ _ hu => hu.modifyStation ..) group

theorem abortAll : Ordinary s (abortAll t) := by
  unfold Machine.abortAll
  dsimp only
  exact ((h.abortGroup _).disarmStations _).settle

theorem lapse : Ordinary s (lapse t) := by
  unfold Machine.lapse
  exact foldl_of ((h.setConsole (c := { t.console with supervision := .lapsed }) rfl).latch .supervisionLapsed)
    (fun _ _ hu => hu.modifyStation ..) _

/-! ### Tickets -/

/-- OPEN_TICKET of an action that the device state admits. -/
theorem openOn {act : Action} {i : SlotId} {amount : BitVec 16} (hd : t.device = .tampered → act = .clearTamper)
    (hs : act.Stores i amount) : Ordinary s (openOn act i amount t).state := by
  have tested : Ordinary s (precondition act i t).1 ∧ (precondition act i t).1.device = t.device := by
    unfold precondition
    split
    · exact ⟨h, rfl⟩
    · exact ⟨h.check i, (Keeps.check i t).device⟩
  have settled := tested.1.settle
  have device := (Keeps.settleEngine (precondition act i t).1).device.trans tested.2
  unfold Machine.openOn
  dsimp only
  generalize settleEngine (precondition act i t).1 = u at settled device ⊢
  split
  · exact settled
  · split
    · exact settled
    · split
      · exact settled
      · next single room =>
        exact settled.setApproval
          (.single (.opening _ _ _ _ _ room (by simpa using single) hs (device ▸ hd)))

theorem openTicket {actByte slotByte : Byte} {amount : BitVec 16}
    (hd : t.device = .tampered → actByte = Action.clearTamper.code) :
    Ordinary s (openTicket actByte slotByte amount t).state := by
  unfold Machine.openTicket
  split
  · exact h
  · exact h.openOn (fun _ => rfl) ⟨rfl, rfl⟩
  · next act hne hact =>
    have device : t.device = .tampered → act = .clearTamper := fun ht => by
      rw [hd ht] at hact
      exact (Option.some_inj.1 hact).symm
    refine withSlot_state (P := Ordinary s) h fun i => ?_
    split
    · exact h
    · next stored hstored =>
      refine h.openOn device ?_
      cases act with
      | clearTamper => exact absurd rfl hne
      | grant =>
        simp only [storedAmount, Option.ite_none_left_eq_some, Option.some_inj] at hstored
        exact hstored.2 ▸ hstored.1
      | widen =>
        simp only [storedAmount, Option.ite_none_left_eq_some, Option.some_inj, not_or] at hstored
        obtain ⟨⟨hz, hlt⟩, rfl⟩ := hstored
        exact ⟨hz, Nat.lt_of_not_le hlt⟩
      | forceRetire | releaseQuarantined => exact (Option.some_inj.1 hstored).symm

theorem dismissTicket (n : Byte) : Ordinary s (dismissTicket n t).state := by
  unfold Machine.dismissTicket
  split
  · exact h
  · next x hx =>
    split
    · exact h
    · next hc =>
      obtain ⟨hmem, hnum⟩ := ApprovalUnit.find?_eq_some hx
      refine h.setApproval (.single ?_)
      rw [← hnum]
      exact .dismiss _ x hmem (by simpa using hc)

theorem decline (n : Byte) : Ordinary s (decline n t).1 := by
  refine ticketRequest_state (P := Ordinary s) h fun _ x hx => ?_
  split
  · exact h
  · exact h
  · exact h
  · next left hs =>
    exact (h.setApproval (.single (.decline _ x (ApprovalUnit.find?_eq_some hx).1
      (Ticket.isOpen_iff.2 ⟨left, hs⟩)))).latch _

theorem expireTicket (n : Nat) : Ordinary s (expireTicket n t) := by
  unfold Machine.expireTicket
  split
  · exact h
  · next x hx =>
    split
    · next ho => exact (h.setApproval (.single (.expire _ x (ApprovalUnit.find?_eq_some hx).1 ho))).latch _
    · exact h

/-! ### Components -/

theorem component (l : Line) (c : ComponentOperands) : Ordinary s (component l c t).1 := by
  unfold Machine.component
  split
  · exact h
  · exact h
  · split
    · exact h
    · next i _ =>
      have checked := h.check i
      dsimp only
      split
      · dsimp only; exact checked.settle
      · next taken =>
        dsimp only
        refine settle ?_
        unfold takeComponent
        dsimp only
        obtain ⟨a, m, ha, hm, hfree, hcount⟩ := componentRefusal_none taken
        refine Ordinary.modifyLine (Ordinary.placeJob (checked.modifySlot ?_) _) ..
        have ha' : ((Machine.check i t).slot i).account = some a := ha
        have same : ((Machine.check i t).slot i).update
            (·.mapAssembly fun m => { m with reserved := m.reserved ||| lineBit l }) =
              ((Machine.check i t).slot i).write { a with assembly := some { m with reserved := m.reserved ||| lineBit l } }
                ((Machine.check i t).slot i).secret := by
          simp only [Slot.update, ha', Account.mapAssembly, hm, Option.map_some]
        rw [same]
        exact .assemble _ a m _ _ ha' hm fun hd _ => reserve_lines hd hfree hcount

theorem lineStatus (l : Line) : Ordinary s (lineStatus l t).1 := by
  unfold Machine.lineStatus
  dsimp only
  split
  · exact (h.check _).settle
  · exact h

end Ordinary

end Sys2Proof.Machine

namespace Sys2Proof.Machine

theorem takeVerdict_stall {a : Account} {s : Issuance} (h : a.takeVerdict s = .stall) : a.state = .active := by
  unfold Account.takeVerdict at h
  split at h
  · cases h
  · next hs => exact not_not.1 hs

/-- An owning rule is asked only when the command is taken and the device state passes it (R179, R181). -/
theorem consoleCommand_admitted_state {P : State → Prop} {s : State} {α : Type} {kind : Byte} {p : Payload} {o : Option α}
    {f : α → State → Reply} (deliver : ∀ r, P r.state → P (deliver kind r)) (hs : P s)
    (h : ∀ x, o = some x → s.takesCommand = true → admits s.device kind p = true → P (f x s).state) :
    P (consoleCommand kind p (o.map f) s) := by
  unfold consoleCommand
  split
  · next taken =>
    cases ho : o with
    | none => exact deliver _ hs
    | some x =>
      simp only [Option.map_some]
      split
      · next admitted => exact deliver _ (h x ho taken admitted)
      · exact deliver _ hs
  · exact hs

namespace Ordinary

variable {s t : State} (h : Ordinary s t)
include h

/-! ### The dialogue with a terminal -/

theorem removePackage (st : StationId) : Ordinary s (removePackage st t) := by
  unfold Machine.removePackage
  dsimp only
  refine settle ?_
  split
  · exact (h.stopWork st).surrenderModify ..
  · exact (h.stopWork st).modifyStation ..

theorem removeTerminal (st : StationId) : Ordinary s (removeTerminal st t) := by
  unfold Machine.removeTerminal
  split
  case h_1 | h_2 | h_3 => exact h
  case h_4 | h_9 | h_10 => exact h.modifyStation ..
  case h_5 => exact (h.leaveWaitingList st).modifyStation ..
  case h_6 | h_7 | h_8 => exact h.removePackage st

theorem dismissTerminal (e : Event) (st : StationId) : Ordinary s (dismissTerminal e st t) :=
  (h.modifyStation ..).latch e

theorem takeAtIdentity (i : SlotId) (st : StationId) (p : Protection) : Ordinary s (takeAtIdentity i st p t) := by
  unfold Machine.takeAtIdentity
  split
  · exact h.refuseService ..
  · next a ha =>
    split
    · exact h.refuseService ..
    · next iss hi =>
      split
      · exact h.refuseService ..
      · next hv =>
        have stall : SlotChange (t.slot i) { t.slot i with waiting := (t.slot i).waiting ++ [st] } := by
          have active : a.state = .active := takeVerdict_stall hv
          have base := Account.issuance_eq_some.1 hi
          exact .stall _ a st ha (by rw [base]; rfl) (by rw [active]; rfl)
        exact ((h.modifySlot (f := fun sl => { sl with waiting := sl.waiting ++ [st] }) stall).modifyStation ..).latch _
      · next hv => exact h.takeNumber ha hi hv ..

theorem serveTerminal (i : SlotId) (st : StationId) (x : TerminalId) : Ordinary s (serveTerminal i st x t) := by
  unfold Machine.serveTerminal
  dsimp only
  split
  · exact (h.transportLookup ..).refuseService ..
  · exact (h.transportLookup ..).takeAtIdentity ..

theorem takeIdentity (st : StationId) (x : TerminalId) : Ordinary s (takeIdentity st x t) := by
  have identified := h.modifyStation st fun k => { k with timer := .stopped, identity := some x }
  unfold Machine.takeIdentity
  dsimp only
  split
  · exact identified
  · next i _ =>
    have checked := identified.check i
    split
    · split
      · exact checked
      · split
        · exact (checked.dismissTerminal ..).settle
        · exact (checked.serveTerminal ..).settle
    · exact checked.settle

theorem stopTimer (st : StationId) : Ordinary s (stopTimer st t) := h.modifyStation ..

/-- A number voided at the end of a dialogue. -/
theorem surrenderVoid (d : Disposal) (st : StationId) (p : Package) (c : HoldCondition) :
    Ordinary s (Machine.surrender d st p (voidAndHold c st) t) :=
  h.surrender d st p (fun _ => (Keeps.placeClose ..).trans (.hold ..)) fun _ => (TableMoves.placeClose ..).trans (.hold ..)

theorem takeReceipt (st : StationId) (r : BitVec 64 × BitVec 24) : Ordinary s (takeReceipt st r t) := by
  have stopped := h.stopTimer st
  unfold Machine.takeReceipt
  dsimp only
  split
  · exact stopped
  · split
    · exact (stopped.surrenderModify ..).settle
    · exact (stopped.surrenderVoid ..).settle

theorem takeRefusal (st : StationId) : Ordinary s (takeRefusal st t) := by
  have stopped := h.stopTimer st
  unfold Machine.takeRefusal
  dsimp only
  split
  · exact stopped
  · exact (stopped.surrender _ _ _ (fun _ => (Keeps.modifyStation ..).trans (.latch ..))
      fun _ => (TableMoves.modifyStation ..).trans (.latch ..)).settle

theorem expireReceipt (st : StationId) : Ordinary s (expireReceipt st t) := by
  have stopped := h.stopTimer st
  unfold Machine.expireReceipt
  dsimp only
  split
  · exact stopped
  · exact (stopped.surrenderVoid ..).settle

/-! ### The completion of jobs -/

theorem applyComponentCheck (l : Line) (i : SlotId) (k : Key) (carried : BitVec 24) :
    Ordinary s (applyComponentCheck l i k carried t) := by
  have checked := h.check i
  unfold Machine.applyComponentCheck
  dsimp only
  split
  · exact checked
  · next a ha =>
    split
    · exact checked
    · next m hm =>
      split
      · next hc =>
        have ha' : ((Machine.check i t).slot i).account = some a := ha
        split
        · have accepted : SlotChange ((Machine.check i t).slot i)
              (((Machine.check i t).slot i).write (a.acceptComponent l (checkValue k))
                (((Machine.check i t).slot i).secret.map (·.xor k))) := by
            unfold Account.acceptComponent Account.mapAssembly
            rw [hm]
            refine .assemble _ a m _ _ ha' hm fun hd hq => ?_
            obtain ⟨disjoint, count⟩ := contribute_lines hd hc.2
            exact ⟨disjoint, count ▸ hq⟩
          unfold Machine.acceptComponent
          dsimp only
          have written := (checked.modifySlot
            (f := fun sl => sl.write (a.acceptComponent l (checkValue k)) (sl.secret.map (·.xor k))) accepted).setOutcome
              l i .accepted none
          split
          · exact written.placeJob _
          · exact written
        · have dropped : SlotChange ((Machine.check i t).slot i)
              (((Machine.check i t).slot i).write (a.refuseComponent l) ((Machine.check i t).slot i).secret) := by
            unfold Account.refuseComponent Account.mapAssembly
            rw [hm]
            refine .assemble _ a m _ _ ha' hm fun hd hq => ?_
            obtain ⟨disjoint, count⟩ := drop_line (l := l) hd
            exact ⟨disjoint, (Nat.add_le_add_left count _).trans hq⟩
          exact ((checked.modifySlot (f := fun sl => sl.write (a.refuseComponent l) sl.secret) dropped).setOutcome
            l i .checkMismatch none).latch _
      · exact checked

theorem applyKeyCheck (l : Line) (i : SlotId) (acc : Key) : Ordinary s (applyKeyCheck l i acc t) := by
  have checked := h.check i
  unfold Machine.applyKeyCheck
  dsimp only
  split
  · next hs => exact ((checked.modifySlot (.complete _ acc hs)).setOutcome ..).latch _
  · exact checked

theorem applyVerify (i : SlotId) (key : Key) : Ordinary s (applyVerify i key t) := by
  have checked := h.check i
  unfold Machine.applyVerify
  dsimp only
  split
  · exact checked.endVerify ..
  · split
    · split
      · exact checked.endVerify ..
      · exact (checked.endVerify ..).quarantine i
    · exact checked.endVerify ..

theorem completion (delivery : Job → Copies → Option (State → State))
    (hd : ∀ j c apply, delivery j c = some apply → ∀ u, Ordinary s u → Ordinary s (apply u)) :
    Ordinary s (completion delivery t) :=
  completion_state (P := Ordinary s) h fun _ apply _ ha => (hd _ _ apply ha _ h.freeEngine).settle

/-! ### The integrity checker -/

theorem storageError (i : SlotId) (changes : List (Nat × Word32)) :
    Ordinary s (t.modifySlot i fun sl =>
      match sl.account with
      | none => sl
      | some _ => { sl with words := alterWords sl.words changes }) := by
  have altered (sl : Slot) (used : sl.account.isSome) : SlotChange sl (match sl.account with
      | none => sl
      | some _ => { sl with words := alterWords sl.words changes }) := by
    obtain ⟨_ | a, words, waiting⟩ := sl
    · cases used
    · exact .alter _ _ rfl
  cases ha : (t.slot i).account with
  | none =>
    have same : (t.modifySlot i fun sl =>
        match sl.account with
        | none => sl
        | some _ => { sl with words := alterWords sl.words changes }) = t := by
      simp only [State.modifySlot, ha, setSlot_slot]
    rwa [same]
  | some a => exact h.modifySlot (altered _ (by rw [ha]; rfl))

theorem sweep : Ordinary s (sweep t) := by
  unfold Machine.sweep
  split
  · exact h.setChecker _
  · exact ((h.setChecker _).check _).settle

/-! ### The forms of commands -/

/-- An event that may be passed over. -/
theorem ite {c : Prop} [Decidable c] {u : State} (hu : Ordinary s u) : Ordinary s (if c then u else t) := by
  split
  · exact hu
  · exact h

omit h in
theorem deliver {r : Reply} (hr : Ordinary s r.state) (kind : Byte) : Ordinary s (deliver kind r) :=
  Ordinary.setConsole (Ordinary.feed hr) rfl

omit h in
theorem consoleCommand {α : Type} {kind : Byte} {p : Payload} {o : Option α} {f : α → State → Reply}
    (hf : ∀ x, o = some x → Ordinary s (f x s).state) : Ordinary s (consoleCommand kind p (o.map f) s) :=
  consoleCommand_map_state (P := Ordinary s) (fun _ hr => deliver hr kind) (refl s) hf

omit h in
theorem custodianRequest {α : Type} {l : Line} {kind : Byte} {o : Option α}
    {f : α → State → State × AnswerCode × List Byte} (hf : ∀ x, Ordinary s (f x s).1) :
    Ordinary s (custodianRequest l kind (o.map f) s) :=
  custodianRequest_map_state (P := Ordinary s) (fun _ k ht => ht.setLine l k) ((refl s).latch _) (refl s) fun x _ => hf x

omit h in
theorem terminalFrame {α : Type} {st : StationId} {awaited : StationState} {o : Option α}
    {taken : α → State → State} (ht : ∀ x, Ordinary s (taken x s)) : Ordinary s (terminalFrame st awaited o taken s) :=
  terminalFrame_state (P := Ordinary s) ((refl s).latch _) (refl s) fun _ _ _ _ x _ => ht x

omit h in
theorem broadcastCommand {p : Payload} {effect : State → State} (he : Ordinary s (effect s)) :
    Ordinary s (broadcastCommand p effect s) := by
  refine broadcast_state (P := Ordinary s) (fun _ ht => ht.feed) (refl s) ?_
  split
  · exact (refl s).latch _
  · split
    · exact he
    · exact refl s

end Ordinary

/-- The commands and events whose own rules change the queue, main power, the device state, the Tamper Monitor, the stored
values or the names in the table, and APPROVE, whose ticket leaves OPEN with its second approval. -/
def isOrdinary : Instr → Bool
  | .setSettings _ | .setAlertMask _ | .readEvents _ | .create _ | .approve _ _ | .consoleAnswerEnd _ _ | .powerOn _ _ _
  | .powerDown | .startUpCheckCompletion | .tamperCause _ | .tamperInputInactive _ | .temperatureReading _ => false
  | _ => true

/-- What an ordinary command or event can do. -/
theorem exec_ordinary {c : Instr} (hc : isOrdinary c = true) {s t : State} (h : exec c s = .next t) : Ordinary s t := by
  have same : Ordinary s s := .refl s
  cases c
  case setSettings | setAlertMask | readEvents | create | approve | consoleAnswerEnd | powerOn | powerDown |
      startUpCheckCompletion | tamperCause | tamperInputInactive | temperatureReading => cases hc
  case status | readSettings | restart | readTickets => cases h; exact Ordinary.consoleCommand fun _ _ => same
  case ackRestart =>
    cases h
    exact Ordinary.consoleCommand fun _ _ =>
      ⟨⟨rfl, rfl, rfl, by simp [ackRestart, reply], fun _ => .refl⟩, rfl, rfl, rfl, .refl⟩
  case readRecords => cases h; exact Ordinary.consoleCommand fun _ _ => same.readRecords ..
  case findLabel =>
    cases h
    refine Ordinary.consoleCommand fun l _ => ?_
    unfold findLabel
    split
    · exact same.findRecord ..
    · exact same
  case findModel =>
    cases h
    refine Ordinary.consoleCommand fun x _ => ?_
    dsimp only [findModel]
    split
    · exact same
    · exact same.findRecord ..
  case cancelAssembly => cases h; exact Ordinary.consoleCommand fun _ _ => same.cancelAssembly _
  case narrow => cases h; exact Ordinary.consoleCommand fun _ _ => same.narrow ..
  case suspend =>
    cases h
    exact Ordinary.consoleCommand fun _ _ => withSlot_state (P := Ordinary s) same fun i => same.moveRecord i fun sl => .suspend sl
  case resume =>
    cases h
    exact Ordinary.consoleCommand fun _ _ => withSlot_state (P := Ordinary s) same fun i => same.moveRecord i fun sl => .resume sl
  case retire => cases h; exact Ordinary.consoleCommand fun _ _ => same.retire _
  case release => cases h; exact Ordinary.consoleCommand fun _ _ => same.release _
  case verify => cases h; exact Ordinary.consoleCommand fun _ _ => same.verify _
  case openTicket p =>
    cases h
    refine consoleCommand_admitted_state (P := Ordinary s) (fun _ hr => Ordinary.deliver hr _) same
      fun q hq _ admitted => same.openTicket fun tampered => ?_
    obtain rfl : p = q := by
      simp only [exactly, Option.ite_none_right_eq_some] at hq
      exact Option.some_inj.1 hq.2
    simpa [admits, tampered, Kind.openTicket, Kind.status, Kind.readEvents, Kind.readTickets, Kind.readSettings,
      Kind.dismissTicket] using admitted
  case dismissTicket => cases h; exact Ordinary.consoleCommand fun _ _ => same.dismissTicket _
  case bind => cases h; exact Ordinary.consoleCommand fun _ _ => same.bind ..
  case unbind => cases h; exact Ordinary.consoleCommand fun _ _ => same.unbind _
  case arm => cases h; exact Ordinary.consoleCommand fun _ _ => same.arm _
  case disarm => cases h; exact Ordinary.consoleCommand fun _ _ => same.disarm _
  case abort => cases h; exact Ordinary.consoleCommand fun _ _ => same.abort _
  case clearHold => cases h; exact Ordinary.consoleCommand fun _ _ => same.clearHold ..
  case readStations => cases h; exact Ordinary.consoleCommand fun _ _ => same.readStations _
  case disarmAll => cases h; exact Ordinary.broadcastCommand (same.disarmStations _)
  case abortAll => cases h; exact Ordinary.broadcastCommand same.abortAll
  case unknownCommand kind p =>
    cases h
    split
    · exact same
    · exact same.ite (Ordinary.deliver same kind)
  case consoleFrameError => cases h; exact same.ite ((same.setConsole (c := { s.console with receiver := .hunting }) rfl).latch _)
  case broadcastDiscard kind p =>
    cases h
    split
    · exact same
    · exact broadcast_state (P := Ordinary s) (fun _ ht => ht.feed) same (same.latch _)
  case supervisionLapse =>
    cases h
    refine same.ite ?_
    split
    · exact same.lapse
    · exact same
  case component => cases h; exact Ordinary.custodianRequest fun _ => same.component ..
  case lineStatus => cases h; exact Ordinary.custodianRequest fun _ => same.lineStatus _
  case ticketQuery =>
    cases h
    exact Ordinary.custodianRequest fun _ => ticketRequest_state (P := Ordinary s) same fun _ _ _ => same
  case decline => cases h; exact Ordinary.custodianRequest fun _ => same.decline _
  case custodianFrameError => cases h; exact same.ite ((same.modifyLine ..).latch _)
  case custodianAnswerEnd => cases h; exact same.ite (same.modifyLine ..)
  case ticketExpiry n => cases h; exact same.ite (same.expireTicket n)
  case componentCheckDone =>
    cases h
    refine same.completion _ fun j c apply ha u hu => ?_
    split at ha
    · cases ha; exact hu.applyComponentCheck ..
    · cases ha
  case keyCheckDone =>
    cases h
    refine same.completion _ fun j c apply ha u hu => ?_
    split at ha
    · cases ha; exact hu.applyKeyCheck ..
    · cases ha
  case packageJobDone =>
    cases h
    refine same.completion _ fun j c apply ha u hu => ?_
    split at ha
    · cases ha; exact hu.modifyStation ..
    · cases ha
  case verifyJobDone =>
    cases h
    refine same.completion _ fun j c apply ha u hu => ?_
    split at ha
    · cases ha; exact hu.applyVerify ..
    · cases ha
  case discardedJobDone =>
    cases h
    refine same.ite ?_
    split
    · exact same.ite same.freeEngine.settle
    · exact same
  case present | endOfTransmission | stationFrameSent => cases h; exact same.ite (same.modifyStation ..)
  case absent st =>
    cases h
    refine same.ite ?_
    dsimp only
    split
    · exact (same.modifyStation ..).removeTerminal st
    · exact same.modifyStation ..
  case identity => cases h; exact Ordinary.terminalFrame fun _ => same.takeIdentity ..
  case receipt => cases h; exact Ordinary.terminalFrame fun _ => same.takeReceipt ..
  case refuse => cases h; exact Ordinary.terminalFrame fun _ => same.takeRefusal _
  case stationFrameError =>
    cases h
    refine same.ite ?_
    dsimp only
    split
    · exact (same.modifyStation ..).latch _
    · exact same.modifyStation ..
  case identityTimerExpiry => cases h; exact same.ite (same.dismissTerminal ..)
  case receiptTimerExpiry => cases h; exact same.ite (same.expireReceipt _)
  case storageError i changes => cases h; exact same.storageError i changes
  case sweepTimerExpiry => cases h; exact same.ite same.sweep

end Sys2Proof.Machine

namespace Sys2Proof.Machine

/-! ## APPROVE and the execution of tickets (R84, R88) -/

section
variable {s t : State} (h : Ordinary s t)
include h

/-- The check of a precondition (R77). -/
theorem Ordinary.precondition (act : Action) (i : SlotId) : Ordinary s (precondition act i t).1 := by
  unfold Machine.precondition
  split
  · exact h
  · exact h.check i

theorem Ordinary.forceUnbind (st : StationId) : Ordinary s (forceUnbind st t) := (h.abandonJobs _).modifyStation ..

theorem Ordinary.forceUser (i : SlotId) (st : StationId) : Ordinary s (forceUser i st t) := by
  unfold Machine.forceUser
  split
  · exact h
  · split
    · exact (h.stopWork st).surrender _ _ _ (fun _ => .modifyStation ..) fun _ => .modifyStation ..
    · exact h

/-- The work of FORCE_RETIRE on a record that holds its key (R91, R93). -/
theorem Ordinary.executeForceRetire {i : SlotId} {a : Account} (ha : t.account i = some a) (hl : a.state.isLive = true) :
    Ordinary s (executeForceRetire i t) := by
  unfold Machine.executeForceRetire
  rw [ha]
  dsimp only
  split
  · unfold Machine.forceRetireBase
    dsimp only
    generalize allStations.filter _ = group
    have stopped : ((group.foldl (fun s st => Machine.forceUnbind st s) t).slot i) = t.slot i :=
      foldl_state (f := fun s st => Machine.forceUnbind st s) (P := fun u => u.slot i = t.slot i)
        (fun _ _ hu => hu) group rfl
    refine Ordinary.modifySlot (foldl_state (P := Ordinary s) (fun u st hu => hu.forceUnbind st) group h) ?_
    rw [stopped]
    exact .forceRetire _ a ha hl
  · unfold Machine.forceRetireTransport
    dsimp only
    exact foldl_state (P := Ordinary s) (fun u st hu => hu.forceUser i st) _ (h.modifySlot (.retire _ a ha hl))

/-- The effect of a record action whose precondition holds (R88). -/
theorem Ordinary.applyAction {k : Ticket} (hk : k.action ≠ .clearTamper)
    (admitted : k.action.admitsRecord (t.account k.slot) = true) : Ordinary s (applyAction k t) := by
  unfold Machine.applyAction
  cases hact : k.action with
  | grant => exact h.modifySlot (.grant ..)
  | widen => exact h.modifySlot (.permit _ _ fun a _ => by ext j; simp +contextual)
  | forceRetire =>
    rw [hact] at admitted
    cases ha : t.account k.slot with
    | none => rw [ha] at admitted; cases admitted
    | some a =>
      rw [ha] at admitted
      exact h.executeForceRetire ha admitted
  | releaseQuarantined => exact h.setSlot (.empty _)
  | clearTamper => exact absurd hact hk

end

/-- No action touches the approval table. -/
theorem applyAction_approval (k : Ticket) (s : State) : (applyAction k s).approval = s.approval := by
  have user : ∀ i st (u : State), (forceUser i st u).approval = u.approval := fun i st u => by
    unfold forceUser
    split
    · rfl
    · split
      · exact (Keeps.surrender .void st _ _ (fun _ => .modifyStation ..) (stopWork st u)).approval
      · rfl
  unfold applyAction
  split
  case h_3 =>
    unfold executeForceRetire
    split
    · rfl
    · split
      · exact foldl_state (f := fun s st => forceUnbind st s) (P := fun u => u.approval = s.approval)
          (fun _ _ hu => hu) _ rfl
      · exact foldl_state (f := fun s st => forceUser k.slot st s) (P := fun u => u.approval = s.approval)
          (fun u st hu => (user _ st u).trans hu) _ rfl
  all_goals rfl

theorem precondition_approval (act : Action) (i : SlotId) (s : State) : (precondition act i s).1.approval = s.approval := by
  unfold precondition
  split
  · rfl
  · exact (Keeps.check i s).approval

theorem precondition_of_clearTamper {i : SlotId} {s : State} (h : (precondition .clearTamper i s).2 = true) :
    s.device = .tampered := by
  simp only [precondition, Bool.and_eq_true, beq_iff_eq] at h
  exact h.1

theorem precondition_admitted {act : Action} {i : SlotId} {s : State} (hact : act ≠ .clearTamper)
    (h : (precondition act i s).2 = true) : act.admitsRecord ((precondition act i s).1.account i) = true := by
  unfold precondition at h ⊢
  split at h
  · exact absurd rfl hact
  · exact h

/-- What the execution of a ticket does: the action's work `u` (for a CLEAR_TAMPER of a TAMPERED device, R172 besides), and the
ticket's end. -/
theorem executeTicket_outcome (k : Ticket) (s : State) : ∃ u v st, Ordinary s u ∧ u.approval = s.approval ∧
    (v = u ∨ k.action = .clearTamper ∧ s.device = .tampered ∧ v = executeClearTamper u) ∧
    (st = .executed ∨ st = .failed .badState) ∧
    Ordinary (v.setApproval (v.approval.finish { k with state := st })) (executeTicket k s) := by
  have checked := (Ordinary.refl s).precondition k.action k.slot
  have table := precondition_approval k.action k.slot s
  unfold executeTicket
  dsimp only
  split
  · next passed =>
    by_cases hact : k.action = .clearTamper
    · rw [hact] at passed
      refine ⟨s, executeClearTamper s, .executed, .refl s, rfl, .inr ⟨hact, precondition_of_clearTamper passed, rfl⟩,
        .inl rfl, ?_⟩
      simp only [applyAction, afterAction, hact]
      exact (Ordinary.refl _).latch _
    · refine ⟨_, _, .executed, checked.applyAction hact (precondition_admitted hact passed),
        (applyAction_approval ..).trans table, .inl rfl, .inl rfl, ?_⟩
      unfold afterAction
      split
      · exact ((Ordinary.refl _).latch _).failTicketsOn _
      · exact (Ordinary.refl _).latch _
  · exact ⟨_, _, .failed .badState, checked, table, .inl rfl, .inr rfl, (Ordinary.refl _).latch _⟩

/-- The ticket with one more approval. -/
def Ticket.approvedBy (k : Ticket) (l : Line) : Ticket := { k with approvals := k.approvals ||| lineBit l }

/-- What an APPROVE can do: nothing beside ordinary work, the first approval of an OPEN ticket, or its second approval with the
execution. -/
inductive Approves (s t : State) : Prop where
  | ordinary (h : Ordinary s t)
  | first (k : Ticket) (l : Line) (hk : k ∈ s.approval.tickets) (ho : k.isOpen = true)
      (hc : lineCount (k.approvedBy l).approvals ≤ 1) (h : Ordinary (s.setApproval (s.approval.put (k.approvedBy l))) t)
  | second (k : Ticket) (l : Line) (u v : State) (st : TicketState) (hk : k ∈ s.approval.tickets) (ho : k.isOpen = true)
      (hc : 2 ≤ lineCount (k.approvedBy l).approvals) (hu : Ordinary (s.setApproval (s.approval.put (k.approvedBy l))) u)
      (table : u.approval = s.approval.put (k.approvedBy l))
      (hv : v = u ∨ k.action = .clearTamper ∧ s.device = .tampered ∧ v = executeClearTamper u)
      (hst : st = .executed ∨ st = .failed .badState)
      (h : Ordinary (v.setApproval (v.approval.finish { k.approvedBy l with state := st })) t)

theorem Approves.trans {s t u : State} (h : Approves s t) (k : Ordinary t u) : Approves s u := by
  cases h with
  | ordinary h => exact .ordinary (h.trans k)
  | first x l hk ho hc h => exact .first x l hk ho hc (h.trans k)
  | second x l w v st hk ho hc hu table hv hst h => exact .second x l w v st hk ho hc hu table hv hst (h.trans k)

theorem takeApproval_approves {s : State} {k : Ticket} (hk : k ∈ s.approval.tickets) (ho : k.isOpen = true) (l : Line) :
    Approves s (takeApproval l k s) := by
  unfold takeApproval
  dsimp only
  split
  · next hc =>
    obtain ⟨u, v, st, hu, table, hv, hst, h⟩ :=
      executeTicket_outcome (k.approvedBy l) (s.setApproval (s.approval.put (k.approvedBy l)))
    exact .second k l u v st hk ho hc hu table hv hst h.settle
  · next hc => exact .first k l hk ho (by simpa [Ticket.approvedBy] using Nat.lt_of_not_le hc) (.refl _)

theorem exec_approve {l : Line} {p : Payload} {s t : State} (h : exec (.approve l p) s = .next t) : Approves s t := by
  cases h
  have same : Approves s s := .ordinary (.refl s)
  refine custodianRequest_map_state (P := Approves s) (fun _ k ht => ht.trans ((Ordinary.refl _).setLine l k))
    (.ordinary ((Ordinary.refl s).latch _)) same fun q _ => ?_
  refine ticketRequest_state (P := Approves s) same fun _ k hk => ?_
  split
  case h_4 left open' =>
    have member := (ApprovalUnit.find?_eq_some hk).1
    split
    · exact same
    · split
      · exact same
      · exact takeApproval_approves member (Ticket.isOpen_iff.2 ⟨left, open'⟩) l
  all_goals exact same

end Sys2Proof.Machine

namespace Sys2Proof.Machine

/-! ## The laws of approval table and tamper latch through ordinary work -/

theorem Ordinary.tamperLawful {s t : State} (h : Ordinary s t) (hs : s.TamperLawful) : t.TamperLawful := by
  obtain ⟨tampered, latched, cause, empty, tickets⟩ := hs
  refine ⟨?_, ?_, ?_, ?_, ?_⟩
  · rw [h.device, h.powered, h.tamper]; exact tampered
  · rw [h.device, h.powered, h.tamper]; exact latched
  · rw [h.tamper]; exact cause
  · rw [h.tamper]; exact fun hl i => (h.slots i).account_none (empty hl i)
  · rw [h.device]
    intro hd
    exact ApprovalUnit.Moves.clearTamper (hd ▸ h.approval) (tickets hd)

theorem Ordinary.approvalLawful {s t : State} (h : Ordinary s t) (hs : s.approval.Lawful) : t.approval.Lawful :=
  hs.moves h.approval

/-! ## The laws through an APPROVE -/

theorem Steady.trans {s t u : State} (h : Steady s t) (k : Steady t u) : Steady s u where
  pending := k.pending.trans h.pending
  settings := k.settings.trans h.settings
  mask := k.mask.trans h.mask
  latched := by rw [← h.latched, BitVec.and_assoc, k.latched]
  slots := fun i => (h.slots i).trans (k.slots i)

theorem Steady.setApproval (s : State) (u : ApprovalUnit) : Steady s (s.setApproval u) := { (Ordinary.refl s).toSteady with }

theorem Steady.executeClearTamper (s : State) : Steady s (executeClearTamper s) := { (Ordinary.refl s).toSteady with }

theorem Approves.steady {s t : State} (h : Approves s t) : Steady s t := by
  cases h with
  | ordinary h => exact h.toSteady
  | first k l _ _ _ h => exact (Steady.setApproval s _).trans h.toSteady
  | second k l u v st _ _ _ hu _ hv _ h =>
    have executed : Steady u v := by
      rcases hv with rfl | ⟨-, -, rfl⟩
      · exact (Ordinary.refl _).toSteady
      · exact .executeClearTamper u
    exact ((Steady.setApproval s _).trans hu.toSteady).trans (executed.trans ((Steady.setApproval v _).trans h.toSteady))

theorem lineCount_approve (m : BitVec 3) (l : Line) : lineCount (m ||| lineBit l) ≤ lineCount m + 1 := by
  revert m l; decide

/-- The ticket of a second approval, as the execution leaves it. -/
theorem Ticket.Lawful.executed {k : Ticket} (h : k.Lawful) (ho : k.isOpen = true) {l : Line}
    (hc : 2 ≤ lineCount (k.approvedBy l).approvals) {st : TicketState} (hst : st = .executed ∨ st = .failed .badState) :
    Ticket.Lawful { k.approvedBy l with state := st } := by
  have count : lineCount (k.approvedBy l).approvals ≤ 2 :=
    (lineCount_approve k.approvals l).trans (Nat.succ_le_succ (h.approvals_of_open ho))
  obtain ⟨number, amount, -⟩ := h
  refine ⟨number, amount, ?_⟩
  rcases hst with rfl | rfl
  · exact Nat.le_antisymm count hc
  · exact count

/-- The end of a ticket counts, not what the event put in its place before. -/
theorem ApprovalUnit.finish_put {u : ApprovalUnit} {x y : Ticket} (h : y.number = x.number) :
    (u.put x).finish y = u.finish y := by
  unfold ApprovalUnit.finish
  rw [ApprovalUnit.put_put h]
  rfl

theorem Approves.approvalLawful {s t : State} (h : Approves s t) (hs : s.approval.Lawful) : t.approval.Lawful := by
  cases h with
  | ordinary h => exact h.approvalLawful hs
  | first k l hk ho hc h =>
    have lawful : (k.approvedBy l).Lawful := by
      obtain ⟨number, amount, -⟩ := hs.2.1 k hk
      obtain ⟨left, hstate⟩ := Ticket.isOpen_iff.1 ho
      refine ⟨number, amount, ?_⟩
      rw [show (k.approvedBy l).state = _ from hstate]
      exact hc
    exact h.approvalLawful (hs.put hk (t' := k.approvedBy l) rfl lawful ho ho rfl rfl)
  | second k l u v st hk ho hc hu table hv hst h =>
    refine h.approvalLawful ?_
    have unit : v.approval = s.approval.put (k.approvedBy l) := by
      rcases hv with rfl | ⟨-, -, rfl⟩ <;> exact table
    have closed : Ticket.isOpen { k.approvedBy l with state := st } = false := by
      rcases hst with rfl | rfl <;> rfl
    have finished := hs.finish hk (t' := { k.approvedBy l with state := st }) rfl
      (Ticket.Lawful.executed (hs.2.1 k hk) ho hc hst) ho closed
    have twice : (s.approval.put (k.approvedBy l)).finish { k.approvedBy l with state := st } =
        s.approval.finish { k.approvedBy l with state := st } := ApprovalUnit.finish_put rfl
    show (v.approval.finish _).Lawful
    rw [unit, twice]
    exact finished

theorem Approves.tamperLawful {s t : State} (h : Approves s t) (hs : s.TamperLawful) : t.TamperLawful := by
  have put : ∀ (w : State) (x : Ticket) (u : ApprovalUnit), w.TamperLawful →
      (w.device = .tampered → ∀ y ∈ u.tickets, y = x ∨ y ∈ w.approval.tickets) →
      (w.device = .tampered → x.action = .clearTamper) → (w.setApproval u).TamperLawful := fun w x u hw hu hx => by
    obtain ⟨tampered, latched, cause, empty, tickets⟩ := hw
    refine ⟨tampered, latched, cause, empty, fun hd y hy => ?_⟩
    rcases hu hd y hy with rfl | hy
    · exact hx hd
    · exact tickets hd y hy
  have joined : ∀ (u : ApprovalUnit) (x : Ticket), ∀ y ∈ (u.put x).tickets, y = x ∨ y ∈ u.tickets := fun u x y hy =>
    (ApprovalUnit.mem_put hy).imp id And.left
  cases h with
  | ordinary h => exact h.tamperLawful hs
  | first k l hk _ _ h => exact h.tamperLawful (put s (k.approvedBy l) _ hs (fun _ => joined s.approval (k.approvedBy l)) fun hd => hs.2.2.2.2 hd k hk)
  | second k l u v st hk ho hc hu table hv hst h =>
    have before := hu.tamperLawful (put s (k.approvedBy l) _ hs (fun _ => joined s.approval (k.approvedBy l)) fun hd => hs.2.2.2.2 hd k hk)
    refine h.tamperLawful ?_
    rcases hv with rfl | ⟨-, hd, rfl⟩
    · exact put v { k.approvedBy l with state := st } _ before (fun _ => joined v.approval { k.approvedBy l with state := st })
        fun hd => hs.2.2.2.2 (hu.device ▸ hd) k hk
    · refine ⟨fun hd => (by cases hd), fun _ hl => (by cases hl), by simp [executeClearTamper], fun hl => (by cases hl),
        fun hd => (by cases hd)⟩

end Sys2Proof.Machine

namespace Sys2Proof.Machine

/-! ## The commands on stored values (R191, R192, R194) -/

theorem exec_setSettings {p : Payload} {s t : State} (h : exec (.setSettings p) s = .next t) :
    ∃ c, Ordinary (s.setConsole c) t := by
  cases h
  exact consoleCommand_map_state (P := fun t => ∃ c, Ordinary (s.setConsole c) t)
    (fun _ ⟨c, hc⟩ => ⟨c, Ordinary.deliver hc _⟩) ⟨s.console, .refl s⟩ fun x _ => ⟨_, .refl _⟩

theorem exec_setAlertMask {p : Payload} {s t : State} (h : exec (.setAlertMask p) s = .next t) :
    ∃ m, Ordinary (s.setEvents { s.events with mask := m }) t := by
  cases h
  exact consoleCommand_map_state (P := fun t => ∃ m, Ordinary (s.setEvents { s.events with mask := m }) t)
    (fun _ ⟨c, hc⟩ => ⟨c, Ordinary.deliver hc _⟩) ⟨s.events.mask, .refl s⟩ fun x _ => ⟨_, .refl _⟩

theorem exec_readEvents {p : Payload} {s t : State} (h : exec (.readEvents p) s = .next t) :
    ∃ l, Ordinary (s.setEvents { s.events with latched := l }) t := by
  cases h
  exact consoleCommand_map_state (P := fun t => ∃ l, Ordinary (s.setEvents { s.events with latched := l }) t)
    (fun _ ⟨c, hc⟩ => ⟨c, Ordinary.deliver hc _⟩) ⟨s.events.latched, .refl s⟩ fun x _ => ⟨_, .refl _⟩

/-! ## CREATE (R14, R16) -/

/-- A property of records that no change of a slot brings in. -/
def KeptOut (found : Account → Bool) : Prop :=
  ∀ (x y : Slot) (a b : Account), NamesKept x y → x.account = some a → y.account = some b → found b = true → found a = true

/-- The slot holds no record with the property. -/
def Misses (found : Account → Bool) (i : SlotId) (s : State) : Prop := ∀ a, s.account i = some a → found a = false

theorem Misses.mono {found : Account → Bool} (hf : KeptOut found) {i : SlotId} {s t : State} (h : Misses found i s)
    (hst : NamesKept (s.slot i) (t.slot i)) : Misses found i t := fun b hb => by
  obtain ⟨a, ha, -⟩ := hst b hb
  refine Bool.eq_false_iff.2 fun hfound => ?_
  have := hf _ _ a b hst ha hb hfound
  rw [h a ha] at this
  cases this

/-- A search that ends without a match leaves no record that matches (R11). -/
theorem searchIn_none {found : Account → Bool} (hf : KeptOut found) (l : List SlotId) (s : State)
    (h : (searchIn quarantine [] found l s).2 = none) : ∀ i ∈ l, Misses found i (searchIn quarantine [] found l s).1 := by
  induction l generalizing s with
  | nil => exact fun _ hi => absurd hi List.not_mem_nil
  | cons j l ih =>
    have later := ((TableMoves.searchIn TableMoves.quarantine [] found l (readCheck quarantine [] j s)).slot j).changes
    unfold searchIn at h ⊢
    dsimp only at h ⊢
    have passed (missed : Misses found j (readCheck quarantine [] j s))
        (rest : (searchIn quarantine [] found l (readCheck quarantine [] j s)).2 = none) :
        ∀ i ∈ j :: l, Misses found i (searchIn quarantine [] found l (readCheck quarantine [] j s)).1 := fun i hi => by
      rcases List.mem_cons.1 hi with rfl | hi
      · exact missed.mono hf later.namesKept
      · exact ih _ rest i hi
    cases ha : (readCheck quarantine [] j s).account j with
    | none =>
      rw [ha] at h
      exact passed (fun b hb => by rw [ha] at hb; cases hb) h
    | some a =>
      rw [ha] at h
      dsimp only at h ⊢
      split at h
      · cases h
      · next miss =>
        rw [if_neg miss]
        exact passed (fun b hb => by rw [ha] at hb; cases hb; exact Bool.eq_false_iff.2 miss) h

theorem search_none {found : Account → Bool} (hf : KeptOut found) {s : State} (h : (search found s).2 = none) (i : SlotId) :
    Misses found i (search found s).1 := searchIn_none hf allSlots s h i (List.mem_finRange i)

theorem keptOut_label (label : BitVec 64) : KeptOut fun a => a.label == label := fun _ _ _ b hxy ha hb hfound => by
  obtain ⟨a', ha', hlabel, -⟩ := hxy b hb
  rw [ha] at ha'
  cases ha'
  simpa [hlabel] using hfound

theorem holdsModelClass_iff {m : BitVec 16} {a : Account} :
    holdsModelClass m a = true ↔ a.state.holdsModel = true ∧ a.part = .transport m := by
  unfold holdsModelClass Account.isTransportOf
  cases a.part <;> simp

theorem keptOut_holdsModelClass (m : BitVec 16) : KeptOut (holdsModelClass m) := fun _ _ _ b hxy ha hb hfound => by
  obtain ⟨a', ha', -, hmodel⟩ := hxy b hb
  rw [ha] at ha'
  cases ha'
  obtain ⟨holds, part⟩ := holdsModelClass_iff.1 hfound
  exact holdsModelClass_iff.2 ⟨(hmodel m part).2 holds, (hmodel m part).1⟩

/-- What the checks of R14 ensure about the record that a CREATE makes. -/
structure NewRecord (s : State) (i : SlotId) (x : Slot) : Prop where
  empty : s.account i = none
  lawful : x.Lawful
  label : ∀ a, x.account = some a → ∀ j b, s.account j = some b → b.label ≠ a.label
  model : ∀ a m, x.account = some a → a.part = .transport m → ∀ j b, s.account j = some b → holdsModelClass m b = false

/-- The parts that pass checks 2 to 4 of R14 are lawful in ASSEMBLING. -/
theorem createPart_lawful {c : CreateOperands} {k : KeyLength} {q : Quorum} {part : ClassPart}
    (h : createPart c = some (k, q, part)) (iss : Issuance) (hp : part = .base iss) : iss.Lawful ∧ iss.next ≤ iss.last := by
  unfold createPart at h
  split at h
  · split at h
    · split at h
      · dsimp only at h
        split at h
        · cases h
        · next fits =>
          cases h
          cases hp
          simp only [not_or, Nat.not_lt, Config.lastNumber] at fits
          obtain ⟨ordered, bounded, -⟩ := fits
          refine ⟨⟨⟨Nat.le_refl _, Nat.le_refl _, Nat.le_succ_of_le ordered, Nat.succ_le_succ bounded⟩, ?_, ?_, ?_, ?_, ?_, ?_⟩,
            ordered⟩ <;> simp [CreateOperands.issuance, Issuance.outstanding]
      · split at h
        · split at h
          · cases h
          · cases h; cases hp
        · cases h
    · cases h
  · cases h

theorem newRecord_lawful {label : BitVec 64} {k : KeyLength} {q : Quorum} {perms : BitVec 4} {part : ClassPart}
    (hperms : perms &&& ~~~ part.validFlags = 0)
    (hpart : ∀ iss, part = .base iss → iss.Lawful ∧ iss.next ≤ iss.last) : (newRecord label k q perms part).Lawful := by
  refine ⟨⟨hperms, fun h => (by rcases h with h | h <;> cases h), fun _ => rfl, ⟨rfl, by decide, ?_⟩, ?_⟩,
    fun h => absurd rfl h⟩
  · exact (show lineCount 0 + lineCount 0 = 0 by decide) ▸ Nat.zero_le _
  · cases part with
    | base iss => exact ⟨(hpart iss rfl).1, fun h => (by cases h), fun _ => (hpart iss rfl).2⟩
    | transport m => exact fun h => (by cases h)

/-- What a CREATE can do: ordinary work alone, or beside it one new record in an EMPTY slot. -/
inductive Creates (s t : State) : Prop where
  | ordinary (h : Ordinary s t)
  | record (u : State) (i : SlotId) (x : Slot) (powered : s.powered = true) (operational : s.device = .operational)
      (hu : Ordinary s u) (hx : NewRecord u i x) (h : Ordinary (u.setSlot i x) t)

theorem Creates.trans {s t u : State} (h : Creates s t) (k : Ordinary t u) : Creates s u := by
  cases h with
  | ordinary h => exact .ordinary (h.trans k)
  | record v i x powered operational hv hx h => exact .record v i x powered operational hv hx (h.trans k)

/-- The search for the model class is ordinary work. -/
theorem modelSearch_ordinary {s t : State} (h : Ordinary s t) (part : ClassPart) : Ordinary s (modelSearch part t).1 := by
  unfold modelSearch
  split
  · exact h
  · exact h.search _

theorem createRecord_creates {i : SlotId} {c : CreateOperands} {k : KeyLength} {q : Quorum} {part : ClassPart} {s : State}
    (powered : s.powered = true) (operational : s.device = .operational) (h : createPart c = some (k, q, part)) :
    Creates s (createRecord i c k q part s).state := by
  have same : Ordinary s s := .refl s
  unfold createRecord
  dsimp only
  split
  · exact .ordinary same
  · next empty =>
    split
    · rw [reply_state]
      exact .ordinary (same.search _).settle
    · next unlabelled =>
      have searched := same.search fun a => a.label == BitVec.ofNat 64 (natOfBytes c.label)
      have missed := search_none (keptOut_label _) (Option.not_isSome_iff_eq_none.1 unlabelled)
      generalize (search (fun a => a.label == BitVec.ofNat 64 (natOfBytes c.label)) s).1 = t at searched missed ⊢
      have found := modelSearch_ordinary searched part
      split
      · rw [reply_state]
        exact .ordinary found.settle
      · next free =>
        dsimp only
        refine .record (modelSearch part t).1 i _ powered operational found ?_ (Ordinary.refl _).settle
        refine ⟨?_, newRecord_lawful (by ext j; simp +contextual) (createPart_lawful h), fun a ha j b hb => ?_,
          fun a m ha hm j => ?_⟩
        · exact (found.slots i).account_none (Option.not_isSome_iff_eq_none.1 empty)
        · cases ha
          have kept := ((modelSearch_ordinary (.refl t) part).slots j).namesKept
          exact beq_eq_false_iff_ne.1 ((missed j).mono (keptOut_label _) kept b hb)
        · cases ha
          obtain rfl : part = .transport m := hm
          exact search_none (keptOut_holdsModelClass m) (Option.not_isSome_iff_eq_none.1 free) j

/-- A CREATE reaches its rule under main power in OPERATIONAL alone (R181). -/
theorem served_of_admits {s : State} {p : Payload} (taken : s.takesCommand = true)
    (admitted : admits s.device Kind.create p = true) : s.powered = true ∧ s.device = .operational := by
  constructor
  · simp only [State.takesCommand, State.consoleOpen, Bool.and_eq_true] at taken
    exact taken.1.1
  · cases hd : s.device with
    | operational => rfl
    | starting k =>
      rw [hd] at admitted
      simp [admits, Kind.create, Kind.status, Kind.restart] at admitted
    | tampered =>
      rw [hd] at admitted
      simp [admits, Kind.create, Kind.status, Kind.readEvents, Kind.readTickets, Kind.readSettings, Kind.dismissTicket,
        Kind.openTicket] at admitted

theorem exec_create {p : Payload} {s t : State} (h : exec (.create p) s = .next t) : Creates s t := by
  cases h
  have same : Creates s s := .ordinary (.refl s)
  refine consoleCommand_admitted_state (P := Creates s) (fun r h => h.trans (Ordinary.deliver (.refl r.state) _)) same
    fun c _ taken admitted => withSlot_state (P := Creates s) same fun i => ?_
  obtain ⟨powered, operational⟩ := served_of_admits taken admitted
  split
  · exact same
  · next hpart => exact createRecord_creates powered operational hpart

theorem Creates.lawful {s t : State} (h : Creates s t) (hs : s.RecordsLawful) : t.RecordsLawful := by
  cases h with
  | ordinary h => exact fun i => (hs i).changes (h.slots i)
  | record u i x powered operational hu hx h =>
    refine fun j => Slot.Lawful.changes ?_ (h.slots j)
    rw [slot_setSlot]
    split
    · exact hx.lawful
    · exact (hs j).changes (hu.slots j)

theorem Creates.namesDistinct {s t : State} (h : Creates s t) (hs : s.NamesDistinct) : t.NamesDistinct := by
  cases h with
  | ordinary h => exact hs.of_namesKept fun i => (h.slots i).namesKept
  | record u i x powered operational hu hx h =>
    have before : u.NamesDistinct := hs.of_namesKept fun j => (hu.slots j).namesKept
    refine State.NamesDistinct.of_namesKept ?_ fun j => (h.slots j).namesKept
    -- two records of the table, the new one first or second
    have fresh : ∀ a j b, x.account = some a → u.account j = some b → b.label ≠ a.label ∧
        ∀ m, a.part = .transport m → b.part = .transport m → ¬ b.state.holdsModel = true := fun a j b ha hb =>
      ⟨hx.label a ha j b hb, fun m hm hm' holds => by
        have := holdsModelClass_iff.2 ⟨holds, hm'⟩
        rw [hx.model a m ha hm j b hb] at this
        cases this⟩
    intro j k a b hjk ha hb
    rw [State.account, slot_setSlot] at ha hb
    split at ha
    · next hj =>
      rw [if_neg fun hk => hjk (hj.trans hk.symm)] at hb
      obtain ⟨labels, models⟩ := fresh a k b ha hb
      exact ⟨labels.symm, fun m hm hm' hboth => models m hm hm' hboth.2⟩
    · split at hb
      · obtain ⟨labels, models⟩ := fresh b j a hb ha
        exact ⟨labels, fun m hm hm' hboth => models m hm' hm hboth.1⟩
      · exact before j k a b hjk ha hb

/-- What a CREATE keeps of the stored values and of latch and cause. -/
theorem Creates.keeps {s t : State} (h : Creates s t) :
    t.pending = s.pending ∧ t.console.settings = s.console.settings ∧ t.events.mask = s.events.mask ∧
      s.events.latched &&& t.events.latched = s.events.latched ∧ t.tamper = s.tamper := by
  cases h with
  | ordinary h => exact ⟨h.pending, h.settings, h.mask, h.latched, h.tamper⟩
  | record u i x _ _ hu hx h =>
    -- the new slot is not among the values kept
    have after : u.events.latched &&& t.events.latched = u.events.latched := h.latched
    exact ⟨h.pending.trans hu.pending, h.settings.trans hu.settings, h.mask.trans hu.mask,
      by rw [← hu.latched, BitVec.and_assoc, after], h.tamper.trans hu.tamper⟩

theorem Creates.approvalLawful {s t : State} (h : Creates s t) (hs : s.approval.Lawful) : t.approval.Lawful := by
  cases h with
  | ordinary h => exact h.approvalLawful hs
  | record u i x _ _ hu hx h => exact h.approvalLawful (show (u.setSlot i x).approval.Lawful from hu.approvalLawful hs)

/-- The latch is clear where a CREATE makes a record. -/
theorem Creates.tamperLawful {s t : State} (h : Creates s t) (hs : s.TamperLawful) : t.TamperLawful := by
  cases h with
  | ordinary h => exact h.tamperLawful hs
  | record u i x powered operational hu hx h =>
    refine h.tamperLawful ?_
    have unlatched : u.tamper.latch ≠ true := fun hl => by
      have := hs.2.1 powered (hu.tamper ▸ hl)
      rw [operational] at this
      cases this
    obtain ⟨tampered, latched, cause, -, tickets⟩ := hu.tamperLawful hs
    exact ⟨tampered, latched, cause, fun hl => absurd hl unlatched, tickets⟩

end Sys2Proof.Machine

namespace Sys2Proof.Machine

/-! ## Power, start-up and the tamper events (chapters 8 and 9) -/

/-- What every event that is no APPROVE does to the laws of latch, device state and approval table. -/
structure Guarded (s t : State) : Prop extends Steady s t where
  latch : s.tamper.latch = true → t.tamper.latch = true
  cause : s.tamper.cause &&& t.tamper.cause = s.tamper.cause
  tamperLaw : s.TamperLawful → t.TamperLawful
  approvalLaw : s.approval.Lawful → t.approval.Lawful

theorem Ordinary.guarded {s t : State} (h : Ordinary s t) : Guarded s t :=
  ⟨h.toSteady, h.tamper ▸ id, by simp [h.tamper], h.tamperLawful, h.approvalLawful⟩

theorem and_or_self {w : Nat} (x y : BitVec w) : x &&& (x ||| y) = x := by ext i; simp +contextual

theorem or_ne_zero {w : Nat} {x y : BitVec w} (h : y ≠ 0) : x ||| y ≠ 0 := fun he => h (BitVec.or_eq_zero_iff.1 he).2

namespace Guarded

theorem trans {s t u : State} (h : Guarded s t) (k : Guarded t u) : Guarded s u where
  toSteady := h.toSteady.trans k.toSteady
  latch := k.latch ∘ h.latch
  cause := by rw [← h.cause, BitVec.and_assoc, k.cause]
  tamperLaw := k.tamperLaw ∘ h.tamperLaw
  approvalLaw := k.approvalLaw ∘ h.approvalLaw

theorem refl (s : State) : Guarded s s := (Ordinary.refl s).guarded

theorem latchEvent (s : State) (e : Event) : Guarded s (s.latch e) := ((Ordinary.refl s).latch e).guarded

/-- The levels of the inputs and the band are not part of the laws. -/
theorem setInputs (s : State) {m : TamperMonitor} (hl : m.latch = s.tamper.latch) (hc : m.cause = s.tamper.cause) :
    Guarded s (s.setTamper m) where
  toSteady := { (Ordinary.refl s).toSteady with }
  latch := fun h => hl.trans h
  cause := by simp [State.setTamper, hc]
  tamperLaw := fun ⟨tampered, latched, cause, empty, tickets⟩ =>
    ⟨fun hd => ⟨(tampered hd).1, hl.trans (tampered hd).2⟩, fun hp h => latched hp (hl.symm.trans h),
      by simpa [State.setTamper, hl, hc] using cause, fun h => empty (hl.symm.trans h), tickets⟩
  approvalLaw := id

end Guarded

@[simp] theorem slot_emptyTable (s : State) (i : SlotId) : (emptyTable s).slot i = Slot.empty := by
  simp [emptyTable, State.slot]

/-- A tamper cause (R168, R173). -/
theorem tamper_guarded {inputs : BitVec 3} (hi : inputs ≠ 0) (s : State) : Guarded s (tamper inputs s) := by
  have emptied : ∀ i, SlotChanges (s.slot i) Slot.empty := fun i => .single (.empty _)
  have cause : s.tamper.cause &&& (s.tamper.cause ||| inputs) = s.tamper.cause := and_or_self ..
  have named : s.tamper.cause ||| inputs ≠ 0 := or_ne_zero hi
  unfold tamper
  split
  · next powered =>
    exact
      { pending := rfl
        settings := rfl
        mask := rfl
        latched := BitVec.and_self
        slots := fun i => (slot_emptyTable s i).symm ▸ emptied i
        latch := fun _ => rfl
        cause := cause
        tamperLaw := fun _ => ⟨fun _ => ⟨powered, rfl⟩, fun _ _ => rfl, ⟨fun _ => named, fun _ => rfl⟩,
          fun _ i => congrArg Slot.account (slot_emptyTable s i), fun _ _ ht => absurd ht List.not_mem_nil⟩
        approvalLaw := fun h => .of_no_tickets h.2.2.2.2.2.2 }
  · next powerless =>
    exact
      { pending := rfl
        settings := rfl
        mask := rfl
        latched := BitVec.and_self
        slots := fun i => (slot_emptyTable s i).symm ▸ emptied i
        latch := fun _ => rfl
        cause := cause
        tamperLaw := fun h => ⟨fun hd => absurd (h.1 hd).1 powerless, fun hp => absurd hp powerless,
          ⟨fun _ => named, fun _ => rfl⟩, fun _ i => congrArg Slot.account (slot_emptyTable s i),
          fun hd => absurd (h.1 hd).1 powerless⟩
        approvalLaw := id }

theorem moveBand_guarded (b : Band) (s : State) : Guarded s (moveBand b s) := by
  have moved : Guarded s (s.setTamper { s.tamper with band := b }) := .setInputs s rfl rfl
  have warned : Guarded s (if s.powered ∧ s.tamper.band = .normal ∧ b ≠ .normal then
      (s.setTamper { s.tamper with band := b }).latch .temperatureWarning else s.setTamper { s.tamper with band := b }) := by
    split
    · exact moved.trans (.latchEvent _ .temperatureWarning)
    · exact moved
  unfold moveBand
  dsimp only
  split
  · exact warned.trans (tamper_guarded (by decide) _)
  · exact warned

theorem activate_guarded (input : TamperInput) (s : State) : Guarded s (activate input s) := by
  unfold activate
  split
  · split
    · exact .refl s
    · exact (Guarded.setInputs s (m := { s.tamper with enclosureActive := true }) rfl rfl).trans
        (tamper_guarded (by decide) _)
  · split
    · exact .refl s
    · exact (Guarded.setInputs s (m := { s.tamper with supplyActive := true }) rfl rfl).trans
        (tamper_guarded (by decide) _)
  · exact moveBand_guarded ..

theorem deactivate_guarded (input : TamperInput) (s : State) : Guarded s (deactivate input s) := by
  cases input with
  | enclosure => exact .setInputs s rfl rfl
  | supply => exact .setInputs s rfl rfl
  | temperature => exact .refl s

/-! ### The restart event (R175) -/

@[simp] theorem slot_clearVolatile (straps : BitVec 4) (senses : BitVec 8) (s : State) (i : SlotId) :
    (clearVolatile straps senses s).slot i = (s.slot i).restart := by
  simp [clearVolatile, State.slot]

theorem Slot.restart_account_none {sl : Slot} (h : sl.account = none) : sl.restart.account = none := by
  unfold Slot.restart
  rw [h]
  rfl

theorem clearVolatile_steady (straps : BitVec 4) (senses : BitVec 8) (s : State) :
    Steady s (clearVolatile straps senses s) :=
  ⟨rfl, rfl, rfl, BitVec.and_self, fun i => (slot_clearVolatile straps senses s i).symm ▸ .single (.restart _)⟩

/-- What the restart event and POWER_ON start from: no ticket, and the laws of the latch that hold without main power too. -/
structure Cleared (s t : State) : Prop extends Steady s t where
  latch : t.tamper.latch = s.tamper.latch
  cause : t.tamper.cause = s.tamper.cause
  approval : t.approval = { tickets := [], finished := [], counter := 0 }
  powered : t.powered = true

/-- Steps 4 to 6 of the restart event (R175). -/
theorem Cleared.enterService {s t : State} (h : Cleared s t) : Guarded s (enterService t) := by
  have none (hs : s.TamperLawful) (hl : s.tamper.latch = true) (i : SlotId) : t.account i = none :=
    (h.slots i).account_none (hs.2.2.2.1 hl i)
  have noTicket : ∀ x ∈ t.approval.tickets, x.action = .clearTamper := by
    rw [h.approval]
    exact fun x hx => absurd hx List.not_mem_nil
  have noTickets : t.approval.Lawful := by
    rw [h.approval]
    exact .of_no_tickets (Nat.zero_le _)
  unfold Machine.enterService
  dsimp only
  split
  · next latched =>
    have latchedBefore : s.tamper.latch = true := h.latch ▸ latched
    have cause : s.tamper.cause &&& (t.tamper.cause ||| t.tamper.activeInputs) = s.tamper.cause := by
      rw [h.cause]; exact and_or_self ..
    refine ⟨⟨h.pending, h.settings, h.mask, h.latched, h.slots⟩, fun _ => latched, cause, fun hs => ?_, fun _ => noTickets⟩
    refine ⟨fun _ => ⟨h.powered, latched⟩, fun _ _ => rfl, ⟨fun _ hc => ?_, fun _ => latched⟩, fun _ => none hs latchedBefore,
      fun _ => noTicket⟩
    have hz : t.tamper.cause ||| t.tamper.activeInputs = 0 := hc
    exact hs.2.2.1.1 latchedBefore (h.cause ▸ (BitVec.or_eq_zero_iff.1 hz).1)
  · next unlatched =>
    split
    · have cause : s.tamper.cause &&& t.tamper.cause = s.tamper.cause := by rw [h.cause]; exact BitVec.and_self
      refine ⟨⟨h.pending, h.settings, h.mask, h.latched, h.slots⟩, fun hl => h.latch.trans hl, cause, fun hs => ?_,
        fun _ => noTickets⟩
      refine ⟨fun hd => (by cases hd), fun _ hl => absurd hl unlatched, ?_, fun hl => absurd hl unlatched,
        fun hd => (by cases hd)⟩
      show t.tamper.latch = true ↔ t.tamper.cause ≠ 0
      rw [h.latch, h.cause]
      exact hs.2.2.1
    · next active =>
      have tampered := tamper_guarded active t
      refine ⟨h.toSteady.trans tampered.toSteady, fun hl => absurd (h.latch.trans hl) unlatched, ?_, fun _ => ?_,
        fun _ => tampered.approvalLaw noTickets⟩
      · rw [← h.cause]; exact tampered.cause
      · -- under main power a tamper cause makes its laws, whatever was before
        unfold tamper
        rw [if_pos h.powered]
        exact ⟨fun _ => ⟨h.powered, rfl⟩, fun _ _ => rfl, ⟨fun _ => or_ne_zero active, fun _ => rfl⟩,
          fun _ i => congrArg Slot.account (slot_emptyTable t i), fun _ _ ht => absurd ht List.not_mem_nil⟩

theorem restartEvent_guarded (straps : BitVec 4) (senses : BitVec 8) {s : State} (hp : s.powered = true) :
    Guarded s (restartEvent straps senses s) :=
  Cleared.enterService
    { clearVolatile_steady straps senses s with latch := rfl, cause := rfl, approval := rfl, powered := hp }

theorem exec_powerOn {straps : BitVec 4} {senses : BitVec 8} {celsius : Int} {s t : State}
    (h : exec (.powerOn straps senses celsius) s = .next t) : Guarded s t := by
  cases h
  have cleared : Cleared s (indicateRestart { clearVolatile straps senses s with powered := true }) :=
    { clearVolatile_steady straps senses s with latch := rfl, cause := rfl, approval := rfl, powered := rfl }
  refine Cleared.enterService ?_
  unfold firstReading
  dsimp only
  split
  · exact { cleared with }
  · exact { cleared with latched := and_or_self .. }

theorem exec_powerDown {s t : State} (h : exec .powerDown s = .next t) : Guarded s t := by
  cases h
  have slots : ∀ i, SlotChanges (s.slot i) ((s.table.map Slot.clearWaiting)[i]) := fun i => by
    rw [Fin.getElem_fin, Vector.getElem_map]
    exact .single (.move (.leave _ [] (List.nil_subset _)))
  exact
    { pending := rfl
      settings := rfl
      mask := rfl
      latched := BitVec.and_self
      slots := slots
      latch := id
      cause := BitVec.and_self
      tamperLaw := fun ⟨_, _, cause, empty, _⟩ => ⟨fun hd => (by cases hd), fun hp => (by cases hp), cause,
        fun hl i => (slots i).account_none (empty hl i), fun hd => (by cases hd)⟩
      approvalLaw := fun _ => .of_no_tickets (Nat.zero_le _) }

theorem exec_consoleAnswerEnd {straps : BitVec 4} {senses : BitVec 8} {s t : State}
    (h : exec (.consoleAnswerEnd straps senses) s = .next t) : Guarded s t := by
  cases h
  split
  · next powered =>
    split
    · have opened : Guarded s (s.setConsole { s.console with receiver := .hunting }) :=
        (Ordinary.setConsole (c := { s.console with receiver := .hunting }) (.refl s) rfl).guarded
      dsimp only
      split
      · exact opened.trans (restartEvent_guarded straps senses powered)
      · exact opened
    · exact .refl s
  · exact .refl s

/-! ### The completion of the start-up check (R163, R176) -/

theorem completeStartUp_guarded {k n : Nat} {s : State} (powered : s.powered = true) (hd : s.device = .starting n) :
    Guarded s (completeStartUp k s) := by
  have checked : Ordinary s (settleEngine (checkSlots (slotsLeft k) s)) :=
    (foldl_state (P := Ordinary s) (fun u i hu => hu.check i) _ (.refl s)).settle
  unfold completeStartUp
  dsimp only
  generalize settleEngine (checkSlots (slotsLeft k) s) = t at checked ⊢
  have slots : ∀ i, SlotChanges (s.slot i) ((t.table.map Slot.startUpVoid)[i]) := fun i => by
    rw [Fin.getElem_fin, Vector.getElem_map]
    exact (checked.slots i).tail (.startUpVoid _)
  have guarded := checked.guarded
  refine ⟨⟨checked.pending, checked.settings, checked.mask, checked.latched, slots⟩, guarded.latch, guarded.cause,
    fun hs => ?_, guarded.approvalLaw⟩
  have unlatched : s.tamper.latch ≠ true := fun hl => by
    have := hs.2.1 powered hl
    rw [hd] at this
    cases this
  have unlatched' : t.tamper.latch ≠ true := checked.tamper ▸ unlatched
  exact ⟨fun hd => (by cases hd), fun _ hl => absurd hl unlatched', (guarded.tamperLaw hs).2.2.1,
    fun hl => absurd hl unlatched', fun hd => (by cases hd)⟩

theorem exec_startUpCheckCompletion {s t : State} (h : exec .startUpCheckCompletion s = .next t) : Guarded s t := by
  cases h
  split
  · next powered =>
    split
    · next hd => exact completeStartUp_guarded powered hd
    · exact .refl s
  · exact .refl s

end Sys2Proof.Machine

namespace Sys2Proof.Machine

/-! ## What every command and event keeps -/

/-- The five commands whose rules change stored values, the names in the table, or latch and cause. -/
def isSpecial : Instr → Bool
  | .setSettings _ | .setAlertMask _ | .readEvents _ | .create _ | .approve _ _ => true
  | _ => false

theorem exec_guarded {c : Instr} (hc : isSpecial c = false) {s t : State} (h : exec c s = .next t) : Guarded s t := by
  by_cases ordinary : isOrdinary c = true
  · exact (exec_ordinary ordinary h).guarded
  · cases c
    case consoleAnswerEnd => exact exec_consoleAnswerEnd h
    case powerOn => exact exec_powerOn h
    case powerDown => exact exec_powerDown h
    case startUpCheckCompletion => exact exec_startUpCheckCompletion h
    case tamperCause input => cases h; exact activate_guarded input s
    case tamperInputInactive input => cases h; exact deactivate_guarded input s
    case temperatureReading => cases h; exact moveBand_guarded _ s
    case setSettings | setAlertMask | readEvents | create | approve => cases hc
    all_goals exact absurd rfl ordinary

section
variable {c : Instr} {s t : State}

/-- No command or event touches the queue. -/
theorem exec_pending (h : exec c s = .next t) : t.pending = s.pending := by
  cases hc : isSpecial c with
  | false => exact (exec_guarded hc h).pending
  | true =>
    cases c
    case setSettings => obtain ⟨_, h⟩ := exec_setSettings h; exact h.pending
    case setAlertMask => obtain ⟨_, h⟩ := exec_setAlertMask h; exact h.pending
    case readEvents => obtain ⟨_, h⟩ := exec_readEvents h; exact h.pending
    case create => exact (exec_create h).keeps.1
    case approve => exact (exec_approve h).steady.pending
    all_goals cases hc

/-- Every command and event but CREATE changes the slots by the changes of `SlotChange`. -/
theorem exec_slots (hc : ∀ p, c ≠ .create p) (h : exec c s = .next t) (i : SlotId) : SlotChanges (s.slot i) (t.slot i) := by
  cases hspecial : isSpecial c with
  | false => exact (exec_guarded hspecial h).slots i
  | true =>
    cases c
    case setSettings => obtain ⟨_, h⟩ := exec_setSettings h; exact h.slots i
    case setAlertMask => obtain ⟨_, h⟩ := exec_setAlertMask h; exact h.slots i
    case readEvents => obtain ⟨_, h⟩ := exec_readEvents h; exact h.slots i
    case create p => exact absurd rfl (hc p)
    case approve => exact (exec_approve h).steady.slots i
    all_goals cases hspecial

theorem exec_recordsLawful (h : exec c s = .next t) (hs : s.RecordsLawful) : t.RecordsLawful := by
  by_cases hc : ∃ p, c = .create p
  · obtain ⟨p, rfl⟩ := hc
    exact (exec_create h).lawful hs
  · exact fun i => (hs i).changes (exec_slots (fun p e => hc ⟨p, e⟩) h i)

theorem exec_namesDistinct (h : exec c s = .next t) (hs : s.NamesDistinct) : t.NamesDistinct := by
  by_cases hc : ∃ p, c = .create p
  · obtain ⟨p, rfl⟩ := hc
    exact (exec_create h).namesDistinct hs
  · exact hs.of_namesKept fun i => (exec_slots (fun p e => hc ⟨p, e⟩) h i).namesKept

/-- Every command and event keeps the laws of latch and device state. -/
theorem exec_tamperLawful (h : exec c s = .next t) (hs : s.TamperLawful) : t.TamperLawful := by
  cases hspecial : isSpecial c with
  | false => exact (exec_guarded hspecial h).tamperLaw hs
  | true =>
    cases c
    case setSettings => obtain ⟨_, h⟩ := exec_setSettings h; exact h.tamperLawful hs
    case setAlertMask => obtain ⟨_, h⟩ := exec_setAlertMask h; exact h.tamperLawful hs
    case readEvents => obtain ⟨_, h⟩ := exec_readEvents h; exact h.tamperLawful hs
    case create => exact (exec_create h).tamperLawful hs
    case approve => exact (exec_approve h).tamperLawful hs
    all_goals cases hspecial

/-- Every command and event keeps the laws of the approval table. -/
theorem exec_approvalLawful (h : exec c s = .next t) (hs : s.approval.Lawful) : t.approval.Lawful := by
  cases hspecial : isSpecial c with
  | false => exact (exec_guarded hspecial h).approvalLaw hs
  | true =>
    cases c
    case setSettings => obtain ⟨_, h⟩ := exec_setSettings h; exact h.approvalLawful hs
    case setAlertMask => obtain ⟨_, h⟩ := exec_setAlertMask h; exact h.approvalLawful hs
    case readEvents => obtain ⟨_, h⟩ := exec_readEvents h; exact h.approvalLawful hs
    case create => exact (exec_create h).approvalLawful hs
    case approve => exact (exec_approve h).approvalLawful hs
    all_goals cases hspecial

end

/-! ## A millisecond of quiet -/

/-- The start-up check's slot of the millisecond (R163). -/
theorem startUpProgress_ordinary (s : State) :
    ∃ t, Ordinary s t ∧ ((startUpProgress s).1 = t ∨
      ∃ k, s.device = .starting k ∧ (startUpProgress s).1 = t.setDevice (.starting (k + 1))) := by
  unfold startUpProgress
  split
  · next k hk =>
    refine ⟨_, ?_, .inr ⟨k, hk, rfl⟩⟩
    split
    · exact ((Ordinary.refl s).check _).settle
    · exact .refl s
  · exact ⟨s, .refl s, .inl rfl⟩

/-- The table after a millisecond: at most the changes of one read-check. -/
theorem tick_slots (s : State) (i : SlotId) : SlotChanges (s.slot i) ((tick s).slot i) := by
  unfold tick
  split
  · obtain ⟨t, h, ht⟩ := startUpProgress_ordinary (countDown s)
    have slots : (startUpProgress (countDown s)).1.slot i = t.slot i := by
      rcases ht with ht | ⟨k, -, ht⟩ <;> rw [ht] <;> rfl
    exact slots ▸ h.slots i
  · exact .refl

theorem Ticket.countDown_number (t : Ticket) : t.countDown.number = t.number := by
  unfold countDown; split <;> rfl

theorem Ticket.countDown_isOpen (t : Ticket) : t.countDown.isOpen = t.isOpen := by
  unfold countDown
  split
  · next h => simp [isOpen, h]
  · rfl

theorem Ticket.countDown_subject (t : Ticket) : t.countDown.action = t.action ∧ t.countDown.slot = t.slot := by
  unfold countDown; split <;> exact ⟨rfl, rfl⟩

theorem Ticket.Lawful.countDown {t : Ticket} (h : t.Lawful) : t.countDown.Lawful := by
  unfold Ticket.countDown
  split
  · next hs =>
    obtain ⟨number, amount, approvals⟩ := h
    rw [hs] at approvals
    exact ⟨number, amount, approvals⟩
  · exact h

theorem countDown_approvalLawful {s : State} (h : s.approval.Lawful) : (countDown s).approval.Lawful := by
  obtain ⟨hlen, htickets, hnodup, hpair, hfin, hiff, hcounter⟩ := h
  refine ⟨by simpa [countDown] using hlen, ?_, ?_, ?_, hfin, fun n => (hiff n).trans ?_, hcounter⟩
  · simp only [countDown, List.mem_map, forall_exists_index, and_imp, forall_apply_eq_imp_iff₂]
    exact fun t ht => (htickets t ht).countDown
  · rw [show (countDown s).approval.tickets.map (·.number) = s.approval.tickets.map (·.number) by
      simp [countDown, Function.comp_def, Ticket.countDown_number]]
    exact hnodup
  · simp only [countDown, List.pairwise_map, Ticket.countDown_isOpen, Ticket.countDown_subject]
    exact hpair
  · simp [countDown, Ticket.countDown_number, Ticket.countDown_isOpen]

theorem countDown_tamperLawful {s : State} (h : s.TamperLawful) : (countDown s).TamperLawful := by
  obtain ⟨tampered, latched, cause, empty, tickets⟩ := h
  refine ⟨tampered, latched, cause, empty, fun hd t ht => ?_⟩
  obtain ⟨x, hx, rfl⟩ := List.mem_map.1 ht
  exact x.countDown_subject.1.trans (tickets hd x hx)

theorem tick_approvalLawful {s : State} (h : s.approval.Lawful) : (tick s).approval.Lawful := by
  unfold tick
  split
  · obtain ⟨t, ht, hprogress⟩ := startUpProgress_ordinary (countDown s)
    have table : (startUpProgress (countDown s)).1.approval = t.approval := by
      rcases hprogress with e | ⟨k, -, e⟩ <;> rw [e] <;> rfl
    exact table ▸ ht.approvalLawful (countDown_approvalLawful h)
  · exact h

theorem tick_tamperLawful {s : State} (h : s.TamperLawful) : (tick s).TamperLawful := by
  unfold tick
  split
  · next powered =>
    obtain ⟨t, ht, hprogress⟩ := startUpProgress_ordinary (countDown s)
    have lawful := ht.tamperLawful (countDown_tamperLawful h)
    suffices progressed : (startUpProgress (countDown s)).1.TamperLawful from progressed
    rcases hprogress with e | ⟨k, hk, e⟩ <;> rw [e]
    · exact lawful
    · obtain ⟨-, latched, cause, empty, -⟩ := lawful
      have unlatched : t.tamper.latch ≠ true := fun hl => by
        have := latched (ht.powered.trans powered) hl
        rw [ht.device, hk] at this
        cases this
      exact ⟨fun hd => (by cases hd), fun _ hl => absurd hl unlatched, cause, empty, fun hd => (by cases hd)⟩
  · exact h

/-! ## The laws that every step keeps -/

/-- A law of states that does not speak of the queue is kept by every step when commands and quiet milliseconds keep it. -/
theorem step_keeps {P : State → Prop} (queue : ∀ s l, P s → P { s with pending := l })
    (command : ∀ c s t, exec c s = .next t → P s → P t) (quiet : ∀ s, P s → P (tick s)) {s t : State} (hs : P s)
    (h : step s = .next t) : P t := by
  unfold step at h
  split at h
  · cases h; exact quiet s hs
  · exact command _ _ t h (queue s _ hs)

/-- Settles O9: every command but CREATE takes each slot through the changes of `SlotChange`, which keep the laws and bring in no
name; a CREATE besides makes one lawful record with a name of its own. -/
theorem stepKeepsRecordsLawful : Obligations.StepKeepsRecordsLawful :=
  ⟨fun _ _ hs h => step_keeps (P := State.RecordsLawful) (fun _ _ hs => hs) (fun _ _ _ h hs => exec_recordsLawful h hs)
      (fun s hs i => (hs i).changes (tick_slots s i)) hs h,
    fun _ _ hs h => step_keeps (P := State.NamesDistinct) (fun _ _ hs => hs) (fun _ _ _ h hs => exec_namesDistinct h hs)
      (fun s hs => hs.of_namesKept fun i => (tick_slots s i).namesKept) hs h⟩

/-- Settles O6: a tamper cause sets the latch and joins the cause, a restart event joins the active inputs, and CLEAR_TAMPER,
which an APPROVE alone executes, clears both. -/
theorem tamperLatchStays : Obligations.TamperLatchStays := by
  refine ⟨fun c s t hc h => ?_, fun s t hs h => step_keeps (P := State.TamperLawful) (fun _ _ hs => hs)
    (fun _ _ _ h hs => exec_tamperLawful h hs) (fun _ hs => tick_tamperLawful hs) hs h⟩
  have unchanged (same : t.tamper = s.tamper) : (s.tamper.latch = true → t.tamper.latch = true) ∧
      s.tamper.cause &&& t.tamper.cause = s.tamper.cause := by simp [same]
  cases hspecial : isSpecial c with
  | false => exact ⟨(exec_guarded hspecial h).latch, (exec_guarded hspecial h).cause⟩
  | true =>
    cases c
    case setSettings => obtain ⟨_, h⟩ := exec_setSettings h; exact unchanged h.tamper
    case setAlertMask => obtain ⟨_, h⟩ := exec_setAlertMask h; exact unchanged h.tamper
    case readEvents => obtain ⟨_, h⟩ := exec_readEvents h; exact unchanged h.tamper
    case create =>
      obtain ⟨-, -, -, -, same⟩ := (exec_create h).keeps
      exact unchanged same
    case approve l p => exact absurd rfl (hc l p)
    all_goals cases hspecial

/-- Settles O7: no rule but those of the three commands writes settings or mask or takes an event out of the latched set. -/
theorem storedValuesStay : Obligations.StoredValuesStay := by
  intro c s t h
  cases hspecial : isSpecial c with
  | false => exact ⟨fun _ => (exec_guarded hspecial h).settings, fun _ => (exec_guarded hspecial h).mask,
      fun _ => (exec_guarded hspecial h).latched⟩
  | true =>
    cases c
    case setSettings p =>
      obtain ⟨_, h⟩ := exec_setSettings h
      exact ⟨fun hc => absurd rfl (hc p), fun _ => h.mask, fun _ => h.latched⟩
    case setAlertMask p =>
      obtain ⟨_, h⟩ := exec_setAlertMask h
      exact ⟨fun _ => h.settings, fun hc => absurd rfl (hc p), fun _ => h.latched⟩
    case readEvents p =>
      obtain ⟨_, h⟩ := exec_readEvents h
      exact ⟨fun _ => h.settings, fun _ => h.mask, fun hc => absurd rfl (hc p)⟩
    case create =>
      obtain ⟨-, settings, mask, latched, -⟩ := (exec_create h).keeps
      exact ⟨fun _ => settings, fun _ => mask, fun _ => latched⟩
    case approve =>
      have kept := (exec_approve h).steady
      exact ⟨fun _ => kept.settings, fun _ => kept.mask, fun _ => kept.latched⟩
    all_goals cases hspecial

end Sys2Proof.Machine

/-! # Without main power (R173) -/

namespace Sys2Proof.Machine

section
variable {s : State} (hp : s.powered = false)
include hp

theorem consoleOpen_of_powerless : s.consoleOpen = false := by simp [State.consoleOpen, hp]

theorem takesCommand_of_powerless : s.takesCommand = false := by simp [State.takesCommand, State.consoleOpen, hp]

theorem consoleCommand_of_powerless (kind : Byte) (p : Payload) (owner : Option (State → Reply)) :
    consoleCommand kind p owner s = s := by simp [consoleCommand, takesCommand_of_powerless hp]

theorem custodianRequest_of_powerless (l : Line) (kind : Byte)
    (owner : Option (State → State × AnswerCode × List Byte)) : custodianRequest l kind owner s = s := by
  simp [custodianRequest, hp]

theorem broadcast_of_powerless (effect : State → State) : broadcast effect s = s := by
  simp [broadcast, consoleOpen_of_powerless hp]

theorem terminalFrame_of_powerless {α : Type} (st : StationId) (awaited : StationState) (operands : Option α)
    (taken : α → State → State) : terminalFrame st awaited operands taken s = s := by simp [terminalFrame, hp]

theorem completion_of_powerless (delivery : Job → Copies → Option (State → State)) : completion delivery s = s := by
  simp [completion, hp]

theorem ite_of_powerless {q : Prop} [Decidable q] (t : State) : (if s.powered = true ∧ q then t else s) = s := by simp [hp]

theorem ite_powered_of_powerless (t : State) : (if s.powered = true then t else s) = s := by simp [hp]

/-- A tamper cause acts from the battery: latch, cause and the emptied table alone (R173). -/
theorem tamper_of_powerless (inputs : BitVec 3) : tamper inputs s = emptyTable (setLatch inputs s) := by
  simp [tamper, hp]

theorem moveBand_of_powerless (b : Band) :
    moveBand b s = { s with table := (moveBand b s).table, tamper := (moveBand b s).tamper } := by
  have moved : (s.setTamper { s.tamper with band := b }).powered = false := hp
  have quiet : ¬ (s.powered = true ∧ s.tamper.band = .normal ∧ b ≠ .normal) := fun h => by simp [hp] at h
  unfold moveBand
  dsimp only
  rw [if_neg quiet]
  split
  · rw [tamper_of_powerless moved]; rfl
  · rfl

theorem activate_of_powerless (input : TamperInput) :
    activate input s = { s with table := (activate input s).table, tamper := (activate input s).tamper } := by
  cases input with
  | enclosure =>
    unfold activate
    dsimp only
    split
    · rfl
    · have opened : (s.setTamper { s.tamper with enclosureActive := true }).powered = false := hp
      rw [tamper_of_powerless opened]; rfl
  | supply => rw [show activate .supply s = s from if_pos (.inr hp)]
  | temperature => exact moveBand_of_powerless hp .limit

end

/-- Settles O5: each form of command or event begins with main power, but the inputs of the Tamper Monitor and storage errors. -/
theorem powerlessEvents : Obligations.PowerlessEvents := by
  intro c s t hp h
  cases c
  case powerOn | powerDown => trivial
  case tamperCause input => cases h; exact activate_of_powerless hp input
  case tamperInputInactive input => cases h; cases input <;> rfl
  case temperatureReading => cases h; exact moveBand_of_powerless hp _
  case storageError => cases h; rfl
  case component | lineStatus | ticketQuery | approve | decline => cases h; exact custodianRequest_of_powerless hp ..
  case disarmAll | abortAll => cases h; exact broadcast_of_powerless hp _
  case identity | receipt | refuse => cases h; exact terminalFrame_of_powerless hp ..
  case componentCheckDone | keyCheckDone | packageJobDone | verifyJobDone => cases h; exact completion_of_powerless hp _
  case unknownCommand =>
    cases h
    dsimp only
    rw [takesCommand_of_powerless hp]
    split <;> rfl
  case broadcastDiscard =>
    cases h
    dsimp only
    rw [broadcast_of_powerless hp]
    split <;> rfl
  case consoleFrameError => cases h; exact if_neg (by simp [consoleOpen_of_powerless hp])
  case present | absent | identityTimerExpiry | receiptTimerExpiry | sweepTimerExpiry => cases h; exact ite_of_powerless hp _
  case supervisionLapse | consoleAnswerEnd | custodianFrameError | custodianAnswerEnd | ticketExpiry | discardedJobDone |
      stationFrameError | endOfTransmission | stationFrameSent | startUpCheckCompletion =>
    cases h; exact ite_powered_of_powerless hp _
  all_goals cases h; exact consoleCommand_of_powerless hp ..

end Sys2Proof.Machine

/-! # Tamper inputs, readings and power (chapter 9) -/

namespace Sys2Proof.Machine

/-! ## The band (R167) -/

section
variable {c : Int}

theorem beyondLimits_iff : beyondLimits c = true ↔ c > 85 ∨ c < -20 := by simp [beyondLimits]

theorem beyondRange_iff : beyondRange c = true ↔ c > 70 ∨ c < -5 := by simp [beyondRange]

theorem wellInside_iff : wellInside c = true ↔ c ≤ 68 ∧ -3 ≤ c := by simp [wellInside]

theorem backWithinLimits_iff : backWithinLimits c = true ↔ c ≤ 83 ∧ -18 ≤ c := by simp [backWithinLimits]

theorem after_normal_inside (h : -5 ≤ c) (h' : c ≤ 70) : Band.normal.after c = .normal := by
  rw [Band.after, if_neg (by rw [beyondLimits_iff]; omega), if_neg (by rw [beyondRange_iff]; omega)]

theorem after_normal_outside (h : -20 ≤ c) (h' : c ≤ 85) (out : c > 70 ∨ c < -5) : Band.normal.after c = .warning := by
  rw [Band.after, if_neg (by rw [beyondLimits_iff]; omega), if_pos (beyondRange_iff.2 out)]

theorem after_beyond {b : Band} (hb : b ≠ .limit) (out : c > 85 ∨ c < -20) : b.after c = .limit := by
  cases b with
  | normal | warning => exact if_pos (beyondLimits_iff.2 out)
  | limit => exact absurd rfl hb

theorem after_warning_inside (h : -3 ≤ c) (h' : c ≤ 68) : Band.warning.after c = .normal := by
  rw [Band.after, if_neg (by rw [beyondLimits_iff]; omega), if_pos (wellInside_iff.2 ⟨h', h⟩)]

theorem after_warning_outside (h : -20 ≤ c) (h' : c ≤ 85) (out : c > 68 ∨ c < -3) : Band.warning.after c = .warning := by
  rw [Band.after, if_neg (by rw [beyondLimits_iff]; omega), if_neg (by rw [wellInside_iff]; omega)]

theorem after_limit_inside (h : -3 ≤ c) (h' : c ≤ 68) : Band.limit.after c = .normal := if_pos (wellInside_iff.2 ⟨h', h⟩)

theorem after_limit_between (h : -18 ≤ c) (h' : c ≤ 83) (out : c > 68 ∨ c < -3) : Band.limit.after c = .warning := by
  rw [Band.after, if_neg (by rw [wellInside_iff]; omega), if_pos (backWithinLimits_iff.2 ⟨h', h⟩)]

theorem after_limit_outside (out : c > 83 ∨ c < -18) : Band.limit.after c = .limit := by
  rw [Band.after, if_neg (by rw [wellInside_iff]; omega), if_neg (by rw [backWithinLimits_iff]; omega)]

end

section
variable {s : State}

theorem moveBand_self {b : Band} (h : s.tamper.band = b) : moveBand b s = s := by
  subst h
  simp [moveBand, State.setTamper]

/-- A move that enters no limit and warns of nothing. -/
theorem moveBand_quiet {b : Band} (hb : b ≠ .limit) (quiet : s.powered = false ∨ s.tamper.band ≠ .normal) :
    moveBand b s = s.setTamper { s.tamper with band := b } := by
  have noWarning : ¬ (s.powered = true ∧ s.tamper.band = .normal ∧ b ≠ .normal) := fun ⟨hp, hn, _⟩ =>
    quiet.elim (fun h => by rw [h] at hp; cases hp) fun h => h hn
  simp only [moveBand, hb, false_and, if_false, noWarning]

theorem moveBand_warns (hp : s.powered = true) (hn : s.tamper.band = .normal) :
    moveBand .warning s = (s.setTamper { s.tamper with band := .warning }).latch .temperatureWarning := by
  simp [moveBand, hp, hn]

/-- The move into LIMIT is a tamper cause; from NORMAL under main power it also warns. -/
theorem moveBand_limit (hb : s.tamper.band ≠ .limit) :
    moveBand .limit s = tamper TamperInput.temperature.bit
      (if s.powered = true ∧ s.tamper.band = .normal then
        (s.setTamper { s.tamper with band := .limit }).latch .temperatureWarning
       else s.setTamper { s.tamper with band := .limit }) := by
  simp [moveBand, hb]

theorem tamper_of_powered (inputs : BitVec 3) (hp : s.powered = true) :
    tamper inputs s = (zeroize (setLatch inputs s)).setDevice .tampered := if_pos hp

theorem tamper_account (inputs : BitVec 3) (s : State) (i : SlotId) : (tamper inputs s).account i = none := by
  unfold tamper
  split <;> exact congrArg Slot.account (slot_emptyTable (setLatch inputs s) i)

end

/-- What the statements say of a move into LIMIT under main power. -/
theorem moveBand_limit_powered {s : State} (hp : s.powered = true) (hb : s.tamper.band ≠ .limit) :
    (moveBand .limit s).tamper.band = .limit ∧ (moveBand .limit s).device = .tampered ∧
      (moveBand .limit s).tamper.latch = true ∧ (moveBand .limit s).tamper.cause = s.tamper.cause ||| 2 ∧
      (moveBand .limit s).events.latched =
        (if s.tamper.band = .normal then s.events.latched ||| Event.temperatureWarning.bit else s.events.latched) ∧
      ∀ i, (moveBand .limit s).account i = none := by
  rw [moveBand_limit hb]
  split
  · next warned =>
    have entered := tamper_of_powered (s := (s.setTamper { s.tamper with band := .limit }).latch .temperatureWarning)
      TamperInput.temperature.bit hp
    rw [entered, if_pos warned.2]
    exact ⟨rfl, rfl, rfl, rfl, rfl, fun i => entered ▸ tamper_account _ _ i⟩
  · next quiet =>
    have entered := tamper_of_powered (s := s.setTamper { s.tamper with band := .limit }) TamperInput.temperature.bit hp
    rw [entered, if_neg fun hn => quiet ⟨hp, hn⟩]
    exact ⟨rfl, rfl, rfl, rfl, rfl, fun i => entered ▸ tamper_account _ _ i⟩

/-- What the statements say of a move into LIMIT without main power. -/
theorem moveBand_limit_powerless {s : State} (hp : s.powered = false) (hb : s.tamper.band ≠ .limit) :
    moveBand .limit s =
      { s with
        tamper := { s.tamper with latch := true, cause := s.tamper.cause ||| 2, band := .limit }
        table := Vector.replicate 192 Slot.empty } := by
  have quiet : ¬ (s.powered = true ∧ s.tamper.band = .normal) := fun h => by simp [hp] at h
  have entered := tamper_of_powerless (s := s.setTamper { s.tamper with band := .limit }) hp TamperInput.temperature.bit
  rw [moveBand_limit hb, if_neg quiet, entered]
  rfl

/-- A reading that moves the band. -/
theorem exec_temperatureReading {s : State} {c : Int} {b : Band} (h : s.tamper.band.after c = b) :
    exec (.temperatureReading c) s = .next (moveBand b s) := by
  subst h; rfl

/-- Settles O60: the table of R167 row by row, and what each move of the band does. -/
theorem temperatureBand : Obligations.TemperatureBand := by
  refine ⟨fun s c hp => ⟨fun hb => ⟨fun h h' => ?_, fun h h' out => ?_, fun out => ?_⟩,
      fun hb => ⟨fun h h' => ?_, fun h h' out => ?_, fun out => ?_⟩,
      fun hb => ⟨fun h h' => ?_, fun h h' out => ?_, fun out => ?_⟩⟩,
    fun s c hp => ⟨fun hb => ⟨fun h h' => ?_, fun h h' out => ?_, fun out => ?_⟩,
      fun hb => ⟨fun h h' => ?_, fun h h' out => ?_, fun out => ?_⟩,
      fun hb => ⟨fun h h' => ?_, fun h h' out => ?_, fun out => ?_⟩⟩⟩
  · rw [exec_temperatureReading (hb ▸ after_normal_inside h h'), moveBand_self rfl]
  · rw [exec_temperatureReading (hb ▸ after_normal_outside h h' out), moveBand_warns hp hb]; rfl
  · have entered : s.tamper.band ≠ .limit := by rw [hb]; decide
    obtain ⟨band, device, latch, cause, latched, empty⟩ := moveBand_limit_powered hp entered
    exact ⟨_, exec_temperatureReading (after_beyond entered out), band, device, latch, cause,
      latched.trans (if_pos hb), empty⟩
  · rw [exec_temperatureReading (hb ▸ after_warning_inside h h'), moveBand_quiet (by decide) (.inr (by rw [hb]; decide))]; rfl
  · rw [exec_temperatureReading (hb ▸ after_warning_outside h h' out), moveBand_self rfl]
  · have entered : s.tamper.band ≠ .limit := by rw [hb]; decide
    obtain ⟨band, device, latch, -, latched, empty⟩ := moveBand_limit_powered hp entered
    exact ⟨_, exec_temperatureReading (after_beyond entered out), band, device, latch,
      latched.trans (if_neg (by rw [hb]; decide)), empty⟩
  · rw [exec_temperatureReading (hb ▸ after_limit_inside h h'), moveBand_quiet (by decide) (.inr (by rw [hb]; decide))]; rfl
  · rw [exec_temperatureReading (hb ▸ after_limit_between h h' out), moveBand_quiet (by decide) (.inr (by rw [hb]; decide))]
    rfl
  · rw [exec_temperatureReading (hb ▸ after_limit_outside out), moveBand_self rfl]
  · rw [exec_temperatureReading (hb ▸ after_normal_inside h h'), moveBand_self rfl]
  · rw [exec_temperatureReading (hb ▸ after_normal_outside h h' out), moveBand_quiet (by decide) (.inl hp)]; rfl
  · have entered : s.tamper.band ≠ .limit := by rw [hb]; decide
    rw [exec_temperatureReading (after_beyond entered out), moveBand_limit_powerless hp entered]; rfl
  · rw [exec_temperatureReading (hb ▸ after_warning_inside h h'), moveBand_quiet (by decide) (.inl hp)]; rfl
  · rw [exec_temperatureReading (hb ▸ after_warning_outside h h' out), moveBand_self rfl]
  · have entered : s.tamper.band ≠ .limit := by rw [hb]; decide
    rw [exec_temperatureReading (after_beyond entered out), moveBand_limit_powerless hp entered]; rfl
  · rw [exec_temperatureReading (hb ▸ after_limit_inside h h'), moveBand_quiet (by decide) (.inl hp)]; rfl
  · rw [exec_temperatureReading (hb ▸ after_limit_between h h' out), moveBand_quiet (by decide) (.inl hp)]; rfl
  · rw [exec_temperatureReading (hb ▸ after_limit_outside out), moveBand_self rfl]

/-! ## Tamper causes (R166, R168) -/

theorem activate_enclosure {s : State} (h : s.tamper.enclosureActive = false) :
    activate .enclosure s = tamper TamperInput.enclosure.bit (s.setTamper { s.tamper with enclosureActive := true }) :=
  if_neg (by rw [h]; decide)

theorem activate_supply {s : State} (hp : s.powered = true) (h : s.tamper.supplyActive = false) :
    activate .supply s = tamper TamperInput.supply.bit (s.setTamper { s.tamper with supplyActive := true }) :=
  if_neg (by rw [h, hp]; decide)

theorem moveBand_limit_of_warning {s : State} (h : s.tamper.band = .warning) :
    moveBand .limit s = tamper TamperInput.temperature.bit (s.setTamper { s.tamper with band := .limit }) := by
  rw [moveBand_limit (by rw [h]; decide), if_neg fun hn => by rw [h] at hn; cases hn.2]

/-- The levels after a cause, as the statement gives them for each input. -/
theorem levels_after (m : TamperMonitor) :
    (m.enclosureActive || TamperInput.supply == .enclosure) = m.enclosureActive ∧
      (m.enclosureActive || TamperInput.temperature == .enclosure) = m.enclosureActive ∧
      (m.supplyActive || TamperInput.enclosure == .supply) = m.supplyActive ∧
      (m.supplyActive || TamperInput.temperature == .supply) = m.supplyActive ∧
      (m.enclosureActive || TamperInput.enclosure == .enclosure) = true ∧
      (m.supplyActive || TamperInput.supply == .supply) = true := by
  cases m.enclosureActive <;> cases m.supplyActive <;> decide

/-- Settles O59: an input that was inactive is a tamper cause; zeroization is the table of R169. -/
theorem tamperCauseZeroizes : Obligations.TamperCauseZeroizes := by
  refine ⟨fun s input hp hi => ?_, fun s input hp => ⟨fun hi => ?_, ?_⟩, fun s => ⟨fun h => ?_, fun h => ?_, fun h => ?_⟩,
    fun s => ⟨rfl, rfl⟩⟩
  · obtain ⟨se, te, es, ts, ee, ss⟩ := levels_after s.tamper
    refine congrArg Host.Outcome.next ?_
    rcases hi with ⟨rfl, ha⟩ | ⟨rfl, ha⟩ | ⟨rfl, hb⟩
    · rw [activate_enclosure ha, es, ee]
      exact tamper_of_powered (s := s.setTamper { s.tamper with enclosureActive := true }) TamperInput.enclosure.bit hp
    · rw [activate_supply hp ha, se, ss]
      exact tamper_of_powered (s := s.setTamper { s.tamper with supplyActive := true }) TamperInput.supply.bit hp
    · rw [show activate .temperature s = moveBand .limit s from rfl, moveBand_limit_of_warning hb, te, ts]
      exact tamper_of_powered (s := s.setTamper { s.tamper with band := .limit }) TamperInput.temperature.bit hp
  · obtain ⟨se, te, es, ts, ee, ss⟩ := levels_after s.tamper
    refine congrArg Host.Outcome.next ?_
    rcases hi with ⟨rfl, ha⟩ | ⟨rfl, hb⟩
    · rw [activate_enclosure ha, ee]
      exact tamper_of_powerless (s := s.setTamper { s.tamper with enclosureActive := true }) hp TamperInput.enclosure.bit
    · rw [te]
      exact moveBand_limit_powerless hp hb
  · exact congrArg Host.Outcome.next (if_pos (.inr hp))
  · exact congrArg Host.Outcome.next (if_pos h)
  · exact congrArg Host.Outcome.next (if_pos (.inl h))
  · exact congrArg Host.Outcome.next (moveBand_self h)

/-! ## The restart event (R173 to R175) -/

theorem exec_consoleAnswerEnd_of_closed {s : State} {a : ConsoleAnswer} (hp : s.powered = true)
    (ha : s.console.receiver = .closed a) (straps : BitVec 4) (senses : BitVec 8) :
    exec (.consoleAnswerEnd straps senses) s = .next
      (if a.restarts then restartEvent straps senses (s.setConsole { s.console with receiver := .hunting })
       else s.setConsole { s.console with receiver := .hunting }) := by
  show Host.Outcome.next _ = _
  simp only [hp, if_true, ha]

/-- The inputs found active are those of the statement. -/
theorem activeInputs_eq (m : TamperMonitor) :
    m.activeInputs = (if m.enclosureActive then 1 else 0) ||| (if m.band = .limit then 2 else 0) |||
      (if m.supplyActive then 4 else 0) := rfl

theorem activeInputs_eq_zero_iff {m : TamperMonitor} :
    m.activeInputs = 0 ↔ m.enclosureActive = false ∧ m.supplyActive = false ∧ m.band ≠ .limit := by
  rw [activeInputs_eq]
  cases m.enclosureActive <;> cases m.supplyActive <;> by_cases hb : m.band = .limit <;> simp [hb]

/-- Steps 4 to 6 of the restart event by latch and inputs. -/
theorem enterService_latched {s : State} (h : s.tamper.latch = true) :
    enterService s = (s.setTamper { s.tamper with cause := s.tamper.cause ||| s.tamper.activeInputs }).setDevice .tampered :=
  if_pos h

theorem enterService_clear {s : State} (h : s.tamper.latch = false) (ha : s.tamper.activeInputs = 0) :
    enterService s = s.setDevice (.starting 0) := by
  unfold enterService
  rw [if_neg (by rw [h]; decide), if_pos ha]

theorem enterService_active {s : State} (h : s.tamper.latch = false) (ha : s.tamper.activeInputs ≠ 0) :
    enterService s = tamper s.tamper.activeInputs s := by
  unfold enterService
  rw [if_neg (by rw [h]; decide), if_neg ha]

theorem ConsoleAnswer.restarts_iff {a : ConsoleAnswer} : a.restarts = true ↔ a.kind = 0x82 ∧ a.code = .ok := by
  simp [ConsoleAnswer.restarts, show answerKind Kind.restart = 0x82 by decide]

/-- A zeroization right after volatile state was cleared finds the table alone to empty. -/
theorem zeroize_clearVolatile (straps : BitVec 4) (senses : BitVec 8) (s : State) (x : TamperMonitor) (e : EventUnit) :
    zeroize { clearVolatile straps senses s with tamper := x, events := e } =
      { clearVolatile straps senses s with
        tamper := x, events := e, table := Vector.replicate 192 { account := none, words := [], waiting := [] } } := by
  have lines : (clearVolatile straps senses s).lines.map CustodianLine.zeroized = (clearVolatile straps senses s).lines :=
    Vector.map_replicate
  have stations : (clearVolatile straps senses s).stations.map Station.zeroized = (clearVolatile straps senses s).stations := by
    simp [clearVolatile, Station.zeroized, Station.cleared, Vector.ext_iff]
  unfold zeroize emptyTable
  dsimp only
  rw [lines, stations]
  rfl

/-- Settles O20: the receiver hunts again; after an accepted RESTART the volatile state is cleared and the inputs judged. -/
theorem answerEnds : Obligations.AnswerEnds := by
  intro s a straps senses hp ha
  have event (hk : a.kind = 0x82) (hc : a.code = .ok) : exec (.consoleAnswerEnd straps senses) s = .next
      (enterService (indicateRestart (clearVolatile straps senses s))) := by
    rw [exec_consoleAnswerEnd_of_closed hp ha, if_pos (ConsoleAnswer.restarts_iff.2 ⟨hk, hc⟩)]
    rfl
  have same : (indicateRestart (clearVolatile straps senses s)).tamper = s.tamper := rfl
  refine ⟨fun h => ?_, fun hk hc hl he hs hb => ?_, fun hk hc => ⟨fun hl => ?_, fun hl hactive => ?_⟩⟩
  · rw [exec_consoleAnswerEnd_of_closed hp ha, if_neg (mt ConsoleAnswer.restarts_iff.1 h)]
    rfl
  · rw [event hk hc, enterService_clear (same ▸ hl) (same ▸ activeInputs_eq_zero_iff.2 ⟨he, hs, hb⟩)]
    rfl
  · rw [event hk hc, enterService_latched (same ▸ hl)]
    rfl
  · have cleared : (indicateRestart (clearVolatile straps senses s)).powered = true := hp
    rw [event hk hc, enterService_active (same ▸ hl) (same ▸ hactive), tamper_of_powered _ cleared]
    exact congrArg (fun t => Host.Outcome.next (State.setDevice t .tampered)) (zeroize_clearVolatile straps senses s _ _)

theorem slot_clearVolatile_of_account {straps : BitVec 4} {senses : BitVec 8} {s : State} {i : SlotId} {a : Account}
    (h : s.account i = some a) : (clearVolatile straps senses s).slot i =
      if a.state = .assembling then { account := none, words := [], waiting := [] } else { s.slot i with waiting := [] } := by
  rw [slot_clearVolatile, Slot.restart]
  split
  · next empty => exact absurd (empty.symm.trans h) (by simp)
  · next b hb =>
    obtain rfl : b = a := Option.some_inj.1 (hb.symm.trans h)
    rfl

theorem line_clearVolatile (straps : BitVec 4) (senses : BitVec 8) (s : State) (l : Line) :
    (clearVolatile straps senses s).line l =
      { receiver := .hunting, sending := none, last := { outcome := .none, slot := 0, check := none } } := by
  simp [clearVolatile, State.line, LastOutcome.initial]

theorem station_clearVolatile (straps : BitVec 4) (senses : BitVec 8) (s : State) (st : StationId) :
    (clearVolatile straps senses s).station st = Station.cleared (senses.getLsbD st.val) := by
  simp [clearVolatile, State.station]

/-- POWER_ON (R173): the first reading sets the band before the inputs are judged. -/
theorem exec_powerOn_eq (straps : BitVec 4) (senses : BitVec 8) (c : Int) (s : State) :
    exec (.powerOn straps senses c) s = .next (enterService
      (firstReading c (indicateRestart { clearVolatile straps senses s with powered := true }))) := rfl

theorem firstReading_of_inside {c : Int} (h : Band.normal.after c = .normal) (s : State) :
    firstReading c s = s.setTamper { s.tamper with band := .normal, supplyActive := false } := by
  simp only [firstReading, h, if_true]

theorem firstReading_of_warning {c : Int} (h : Band.normal.after c = .warning) (s : State) :
    firstReading c s =
      (s.setTamper { s.tamper with band := .warning, supplyActive := false }).latch .temperatureWarning := by
  simp [firstReading, h]

/-- What a first reading sets. -/
theorem firstReading_tamper (c : Int) (s : State) :
    (firstReading c s).tamper = { s.tamper with band := Band.normal.after c, supplyActive := false } := by
  unfold firstReading
  dsimp only
  split <;> rfl

/-- A part in service with the latch set or an input active is TAMPERED (R175 steps 4 and 5). -/
theorem enterService_tampered {s : State} (hp : s.powered = true) (h : s.tamper.latch = true ∨ s.tamper.activeInputs ≠ 0) :
    (enterService s).powered = true ∧ (enterService s).device = .tampered ∧ (enterService s).tamper.latch = true ∧
      (enterService s).events = s.events ∧ (enterService s).console.unitAddress = s.console.unitAddress ∧
      (enterService s).console.settings = s.console.settings := by
  by_cases hl : s.tamper.latch = true
  · rw [enterService_latched hl]
    exact ⟨hp, rfl, hl, rfl, rfl, rfl⟩
  · have active := h.resolve_left hl
    rw [enterService_active (Bool.eq_false_iff.2 hl) active, tamper_of_powered _ hp]
    exact ⟨hp, rfl, rfl, rfl, rfl, rfl⟩

theorem slot_powerDown (s : State) (i : SlotId) :
    ({ clearVolatile 0 0 s with
        powered := false, device := .starting 0, table := s.table.map Slot.clearWaiting,
        events := { s.events with restartIndication := false }, tamper := { s.tamper with supplyActive := false } } : State).slot
      i = { s.slot i with waiting := [] } := by
  simp [State.slot, Slot.clearWaiting]

/-- Settles O21: a restart event clears what is volatile; POWER_ON judges latch, enclosure and first reading. -/
theorem powerOnAndDown : Obligations.PowerOnAndDown := by
  refine ⟨fun s straps senses => ⟨rfl, rfl, rfl, rfl, line_clearVolatile straps senses s, station_clearVolatile straps senses s,
      fun i a ha => slot_clearVolatile_of_account ha, rfl, rfl⟩,
    fun s straps senses c hl he h h' => ?_, fun s straps senses c hl he hc => ?_, fun s straps senses c h => ?_, fun s => ?_⟩
  · rw [exec_powerOn_eq, firstReading_of_inside (after_normal_inside h h')]
    exact congrArg Host.Outcome.next (enterService_clear (s := State.setTamper _ _) hl
      (activeInputs_eq_zero_iff.2 ⟨he, rfl, fun h => by cases h⟩))
  · rw [exec_powerOn_eq, firstReading_of_warning (after_normal_outside (by omega) (by omega) (by omega))]
    exact congrArg Host.Outcome.next (enterService_clear (s := State.latch _ _) hl
      (activeInputs_eq_zero_iff.2 ⟨he, rfl, fun h => by cases h⟩))
  · refine ⟨_, exec_powerOn_eq straps senses c s, ?_⟩
    have judged := firstReading_tamper c (indicateRestart { clearVolatile straps senses s with powered := true })
    have stays : ∀ u : State, (firstReading c u).powered = u.powered ∧ (firstReading c u).console = u.console ∧
        (firstReading c u).events.restartIndication = u.events.restartIndication := fun u => by
      unfold firstReading
      dsimp only
      split <;> exact ⟨rfl, rfl, rfl⟩
    obtain ⟨powered, console, indication⟩ := stays (indicateRestart { clearVolatile straps senses s with powered := true })
    generalize firstReading c _ = u at judged powered console indication ⊢
    have tampered : u.tamper.latch = true ∨ u.tamper.activeInputs ≠ 0 := by
      rw [judged, Ne, activeInputs_eq_zero_iff]
      rcases h with hl | he | hc
      · exact .inl hl
      · exact .inr fun ⟨h, _, _⟩ => absurd (h.symm.trans he) (by decide)
      · exact .inr fun ⟨_, _, h⟩ => h (after_beyond (b := .normal) (by decide) hc)
    obtain ⟨hp, hd, hl, he, ha, hs⟩ := enterService_tampered powered tampered
    exact ⟨hp, hd, hl, he ▸ indication, by rw [ha, console]; rfl, by rw [hs, console]; rfl⟩
  · exact ⟨_, rfl, rfl, rfl, rfl, rfl, rfl, rfl, rfl, rfl, rfl, rfl, slot_powerDown s⟩

end Sys2Proof.Machine

/-! # The machine at reset, and its first steps -/

namespace Sys2Proof.Machine

/-- Settles O1: by the definition of a step. -/
theorem stepRunsFrontCommand : Obligations.StepRunsFrontCommand := fun _ _ _ => rfl

section
variable (i : SlotId) (st : StationId) (l : Line)

theorem slot_reset : State.reset.slot i = Slot.empty := by simp [State.slot, State.reset]

theorem station_reset : State.reset.station st = Station.cleared false := by simp [State.station, State.reset]

theorem line_reset : State.reset.line l = { receiver := .hunting, sending := none, last := LastOutcome.initial } := by
  simp [State.line, State.reset]

theorem account_reset : State.reset.account i = none := by rw [State.account, slot_reset]; rfl

end

/-- Settles O3: the values of a new part. -/
theorem resetState : Obligations.ResetState := by
  refine ⟨rfl, rfl, rfl, rfl, rfl, rfl, rfl, rfl, rfl, rfl, rfl, rfl, rfl, rfl, fun l => ?_, fun st => ?_, fun i => ?_⟩
  · rw [line_reset]; rfl
  · rw [station_reset]; exact ⟨rfl, rfl, rfl, rfl, rfl⟩
  · exact ⟨account_reset i, by rw [slot_reset]; rfl⟩

/-- A station at rest without a binding. -/
theorem Station.cleared_shaped (present : Bool) : (Station.cleared present).Shaped := by
  refine ⟨fun _ => rfl, fun h => absurd (by show StationState.unbound ∈ _; decide) h, fun _ => rfl, fun h => (by cases h), fun h => (by cases h),
    fun h => (by cases h), fun _ => rfl, fun h => absurd h (by show StationState.unbound ∉ _; decide), ?_, ⟨fun h => absurd rfl h, fun h => (by cases h)⟩, ?_⟩
  · show StationState.unbound ∉ _; decide
  · exact ⟨by show StationState.unbound ≠ _; decide, by show StationState.unbound ≠ _; decide⟩

/-- Where every slot is EMPTY and every station cleared, no law of the stations is touched. -/
theorem stationsLawful_of_cleared {s : State} (hslots : ∀ i, s.slot i = Slot.empty)
    (hstations : ∀ st, ∃ present, s.station st = Station.cleared present) : s.StationsLawful := by
  have account : ∀ i, s.account i = none := fun i => by rw [State.account, hslots]; rfl
  have cleared : ∀ st, (s.station st).Shaped ∧ (s.station st).base = none ∧ (s.station st).package = none ∧
      (s.station st).state = .unbound := fun st => by
    obtain ⟨present, h⟩ := hstations st
    rw [h]
    exact ⟨Station.cleared_shaped _, rfl, rfl, rfl⟩
  have noNumber : ∀ i n, ¬ s.outstandingAt i n := fun i n ⟨a, _, ha, _⟩ => by rw [account] at ha; cases ha
  have noClaim : ∀ st i n, ¬ (s.station st).claims i n := fun st i n ⟨p, hp, _⟩ => by
    obtain ⟨-, -, hn, -⟩ := cleared st
    rw [hn] at hp
    cases hp
  refine ⟨fun st => (cleared st).1, fun st i h => ?_, fun i => ?_, fun st p h => ?_, fun st tt i n h => absurd h (noClaim st i n),
    fun _ _ i n h => absurd h (noNumber i n), fun i n a h => ?_, fun _ st => (cleared st).2.2.2⟩
  · obtain ⟨-, hb, -, -⟩ := cleared st; rw [hb] at h; cases h
  · rw [hslots]
    refine ⟨List.nodup_nil, fun st => ⟨fun h => absurd h List.not_mem_nil, fun h => ?_⟩⟩
    obtain ⟨-, hb, -, -⟩ := cleared st
    rw [hb] at h
    cases h.2
  · obtain ⟨-, -, hn, -⟩ := cleared st; rw [hn] at h; cases h
  · rw [account] at h; cases h

/-- Settles O8: the table is EMPTY, no ticket, no station at work. -/
theorem resetIsSafe : Obligations.ResetIsSafe := by
  refine ⟨⟨fun i => ?_, .inr rfl⟩, fun i j a b _ ha => ?_, .of_no_tickets (Nat.zero_le _), ?_,
    stationsLawful_of_cleared slot_reset fun st => ⟨false, station_reset st⟩, fun _ _ _ => ⟨⟨rfl, rfl⟩, fun st => ?_, fun i => ?_⟩⟩
  · rw [slot_reset]; exact ⟨rfl, rfl⟩
  · rw [account_reset] at ha; cases ha
  · exact ⟨fun h => (by cases h), fun _ h => (by cases h), ⟨fun h => (by cases h), fun h => absurd rfl h⟩,
      fun h => (by cases h), fun h => (by cases h)⟩
  · rw [station_reset]; exact ⟨rfl, rfl⟩
  · exact ⟨by rw [slot_reset]; rfl, fun a ha => by rw [account_reset] at ha; cases ha⟩

end Sys2Proof.Machine

/-! # The Console Link: refusals, link commands, frames that are discarded (chapters 10 to 12) -/

namespace Sys2Proof.Machine

/-! ## The lengths of payloads (R180, R202) -/

section
variable (p : Payload)

theorem noOperands_isSome : (noOperands p).isSome = (p.length == 0) := by
  rcases p with _ | ⟨a, p⟩ <;> rfl

theorem oneByte_isSome : (oneByte p).isSome = (p.length == 1) := by
  rcases p with _ | ⟨a, _ | ⟨b, p⟩⟩ <;> rfl

theorem twoBytes_isSome : (twoBytes p).isSome = (p.length == 2) := by
  rcases p with _ | ⟨a, _ | ⟨b, _ | ⟨c, p⟩⟩⟩ <;> rfl

theorem threeBytes_isSome : (threeBytes p).isSome = (p.length == 3) := by
  rcases p with _ | ⟨a, _ | ⟨b, _ | ⟨c, _ | ⟨d, p⟩⟩⟩⟩ <;> rfl

theorem exactly_isSome (n : Nat) : (exactly n p).isSome = (p.length == n) := by
  unfold exactly
  split <;> simp [*]

theorem settingsOperands_isSome : (settingsOperands p).isSome = (p.length == 10) := by
  unfold settingsOperands
  split <;> simp [*]

theorem byteAt_eq_iff {i : Nat} {b : Byte} (h : i < p.length) : byteAt p i = b ↔ p[i]? = some b := by
  simp [byteAt, List.getD_eq_getElem?_getD, List.getElem?_eq_getElem h]

theorem createOperands_isSome : (createOperands p).isSome =
    (p.length == 29 && p[1]? != some 2 || p.length == 15 && p[1]? != some 1) := by
  have fits : ((p.length = 29 ∧ byteAt p 1 ≠ 2) ∨ (p.length = 15 ∧ byteAt p 1 ≠ 1)) ↔
      (p.length == 29 && p[1]? != some 2 || p.length == 15 && p[1]? != some 1) = true := by
    simp only [Bool.or_eq_true, Bool.and_eq_true, beq_iff_eq, bne_iff_ne]
    have second (b : Byte) (h : 1 < p.length) : byteAt p 1 ≠ b ↔ p[1]? ≠ some b := not_congr (byteAt_eq_iff p h)
    constructor
    · rintro (⟨hl, hb⟩ | ⟨hl, hb⟩)
      · exact .inl ⟨hl, (second 2 (by omega)).1 hb⟩
      · exact .inr ⟨hl, (second 1 (by omega)).1 hb⟩
    · rintro (⟨hl, hb⟩ | ⟨hl, hb⟩)
      · exact .inl ⟨hl, (second 2 (by omega)).2 hb⟩
      · exact .inr ⟨hl, (second 1 (by omega)).2 hb⟩
  unfold createOperands
  dsimp only
  split
  · next h => exact (fits.1 h).symm
  · next h => exact (Bool.eq_false_iff.2 (mt fits.2 h)).symm

end

/-- Every console form goes through the refusals of R180 with its kind and payload, and has operands when its length fits. -/
theorem exec_of_consoleForm {c : Instr} {kind : Byte} {p : Payload} (h : consoleForm c = some (kind, p)) :
    ∃ owner : Option (State → Reply), (∀ s, exec c s = .next (consoleCommand kind p owner s)) ∧
      owner.isSome = fitsKind kind p := by
  cases c <;> cases h
  case status | restart | ackRestart | readEvents | readSettings | readTickets =>
    exact ⟨_, fun _ => rfl, by rw [Option.isSome_map, noOperands_isSome]; rfl⟩
  case cancelAssembly | suspend | resume | retire | release | verify | dismissTicket | unbind | arm | disarm | abort |
      readStations =>
    exact ⟨_, fun _ => rfl, by rw [Option.isSome_map, oneByte_isSome]; rfl⟩
  case readRecords | findModel | narrow | clearHold =>
    exact ⟨_, fun _ => rfl, by rw [Option.isSome_map, twoBytes_isSome]; rfl⟩
  case bind => exact ⟨_, fun _ => rfl, by rw [Option.isSome_map, threeBytes_isSome]; rfl⟩
  case setAlertMask | openTicket | findLabel => exact ⟨_, fun _ => rfl, by rw [Option.isSome_map, exactly_isSome]; rfl⟩
  case setSettings => exact ⟨_, fun _ => rfl, by rw [Option.isSome_map, settingsOperands_isSome]; rfl⟩
  case create => exact ⟨_, fun _ => rfl, by rw [Option.isSome_map, createOperands_isSome]; rfl⟩

/-! ## The refusals (R179 to R181) -/

section
variable {s : State} {kind : Byte} {p : Payload}

theorem consoleCommand_of_deaf (h : s.takesCommand = false) (owner : Option (State → Reply)) :
    consoleCommand kind p owner s = s := by simp [consoleCommand, h]

theorem consoleCommand_none (h : s.takesCommand = true) : consoleCommand kind p none s = answered kind .badLength [] s := by
  simp [consoleCommand, h, deliver_eq, reply]

theorem admits_starting {k : Nat} (hs : kind ≠ 0x01) (hr : kind ≠ 0x02) : admits (.starting k) kind p = false := by
  simp only [admits, Kind.status, Kind.restart, Bool.or_eq_false_iff, beq_eq_false_iff_ne]
  exact ⟨hs, hr⟩

theorem admits_tampered (hk : kind ∉ ([0x01, 0x04, 0x21, 0x06, 0x22] : List Byte)) (ho : ¬ (kind = 0x20 ∧ p[0]? = some 5))
    (hp : kind = 0x20 → p ≠ []) : admits .tampered kind p = false := by
  have first : kind = 0x20 → byteAt p 0 ≠ Action.clearTamper.code := fun hkind hb =>
    ho ⟨hkind, (byteAt_eq_iff p (List.length_pos_iff.2 (hp hkind))).1 hb⟩
  unfold admits
  simp only [Bool.or_eq_false_iff, Bool.and_eq_false_imp, beq_eq_false_iff_ne, beq_iff_eq]
  exact ⟨by simpa [Kind.status, Kind.readEvents, Kind.readTickets, Kind.readSettings, Kind.dismissTicket] using hk, first⟩

end

/-- Settles O13: length, then device state, before the owning rule is asked. -/
theorem consoleRefusals : Obligations.ConsoleRefusals := by
  refine ⟨fun s kind p ht hk hu => ?_, fun c kind p s h => ?_⟩
  · have notAnswer : ¬ (isAnswerKind kind = true ∨ kind ∈ consoleKinds) := by
      rintro (ha | hu')
      · simp [isAnswerKind] at ha; omega
      · exact hu hu'
    exact congrArg Host.Outcome.next ((if_neg notAnswer).trans (if_pos ht))
  · obtain ⟨owner, hexec, hfits⟩ := exec_of_consoleForm h
    refine ⟨fun ht => ?_, fun ht hf => ?_, fun ht hf ⟨k, hd⟩ hs hr => ?_, fun ht hf hd hk ho => ?_⟩
    · rw [hexec, consoleCommand_of_deaf ht]
    · rw [hf, Option.isSome_eq_false_iff, Option.isNone_iff_eq_none] at hfits
      rw [hexec, hfits, consoleCommand_none ht]
    · obtain ⟨f, rfl⟩ := Option.isSome_iff_exists.1 (hfits.trans hf)
      have refused : admits s.device kind p = false := hd ▸ admits_starting hs hr
      rw [hexec, consoleCommand_of_not_admits ht refused, hd]
      rfl
    · obtain ⟨f, rfl⟩ := Option.isSome_iff_exists.1 (hfits.trans hf)
      have carried : kind = 0x20 → p ≠ [] := by
        rintro rfl rfl
        exact absurd hf (by decide)
      have refused : admits s.device kind p = false := hd ▸ admits_tampered hk ho carried
      rw [hexec, consoleCommand_of_not_admits ht refused, hd]
      rfl

/-! ## The status summary and the alert output (R183, R193, R204) -/

theorem anyHeld_iff {s : State} : anyHeld s = true ↔ ∃ st, (s.station st).state = .held := by
  simp [anyHeld, mem_allStations]

theorem alertAsserted_iff {s : State} (hp : s.powered = true) :
    alertAsserted s = true ↔ s.events.latched &&& ~~~ s.events.mask ≠ 0 ∨ (∃ st, (s.station st).state = .held) ∨
      s.events.restartIndication = true ∨ s.device = .tampered := by
  simp only [alertAsserted, hp, Bool.true_and, Bool.or_eq_true, anyHeld_iff, bne_iff_ne, beq_iff_eq, or_assoc]

/-- The bits of a status summary, whatever its parts (R204). -/
theorem summary_bits : ∀ (d : Fin 3) (alert indication pending held latched : Bool),
    let x := BitVec.ofNat 8 (d.val * 64 + flagAt alert 5 + flagAt indication 4 + flagAt pending 3 + flagAt held 2 +
      flagAt latched 1)
    x.extractLsb' 6 2 = BitVec.ofNat 2 d.val ∧ x.getLsbD 5 = alert ∧ x.getLsbD 4 = indication ∧ x.getLsbD 3 = pending ∧
      x.getLsbD 2 = held ∧ x.getLsbD 1 = latched ∧ x.getLsbD 0 = false := by
  decide

theorem statusSummary_bits (s : State) :
    (statusSummary s).extractLsb' 6 2 =
        (match s.device with
         | .starting _ => 0
         | .operational => 1
         | .tampered => 2) ∧
      (statusSummary s).getLsbD 5 = alertAsserted s ∧ (statusSummary s).getLsbD 4 = s.events.restartIndication ∧
      (statusSummary s).getLsbD 3 = s.console.verifyPending ∧
      ((statusSummary s).getLsbD 2 = true ↔ ∃ st, (s.station st).state = .held) ∧
      ((statusSummary s).getLsbD 1 = true ↔ s.events.latched ≠ 0) ∧ (statusSummary s).getLsbD 0 = false := by
  have code : s.device.code < 3 := by cases s.device <;> simp [DeviceState.code]
  obtain ⟨device, alert, indication, pending, held, latched, last⟩ :=
    summary_bits ⟨s.device.code, code⟩ (alertAsserted s) s.events.restartIndication s.console.verifyPending (anyHeld s)
      (s.events.latched != 0)
  refine ⟨device.trans ?_, alert, indication, pending, ?_, ?_, last⟩
  · show BitVec.ofNat 2 s.device.code = _
    cases s.device <;> rfl
  · exact (congrArg (· = true) held).to_iff.trans anyHeld_iff
  · exact (congrArg (· = true) latched).to_iff.trans bne_iff_ne

/-! ## STATUS, READ_EVENTS, SET_ALERT_MASK, ACK_RESTART, RESTART -/

theorem admits_status (d : DeviceState) (p : Payload) : admits d Kind.status p = true := by
  cases d <;> simp [admits]

theorem admits_readEvents {d : DeviceState} (hd : ∀ k, d ≠ .starting k) (p : Payload) :
    admits d Kind.readEvents p = true := by
  cases d with
  | starting k => exact absurd rfl (hd k)
  | operational | tampered => simp [admits]

theorem admits_restart {d : DeviceState} (hd : d ≠ .tampered) (p : Payload) : admits d Kind.restart p = true := by
  cases d with
  | tampered => exact absurd rfl hd
  | operational | starting => simp [admits]

theorem exactly_of_length {n : Nat} {p : Payload} (h : p.length = n) : exactly n p = some p := if_pos h

/-- A served command with fitting operands is decided by its owning rule (R180 check 4). -/
theorem consoleCommand_map_of_serves {α : Type} {s : State} (hs : s.Serves) {kind : Byte} {p : Payload} {o : Option α} {x : α}
    (ho : o = some x) (f : α → State → Reply) : consoleCommand kind p (o.map f) s =
      answered kind (f x s).code ((f x s).data (feed (f x s).state)) (f x s).state := by
  rw [ho]
  exact consoleCommand_of_serves hs kind p (f x)

/-- Settles O14: each link command by its owning rule; the summary by its bits. -/
theorem linkCommands : Obligations.LinkCommands := by
  refine ⟨fun s => ⟨alertAsserted_iff, statusSummary_bits s⟩, fun s ht => ?_, fun s ht hd => ?_, fun s p hs hl => ?_,
    fun s hs => ?_, fun s ht hd => ?_⟩
  · exact congrArg Host.Outcome.next (consoleCommand_of_admits ht (admits_status _ _) _)
  · exact congrArg Host.Outcome.next (consoleCommand_of_admits ht (admits_readEvents hd _) readEvents)
  · have asked := consoleCommand_of_serves hs Kind.setAlertMask p (setAlertMask (natOfBytes p))
    have clamp : (if (BitVec.ofNat 19 (natOfBytes p)).toNat = natOfBytes p then AnswerCode.ok else .clamped) =
        if natOfBytes p < 2 ^ 19 then .ok else .clamped := by
      simp only [BitVec.toNat_ofNat, Nat.mod_eq_iff_lt (show 2 ^ 19 ≠ 0 by decide)]
    have asked := consoleCommand_map_of_serves hs (kind := Kind.setAlertMask) (p := p) (exactly_of_length hl)
      fun p => setAlertMask (natOfBytes p)
    exact congrArg Host.Outcome.next (asked.trans (clamp ▸ rfl))
  · exact congrArg Host.Outcome.next (consoleCommand_of_serves hs Kind.ackRestart [] ackRestart)
  · exact congrArg Host.Outcome.next (consoleCommand_of_admits ht (admits_restart hd _) (reply .ok))

end Sys2Proof.Machine

/-! # Frames on the console line (R178, R197 to R199) -/

namespace Sys2Proof.Machine

/-- The console receiver inside a frame with the bytes taken so far. -/
def State.receiving (s : State) (bytes : List Byte) : State := s.setConsole { s.console with receiver := .receiving bytes }

/-- The bytes of a frame between SYNC and CHECK. -/
def Frame.body (f : Frame) : List Byte := f.address :: f.kind :: BitVec.ofNat 8 f.payload.length :: f.payload

theorem Frame.bytes_eq_body (f : Frame) : f.bytes = syncByte :: (f.body ++ [f.check]) := by
  simp [Frame.bytes, Frame.body]

theorem Frame.length_body (f : Frame) : f.body.length = f.payload.length + 3 := rfl

theorem Frame.lengthByte {f : Frame} (hf : f.payload.length ≤ 200) :
    (BitVec.ofNat 8 f.payload.length).toNat = f.payload.length := by
  rw [BitVec.toNat_ofNat]
  omega

/-- A byte of the body ends no frame and breaks none. -/
theorem receiveItem_body {f : Frame} (hf : f.payload.length ≤ 200) {pre rest : List Byte} {b : Byte}
    (h : pre ++ b :: rest = f.body) : receiveItem pre (.character b true) = .still (pre ++ [b]) := by
  have whole : (pre ++ [b]) ++ rest = f.body := by simpa using h
  have short : (pre ++ [b]).length ≤ f.payload.length + 3 := by
    have total := congrArg List.length whole
    rw [List.length_append, f.length_body] at total
    omega
  have notLength : ¬ ((pre ++ [b]).length = 3 ∧ b.toNat > 200) := by
    rintro ⟨h3, hb⟩
    have third : b = BitVec.ofNat 8 f.payload.length := by
      obtain ⟨x, y, rfl⟩ : ∃ x y, pre = [x, y] := List.length_eq_two.1 (by simpa using h3)
      simpa [Frame.body] using (List.cons.inj (List.cons.inj (List.cons.inj h).2).2).1
    rw [third, Frame.lengthByte hf] at hb
    omega
  have notLast : ¬ ((pre ++ [b]).length ≥ 4 ∧ (pre ++ [b]).length = (byteAt (pre ++ [b]) 2).toNat + 4) := by
    rintro ⟨h4, hlast⟩
    have third : byteAt (pre ++ [b]) 2 = BitVec.ofNat 8 f.payload.length := by
      have inside : byteAt f.body 2 = byteAt (pre ++ [b]) 2 := whole ▸ List.getD_append _ _ _ _ (by omega)
      exact inside.symm.trans rfl
    rw [third, Frame.lengthByte hf] at hlast
    omega
  rw [receiveItem, if_neg (by decide), if_neg notLength, if_neg notLast]

/-- The body of a frame, character by character, is taken into the receiver. -/
theorem foldl_body {f : Frame} (hf : f.payload.length ≤ 200) {s : State} (hp : s.powered = true) (rest : List Byte) :
    ∀ pre, pre ++ rest = f.body →
      (rest.map fun b => LineItem.character b true).foldl (fun s x => consoleItem x s) (s.receiving pre) =
        s.receiving f.body := by
  induction rest with
  | nil =>
    intro pre h
    rw [List.append_nil] at h
    rw [h]
    rfl
  | cons b rest ih =>
    intro pre h
    have taken : consoleItem (.character b true) (s.receiving pre) = s.receiving (pre ++ [b]) := by
      have powered : (s.receiving pre).powered = true := hp
      have inside : (s.receiving pre).console.receiver = .receiving pre := rfl
      unfold consoleItem
      simp only [powered, inside, receiveItem_body hf h, if_true]
      rfl
    rw [List.map_cons, List.foldl_cons, taken]
    exact ih (pre ++ [b]) (by simpa using h)

theorem frameOfBytes_body (f : Frame) : frameOfBytes (f.body ++ [f.check]) = f := by
  simp [frameOfBytes, Frame.body, byteAt]

/-- CHECK completes the frame. -/
theorem receiveItem_check {f : Frame} (hf : f.payload.length ≤ 200) :
    receiveItem f.body (.character f.check true) = .frame f := by
  have hlast : f.body.length = (byteAt f.body 2).toNat + 3 :=
    f.length_body.trans (congrArg (· + 3) (Frame.lengthByte hf).symm)
  have sum : (f.body ++ [f.check]).sum = 0x5C := by
    have := f.sum_tail_bytes
    rwa [f.bytes_eq_body] at this
  rw [(receiveItem_last_eq_frame_iff (by rw [f.length_body]; omega) hlast).2 sum, frameOfBytes_body]

/-- The characters of a frame, from HUNTING. -/
theorem foldl_frame {f : Frame} (hf : f.payload.length ≤ 200) {s : State} (hp : s.powered = true)
    (hr : s.console.receiver = .hunting) :
    (f.bytes.map fun b => LineItem.character b true).foldl (fun s x => consoleItem x s) s =
      match consoleFrame s.console.unitAddress f with
      | none => s
      | some c => { s with pending := s.pending ++ [c] } := by
  have begun : consoleItem (.character syncByte true) s = s.receiving [] := by
    unfold consoleItem
    simp only [hp, hr, if_true]
    rfl
  have hunting : s.setConsole { s.console with receiver := .hunting } = s := by rw [← hr]; rfl
  have ended : consoleItem (.character f.check true) (s.receiving f.body) =
      enqueue? (consoleFrame s.console.unitAddress f) s := by
    have powered : (s.receiving f.body).powered = true := hp
    have inside : (s.receiving f.body).console.receiver = .receiving f.body := rfl
    unfold consoleItem
    simp only [powered, inside, receiveItem_check hf, if_true]
    exact congrArg (enqueue? _) hunting
  rw [f.bytes_eq_body, List.map_cons, List.foldl_cons, begun, List.map_append, List.foldl_append,
    foldl_body hf hp f.body [] rfl]
  refine ended.trans ?_
  cases consoleFrame s.console.unitAddress f <;> rfl

/-- Settles O12: byte by byte the receiver takes the frame, and eleven bits are a byte. -/
theorem consoleFrameBecomesCommand : Obligations.ConsoleFrameBecomesCommand := by
  refine fun f s hf hp hr => ⟨foldl_frame hf hp hr, fun since => ?_⟩
  have items := itemsOfBits_lineBits f.bytes since
  calc consoleBits (.idle since) (f.bytes.flatMap characterBits) s
      = (f.bytes.map fun b => LineItem.character b true).foldl (fun s x => consoleItem x s) s := by
        rw [consoleBits, items]
    _ = _ := foldl_frame hf hp hr

end Sys2Proof.Machine

/-! # Frames that are discarded, broadcasts (R53, R123, R129, R137, R179, R185) -/

namespace Sys2Proof.Machine

/-! ## Characters (R197, R199) -/

theorem characterOfBits_levels (data : Byte) (parity stop : Bool) :
    characterOfBits (false :: dataBits data ++ [parity, stop]) =
      some (.character (byteOfBits (dataBits data)) ((dataBits data ++ [parity]).count true % 2 == 0 && stop)) := rfl

theorem byteOfBits_dataBits (data : Byte) : byteOfBits (dataBits data) = data := by
  have sent : characterOfBits (false :: dataBits data ++ [parityBit data, true]) = some (.character data true) :=
    characterOfBits_characterBits data
  rw [characterOfBits_levels, Option.some_inj] at sent
  exact (LineItem.character.inj sent).1

/-! ## Requests that are discarded (R53) -/

theorem custodianRequest_of_discarded {s : State} {l : Line} {kind : Byte}
    {owner : Option (State → State × AnswerCode × List Byte)} (hp : s.powered = true)
    (h : owner = none ∨ (s.line l).sending ≠ none) : custodianRequest l kind owner s = s.latch .lineErrorCustodian := by
  unfold custodianRequest
  rw [if_pos hp]
  split
  · next listening => exact (h.resolve_left (by simp)  listening).elim
  · rfl

theorem map_eq_none_of_length {α β : Type} {o : Option α} {f : α → β} {n : Nat} {p : Payload}
    (ho : o.isSome = (p.length == n)) (h : p.length ≠ n) : o.map f = none := by
  rw [Option.map_eq_none_iff, ← Option.not_isSome_iff_eq_none, ho]
  simpa using h

theorem componentOperands_of_length {p : Payload} (h : p.length ≠ 20 ∧ p.length ≠ 36) : componentOperands p = none :=
  if_neg (by omega)

/-- Settles O17: what a frame that is not taken leaves. -/
theorem discardedFrames : Obligations.DiscardedFrames := by
  refine ⟨fun data parity stop => ?_, fun bytes b => ⟨rfl, rfl⟩, fun s l p c hp h => ?_, fun s ho => ?_, fun s l hp => ?_,
    fun s st hp => ?_, fun s kind p ho hk => ?_⟩
  · have read := characterOfBits_levels data parity stop
    rw [byteOfBits_dataBits] at read
    exact read
  · have discard (kind : Byte) {owner : Option (State → State × AnswerCode × List Byte)}
        (h : owner = none ∨ (s.line l).sending ≠ none) :
        Host.Outcome.next (custodianRequest l kind owner s) = (.next (s.latch .lineErrorCustodian) : Host.Outcome State Fault Refusal) :=
      congrArg _ (custodianRequest_of_discarded hp h)
    rcases h with ⟨rfl, h⟩ | ⟨rfl, h⟩ | ⟨rfl, h⟩ | ⟨rfl, h⟩ | ⟨rfl, h⟩
    · exact discard _ (h.imp_left fun hl => Option.map_eq_none_iff.2 (componentOperands_of_length hl))
    · exact discard _ (h.imp_left fun hl => map_eq_none_of_length (noOperands_isSome p) hl)
    · exact discard _ (h.imp_left fun hl => map_eq_none_of_length (oneByte_isSome p) hl)
    · exact discard _ (h.imp_left fun hl => map_eq_none_of_length (exactly_isSome p 5) hl)
    · exact discard _ (h.imp_left fun hl => map_eq_none_of_length (oneByte_isSome p) hl)
  · exact congrArg Host.Outcome.next (if_pos ho)
  · exact congrArg Host.Outcome.next (if_pos hp)
  · refine congrArg Host.Outcome.next ((if_pos hp).trans ?_)
    dsimp only
    split <;> rfl
  · have command : ¬ isAnswerKind kind = true := by simp [isAnswerKind]; omega
    exact congrArg Host.Outcome.next ((if_neg command).trans (if_pos ho))

/-! ## DISARM_ALL (R129, R123, R185) -/

theorem broadcastCommand_of_operational {s : State} (ho : s.consoleOpen = true) (hd : s.device = .operational)
    (effect : State → State) : broadcastCommand [] effect s = feed (effect s) := by
  simp [broadcastCommand, broadcast, ho, hd]

theorem broadcastCommand_of_not_operational {s : State} (ho : s.consoleOpen = true) (hd : s.device ≠ .operational)
    (effect : State → State) : broadcastCommand [] effect s = feed s := by
  simp [broadcastCommand, broadcast, ho, hd]

theorem disarmStations_eq (group : List StationId) (s : State) : disarmStations group s = s.modifyStations group (·.disarm) :=
  rfl

namespace Station

variable {k : Station}

theorem disarm_of_waiting (h : k.state = .waiting) : k.disarm = k.rest := if_pos h

theorem disarm_of_hasTerminal (h : k.state.hasTerminal = true) : k.disarm = { k with armed := false } := by
  have notWaiting : k.state ≠ .waiting := fun hw => by rw [hw] at h; cases h
  rw [disarm, if_neg notWaiting, if_pos h]

theorem disarm_of_idle (hw : k.state ≠ .waiting) (h : k.state.hasTerminal = false) : k.disarm = k := by
  rw [disarm, if_neg hw, if_neg (by rw [h]; decide)]

end Station

/-- The feed after a command that changed the stations alone. -/
theorem feed_of_stations {s t : State} (h : t = { s with stations := t.stations }) :
    feed t =
      { s with
        stations := (feed t).stations, console := { s.console with supervision := fedSupervision s } } := by
  have same : (feed t).stations = t.stations := rfl
  rw [same]
  generalize t.stations = x at h
  subst h
  rfl

/-- Settles O18: every station by its own state. -/
theorem disarmAllDisarms : Obligations.DisarmAllDisarms := by
  refine fun s ho => ⟨fun hd => ?_, fun hd => ⟨feed (s.modifyStations allStations (·.disarm)), ?_, ?_, fun st => ?_⟩⟩
  · exact congrArg Host.Outcome.next (broadcastCommand_of_not_operational ho hd _)
  · exact congrArg Host.Outcome.next (broadcastCommand_of_operational ho hd _)
  · have frame := modifyStations_frame s allStations (·.disarm)
    exact feed_of_stations frame
  · have disarmed := station_modifyStations nodup_allStations s (·.disarm) st
    rw [if_pos (mem_allStations st)] at disarmed
    rw [show (feed (s.modifyStations allStations (·.disarm))).station st = _ from disarmed]
    exact ⟨Station.disarm_of_waiting, Station.disarm_of_hasTerminal, Station.disarm_of_idle⟩

end Sys2Proof.Machine

/-! # The commands on records (chapters 1, 3 and 5) -/

namespace Sys2Proof.Machine

/-! ## A command about one slot (R8) -/

theorem slotOf_of_toNat {b : Byte} {i : SlotId} (h : b.toNat = i.val) : slotOf b = some i := by
  have inside : b.toNat < 192 := h ▸ i.isLt
  rw [slotOf, dif_pos inside, Option.some_inj]
  exact Fin.ext h

@[simp] theorem toNat_ofNat_slot (i : SlotId) : (BitVec.ofNat 8 i.val).toNat = i.val := by
  rw [BitVec.toNat_ofNat]
  omega

theorem ofNat_slot_of_toNat {b : Byte} {i : SlotId} (h : b.toNat = i.val) : BitVec.ofNat 8 i.val = b :=
  BitVec.eq_of_toNat_eq ((toNat_ofNat_slot i).trans h.symm)

theorem withSlot_of_toNat {b : Byte} {i : SlotId} (h : b.toNat = i.val) (s : State) (f : SlotId → Reply) :
    withSlot b s f = f i := by
  rw [withSlot, slotOf_of_toNat h]

@[simp] theorem withSlot_ofNat (i : SlotId) (s : State) (f : SlotId → Reply) : withSlot (BitVec.ofNat 8 i.val) s f = f i :=
  withSlot_of_toNat (toNat_ofNat_slot i) s f

theorem withSlot_of_bad {b : Byte} (h : 192 ≤ b.toNat) (s : State) (f : SlotId → Reply) :
    withSlot b s f = reply .badSlot s := by
  rw [withSlot, slotOf, dif_neg (Nat.not_lt.2 h)]

/-- A served command whose owning rule leaves a known reply. -/
theorem consoleCommand_of_reply {s : State} (hs : s.Serves) {kind : Byte} {p : Payload} {f : State → Reply} {r : Reply}
    (h : f s = r) : consoleCommand kind p (some f) s = answered kind r.code (r.data (feed r.state)) r.state :=
  h ▸ consoleCommand_of_serves hs kind p f

/-- The answer without data. -/
theorem consoleCommand_of_refusal {s : State} (hs : s.Serves) {kind : Byte} {p : Payload} {f : State → Reply} {c : AnswerCode}
    (h : f s = reply c s) : consoleCommand kind p (some f) s = answered kind c [] s := consoleCommand_of_reply hs h

theorem isLive_iff {st : RecordState} : st.isLive = true ↔ st = .active ∨ st = .suspended ∨ st = .exhausted := by
  cases st <;> simp [RecordState.isLive]

theorem not_isLive_iff {st : RecordState} : ¬ st.isLive = true ↔ st = .assembling ∨ st = .retired ∨ st = .quarantined := by
  cases st <;> simp [RecordState.isLive]

theorem stateByte_of_account {sl : Slot} {a : Account} (h : sl.account = some a) : sl.stateByte = a.state.code := by
  rw [Slot.stateByte, h]

theorem Slot.update_of_account {sl : Slot} {a : Account} (h : sl.account = some a) (f : Account → Account) :
    sl.update f = sl.write (f a) sl.secret := by
  rw [Slot.update, h]

/-! ## SUSPEND and RESUME (R20, R21) -/

section
variable {s : State} {i : SlotId} {source target : RecordState}

theorem moveRecord_of_source (he : s.engine.Settled) (hr : (s.slot i).readable = true) {a : Account}
    (ha : s.account i = some a) (hst : a.state = source) :
    moveRecord i source target s =
      { state := s.setSlot i ((s.slot i).write { a with state := target } (s.slot i).secret), code := .ok,
        data := slotAndState i } := by
  have found : (s.slot i).recordState = some source := by
    rw [Slot.recordState, account_eq, ha, ← hst]; rfl
  have settled : (s.modifySlot i (·.update fun a => { a with state := target })).engine.Settled := he
  unfold moveRecord
  simp only [check_of_readable hr, found, if_true, settleEngine_of_settled settled]
  rw [State.modifySlot, Slot.update_of_account ha]

theorem moveRecord_of_other (he : s.engine.Settled) (hr : (s.slot i).readable = true)
    (h : ∀ a, s.account i = some a → a.state ≠ source) : moveRecord i source target s = reply .badState s := by
  have other : (s.slot i).recordState ≠ some source := fun hst => by
    obtain ⟨a, ha, hst⟩ := Option.map_eq_some_iff.1 hst
    exact h a ha hst
  unfold moveRecord
  simp only [check_of_readable hr, other, if_false, settleEngine_of_settled he]

/-- The data of a command on one slot, formed after the feed. -/
theorem slotAndState_of_write {x : Slot} {a : Account} (hx : x.account = some a) :
    slotAndState i (feed (s.setSlot i x)) = [BitVec.ofNat 8 i.val, a.state.code] := by
  have slot : (feed (s.setSlot i x)).slot i = x := slot_setSlot_self s i x
  rw [slotAndState, slot, stateByte_of_account hx]

end

/-- Settles O28: the move from the state the command asks for, and the refusals. -/
theorem suspendAndResume : Obligations.SuspendAndResume := by
  refine fun s b hs he => ⟨fun hb => ⟨?_, ?_⟩, fun i hb hr => ?_⟩
  · exact congrArg Host.Outcome.next (consoleCommand_of_refusal hs (withSlot_of_bad hb s _))
  · exact congrArg Host.Outcome.next (consoleCommand_of_refusal hs (withSlot_of_bad hb s _))
  have at_slot (source target : RecordState) :
      (withSlot b s fun i => moveRecord i source target s) = moveRecord i source target s := withSlot_of_toNat hb s _
  have moves (kind : Byte) {source target : RecordState} {a : Account} (ha : s.account i = some a) (hst : a.state = source) :
      consoleCommand kind [b] (some fun s => withSlot b s fun i => moveRecord i source target s) s =
        answered kind .ok [b, target.code]
          (s.setSlot i ((s.slot i).write { a with state := target } (s.slot i).secret)) := by
    rw [consoleCommand_of_reply hs ((at_slot source target).trans (moveRecord_of_source he hr ha hst))]
    dsimp only
    rw [slotAndState_of_write rfl, ofNat_slot_of_toNat hb]
  have refused (kind : Byte) {source target : RecordState} (h : ∀ a, s.account i = some a → a.state ≠ source) :
      consoleCommand kind [b] (some fun s => withSlot b s fun i => moveRecord i source target s) s =
        answered kind .badState [] s :=
    consoleCommand_of_refusal hs ((at_slot source target).trans (moveRecord_of_other he hr h))
  exact ⟨fun a ha hst => congrArg _ (moves Kind.suspend ha hst), fun h => congrArg _ (refused Kind.suspend h),
    fun a ha hst => congrArg _ (moves Kind.resume ha hst), fun h => congrArg _ (refused Kind.resume h)⟩

/-! ## RETIRE (R22) -/

theorem dependsOn_iff {k : Station} {i : SlotId} :
    k.dependsOn i = true ↔ k.base = some i ∨ ∃ p, k.package = some p ∧ (p.base = i ∨ p.transport = some i) := by
  unfold Station.dependsOn
  cases k.package <;> simp

theorem recordBusy_iff {i : SlotId} {a : Account} {s : State} :
    recordBusy i a s = true ↔ (∃ st, (s.station st).dependsOn i = true) ∨
      ∃ iss, a.part = .base iss ∧ Entry.outstanding ∈ iss.window := by
  unfold recordBusy
  cases a.part with
  | base iss => simp [mem_allStations, Issuance.outstanding, List.count_eq_zero]
  | transport m => simp [mem_allStations]

section
variable {s : State} {i : SlotId} (he : s.engine.Settled) (hr : (s.slot i).readable = true)
include he hr

theorem retire_of_bad_state (h : ∀ a, s.account i = some a → ¬ a.state.isLive = true) :
    retire (BitVec.ofNat 8 i.val) s = reply .badState s := by
  unfold retire
  simp only [withSlot_ofNat, check_of_readable hr, settleEngine_of_settled he]
  split
  · rfl
  · next a ha => rw [if_neg (h a ha)]

theorem retire_of_live {a : Account} (ha : s.account i = some a) (hl : a.state.isLive = true) :
    retire (BitVec.ofNat 8 i.val) s =
      if recordBusy i a s then reply .busy s
      else { state := s.modifySlot i Slot.retire, code := .ok, data := slotAndState i } := by
  have settled : (s.modifySlot i Slot.retire).engine.Settled := he
  unfold retire
  simp only [withSlot_ofNat, check_of_readable hr, ha, hl, if_true, settleEngine_of_settled he, settleEngine_of_settled settled]

end

/-- Settles O29: the conditions of R22 in order. -/
theorem retireByConditions : Obligations.Retire := by
  refine fun s i hs he hr => ⟨fun h => ?_, fun a ha hst => ⟨fun hbusy => ?_, fun hfree hnone => ?_⟩⟩
  · exact congrArg Host.Outcome.next
      (consoleCommand_of_refusal hs (retire_of_bad_state he hr fun a ha => not_isLive_iff.2 (h a ha)))
  · have busy : recordBusy i a s = true :=
      recordBusy_iff.2 (hbusy.imp_left fun ⟨st, h⟩ => ⟨st, dependsOn_iff.2 h⟩)
    exact congrArg Host.Outcome.next
      (consoleCommand_of_refusal hs ((retire_of_live he hr ha (isLive_iff.2 hst)).trans (if_pos busy)))
  · have free : ¬ recordBusy i a s = true := by
      rw [recordBusy_iff]
      rintro (⟨st, h⟩ | ⟨iss, hiss, h⟩)
      · rcases dependsOn_iff.1 h with hb | ⟨p, hp, hb | ht⟩
        · exact (hfree st).1 hb
        · exact ((hfree st).2 p hp).1 hb
        · exact ((hfree st).2 p hp).2 ht
      · exact hnone iss hiss h
    have retired : s.modifySlot i Slot.retire = s.setSlot i
        { account := some { a with state := .retired }, words := recordWords { a with state := .retired } none,
          waiting := [] } := by
      rw [State.modifySlot, Slot.retire, account_eq, ha]
      rfl
    have answer := consoleCommand_of_reply hs (kind := Kind.retire) (p := [BitVec.ofNat 8 i.val])
      ((retire_of_live he hr ha (isLive_iff.2 hst)).trans (if_neg free))
    rw [retired] at answer
    dsimp only at answer
    rw [slotAndState_of_write rfl] at answer
    exact congrArg Host.Outcome.next answer

/-! ## RELEASE (R23, R89) -/

theorem verifies_iff {e : Engine} {i : SlotId} : e.verifies i = true ↔ Job.verify i ∈ e.heldJobs := by
  simp [Engine.verifies]

section
variable {s : State} {i : SlotId} (he : s.engine.Settled) (hr : (s.slot i).readable = true)
include he hr

theorem release_of_bad_state (h : ∀ a, s.account i = some a → a.state ≠ .retired) :
    release (BitVec.ofNat 8 i.val) s = reply .badState s := by
  have other : (s.slot i).recordState ≠ some .retired := fun hst => by
    obtain ⟨a, ha, hst⟩ := Option.map_eq_some_iff.1 hst
    exact h a ha hst
  unfold release
  simp only [withSlot_ofNat, check_of_readable hr, other, if_false, settleEngine_of_settled he]

theorem release_of_retired {a : Account} (ha : s.account i = some a) (hst : a.state = .retired) :
    release (BitVec.ofNat 8 i.val) s =
      if s.engine.verifies i then reply .busy s
      else { state := failTicketsOn i (s.setSlot i Slot.empty), code := .ok, data := slotAndState i } := by
  have found : (s.slot i).recordState = some .retired := by
    rw [Slot.recordState, account_eq, ha, ← hst]; rfl
  have settled : (failTicketsOn i (s.setSlot i Slot.empty)).engine.Settled := by
    rw [failTicketsOn_eq]; exact he
  unfold release
  simp only [withSlot_ofNat, check_of_readable hr, found, if_true, settleEngine_of_settled he, settleEngine_of_settled settled]

end

/-- A ticket that fails with BAD_STATE. -/
def Ticket.failedBadState (t : Ticket) : Ticket := { t with state := .failed .badState }

/-- The tickets of a list fail one after the other; every other ticket stays (R89, R72). -/
theorem ApprovalUnit.foldl_finish_failed (l : List Ticket) (u : ApprovalUnit) (hl : (l.map (·.number)).Nodup)
    (uniq : ∀ t ∈ l, ∀ x ∈ u.tickets, x.number = t.number → x = t) :
    l.foldl (fun u t => u.finish t.failedBadState) u =
      { u with
        tickets := u.tickets.map fun x => if x.number ∈ l.map (·.number) then x.failedBadState else x
        finished := u.finished ++ l.map (·.number) } := by
  induction l generalizing u with
  | nil => simp
  | cons t l ih =>
    rw [List.map_cons, List.nodup_cons] at hl
    have replaced : (u.finish t.failedBadState).tickets =
        u.tickets.map fun x => if x.number = t.number then x.failedBadState else x := by
      refine List.map_congr_left fun x hx => ?_
      by_cases hn : x.number = t.number
      · rw [if_pos hn, uniq t List.mem_cons_self x hx hn]; exact if_pos rfl
      · rw [if_neg hn]; exact if_neg hn
    rw [List.foldl_cons, ih _ hl.2]
    · rw [replaced]
      simp only [ApprovalUnit.finish, ApprovalUnit.put, List.map_map, List.map_cons, List.mem_cons, List.append_assoc,
        List.singleton_append, ApprovalUnit.mk.injEq, and_true]
      refine ⟨List.map_congr_left fun x _ => ?_, rfl⟩
      by_cases hn : x.number = t.number
      · simp [hn, Ticket.failedBadState]
      · simp [hn]
    · intro y hy x hx hxy
      rw [replaced, List.mem_map] at hx
      obtain ⟨z, hz, rfl⟩ := hx
      by_cases hn : z.number = t.number
      · rw [if_pos hn] at hxy
        exact absurd (List.mem_map.2 ⟨y, hy, hxy.symm.trans hn⟩) hl.1
      · rw [if_neg hn] at hxy ⊢
        exact uniq y (List.mem_cons_of_mem _ hy) z hz hxy

/-- The tickets that name an emptied slot fail, in the order of the table. -/
theorem openOn_failed {u : ApprovalUnit} (i : SlotId) (hn : (u.tickets.map (·.number)).Nodup) :
    (u.openOn i).foldl (fun u t => u.finish { t with state := .failed .badState }) u =
      { u with
        tickets := u.tickets.map fun t =>
          if (t.isOpen && t.slot == i && t.action != .clearTamper) = true then { t with state := .failed .badState } else t
        finished := u.finished ++ (u.openOn i).map (·.number) } := by
  have sub : (u.openOn i).Sublist u.tickets := List.filter_sublist
  have uniq : ∀ t ∈ u.openOn i, ∀ x ∈ u.tickets, x.number = t.number → x = t := fun t ht x hx h =>
    List.inj_on_of_nodup_map hn hx (sub.subset ht) h
  refine (ApprovalUnit.foldl_finish_failed (u.openOn i) u ((sub.map _).nodup hn) uniq).trans ?_
  congr 1
  refine List.map_congr_left fun x hx => ?_
  have member : x.number ∈ (u.openOn i).map (·.number) ↔ (x.isOpen && x.slot == i && x.action != .clearTamper) = true := by
    rw [List.mem_map]
    constructor
    · rintro ⟨t, ht, h⟩
      rw [uniq t ht x hx h.symm]
      exact (List.mem_filter.1 ht).2
    · exact fun h => ⟨x, List.mem_filter.2 ⟨hx, h⟩, rfl⟩
  simp only [member]
  rfl

theorem openOn_eq_nil_iff {u : ApprovalUnit} {i : SlotId} : u.openOn i = [] ↔
    (u.tickets.any fun t => t.isOpen && t.slot == i && t.action != .clearTamper) = false := by
  simp [ApprovalUnit.openOn]

theorem failTicketsOn_of_none {i : SlotId} {s : State} (h : s.approval.openOn i = []) : failTicketsOn i s = s := by
  rw [failTicketsOn, h]
  rfl

/-- What the failing of the tickets on a slot leaves (R89, R72). -/
theorem failTicketsOn_of_nodup (i : SlotId) {s : State} (hn : (s.approval.tickets.map (·.number)).Nodup) :
    failTicketsOn i s =
      { s with
        approval :=
          { s.approval with
            tickets := s.approval.tickets.map fun t =>
              if (t.isOpen && t.slot == i && t.action != .clearTamper) = true then { t with state := .failed .badState } else t
            finished := s.approval.finished ++ (s.approval.openOn i).map (·.number) }
        events :=
          { s.events with
            latched :=
              if (s.approval.tickets.any fun t => t.isOpen && t.slot == i && t.action != .clearTamper) = true then
                s.events.latched ||| Event.ticketFailed.bit
              else s.events.latched } } := by
  rw [failTicketsOn_eq, openOn_failed i hn]
  by_cases h : s.approval.openOn i = []
  · rw [if_pos h, if_neg (by rw [openOn_eq_nil_iff.1 h]; decide)]
  · rw [if_neg h, if_pos (Bool.not_eq_false _ ▸ mt openOn_eq_nil_iff.2 h)]

/-- A record RETIRED and verified by no one is emptied, and the tickets on its slot fail. -/
theorem exec_release_of_free {s : State} {i : SlotId} {a : Account} (hs : s.Serves) (he : s.engine.Settled)
    (hr : (s.slot i).readable = true) (ha : s.account i = some a) (hst : a.state = .retired)
    (hv : Job.verify i ∉ s.engine.heldJobs) :
    exec (.release [BitVec.ofNat 8 i.val]) s = .next (answered 0x19 .ok [BitVec.ofNat 8 i.val, 0]
      (failTicketsOn i (s.setSlot i { account := none, words := [], waiting := [] }))) := by
  have free : ¬ s.engine.verifies i = true := mt verifies_iff.1 hv
  have answer := consoleCommand_of_reply hs (kind := Kind.release) (p := [BitVec.ofNat 8 i.val])
    ((release_of_retired he hr ha hst).trans (if_neg free))
  have emptied : (feed (failTicketsOn i (s.setSlot i Slot.empty))).slot i = Slot.empty := by
    rw [failTicketsOn_eq]
    exact slot_setSlot_self s i Slot.empty
  dsimp only at answer
  rw [slotAndState, emptied] at answer
  exact congrArg Host.Outcome.next answer

/-- Settles O30: BAD_STATE, BUSY, or the slot is emptied and its tickets fail. -/
theorem releaseEmptiesSlot : Obligations.Release := by
  refine fun s i hs he hr => ⟨fun h => ?_, fun a ha hst => ⟨fun hv => ?_, fun hv hnone => ?_, fun hv t ht ho hslot hact => ?_,
    fun hv hn => ?_⟩⟩
  · exact congrArg Host.Outcome.next (consoleCommand_of_refusal hs (release_of_bad_state he hr h))
  · exact congrArg Host.Outcome.next (consoleCommand_of_refusal hs
      ((release_of_retired he hr ha hst).trans (if_pos (verifies_iff.2 hv))))
  · have none : s.approval.openOn i = [] := List.filter_eq_nil_iff.2 fun t ht h => by
      simp only [Bool.and_eq_true, beq_iff_eq, bne_iff_ne] at h
      obtain ⟨⟨ho, hslot⟩, hact⟩ := h
      exact hact (hnone t ht ho hslot)
    rw [exec_release_of_free hs he hr ha hst hv, failTicketsOn_of_none (s := s.setSlot i _) none]
  · have falls : (t.isOpen && t.slot == i && t.action != .clearTamper) = true := by simp [ho, hslot, hact]
    rw [exec_release_of_free hs he hr ha hst hv, failTicketsOn_of_nodup (s := s.setSlot i _) i (by simp [ht])]
    simp only [setSlot_approval, ApprovalUnit.openOn, ht, List.map_cons, List.map_nil, List.filter_cons, List.filter_nil, falls,
      if_true, List.any_cons, Bool.true_or]
    rfl
  · rw [exec_release_of_free hs he hr ha hst hv, failTicketsOn_of_nodup (s := s.setSlot i _) i hn]
    rfl

end Sys2Proof.Machine

namespace Sys2Proof.Machine

/-! ## The last outcomes of lines (R54, R66, R68) -/

/-- A custodian line whose last outcome becomes `o`, provided it names the slot. -/
def CustodianLine.withOutcome (i : SlotId) (o : LineOutcome) (check : Option (BitVec 24)) (k : CustodianLine) : CustodianLine :=
  if k.last.slot = i ∧ k.last.outcome ≠ .none then { k with last := { outcome := o, slot := i, check := check } } else k

@[simp] theorem setLine_line_self (s : State) (l : Line) : s.setLine l (s.line l) = s := by
  unfold State.setLine State.line
  simp [Vector.get_eq_getElem]

theorem setOutcome_eq (l : Line) (i : SlotId) (o : LineOutcome) (check : Option (BitVec 24)) (s : State) :
    setOutcome l i o check s = s.modifyLine l (·.withOutcome i o check) := by
  unfold setOutcome State.modifyLine CustodianLine.withOutcome
  split
  · next h => dsimp only; rw [if_pos h]
  · next h => dsimp only; rw [if_neg h, setLine_line_self]

/-- Lines changed one after the other, each by its own function. -/
theorem foldl_modifyLine (f : Line → CustodianLine → CustodianLine) (group : List Line) (hg : group.Nodup) (s : State) :
    group.foldl (fun s l => s.modifyLine l (f l)) s =
        { s with lines := (group.foldl (fun s l => s.modifyLine l (f l)) s).lines } ∧
      ∀ l, (group.foldl (fun s l => s.modifyLine l (f l)) s).line l = if l ∈ group then f l (s.line l) else s.line l := by
  induction group generalizing s with
  | nil => exact ⟨rfl, fun l => (if_neg List.not_mem_nil).symm⟩
  | cons m group ih =>
    rw [List.nodup_cons] at hg
    obtain ⟨frame, lines⟩ := ih hg.2 (s.modifyLine m (f m))
    refine ⟨frame, fun l => ?_⟩
    rw [List.foldl_cons, lines l]
    by_cases hl : l = m
    · subst hl
      rw [if_neg hg.1, if_pos List.mem_cons_self, line_modifyLine_self]
    · simp only [State.modifyLine, line_setLine_of_ne _ hl, List.mem_cons, hl, false_or]

theorem cancelLines_eq (m : BitVec 3) (i : SlotId) (s : State) :
    cancelLines m i s = allLines.foldl
      (fun s l => s.modifyLine l fun k => if m &&& lineBit l = lineBit l then k.withOutcome i .cancelled none else k) s := by
  unfold cancelLines
  congr 1
  funext s l
  by_cases hm : m &&& lineBit l = lineBit l
  · simp only [hm, if_true, setOutcome_eq]
  · simp [hm, State.modifyLine]

theorem cancelLines_frame (m : BitVec 3) (i : SlotId) (s : State) :
    cancelLines m i s = { s with lines := (cancelLines m i s).lines } := by
  rw [cancelLines_eq]
  exact (foldl_modifyLine _ allLines (List.nodup_finRange 3) s).1

theorem line_cancelLines (m : BitVec 3) (i : SlotId) (s : State) (l : Line) :
    (cancelLines m i s).line l =
      if m &&& lineBit l = lineBit l then (s.line l).withOutcome i .cancelled none else s.line l := by
  rw [cancelLines_eq, (foldl_modifyLine _ allLines (List.nodup_finRange 3) s).2, if_pos (show l ∈ allLines from List.mem_finRange l)]

/-! ## CANCEL_ASSEMBLY (R66) -/

theorem cancelAssembly_of_assembling {s : State} {i : SlotId} {a : Account} (hr : (s.slot i).readable = true)
    (ha : s.account i = some a) (hst : a.state = .assembling) :
    cancelAssembly (BitVec.ofNat 8 i.val) s =
      reply .ok (settleEngine (cancelLines a.involvedLines i
        ((abandonJobs (Job.isCustodianFor i) s).setSlot i Slot.empty))) := by
  unfold cancelAssembly
  simp only [withSlot_ofNat, check_of_readable hr, ha, hst, if_true]

/-- Settles O26: jobs, record and lines. -/
theorem cancelAssembly_empties : Obligations.CancelAssembly := by
  intro s i a m hs hr he ha hst hm
  have answer := consoleCommand_of_reply hs (kind := Kind.cancelAssembly) (p := [BitVec.ofNat 8 i.val])
    (cancelAssembly_of_assembling hr ha hst)
  have involved : a.involvedLines = m.contributed ||| m.reserved := by rw [Account.involvedLines, hm]
  have frame := cancelLines_frame a.involvedLines i ((abandonJobs (Job.isCustodianFor i) s).setSlot i Slot.empty)
  have lines := line_cancelLines a.involvedLines i ((abandonJobs (Job.isCustodianFor i) s).setSlot i Slot.empty)
  have settled : (cancelLines a.involvedLines i ((abandonJobs (Job.isCustodianFor i) s).setSlot i Slot.empty)).engine.Settled := by
    rw [frame]
    exact he.abandon _
  rw [reply_state, settleEngine_of_settled settled] at answer
  generalize cancelLines a.involvedLines i ((abandonJobs (Job.isCustodianFor i) s).setSlot i Slot.empty) = t at *
  refine ⟨t, congrArg Host.Outcome.next answer, ?_, ?_, fun j hj => ?_, ?_, fun l => ?_⟩
  · rw [frame]; rfl
  · rw [frame]; exact slot_setSlot_self _ i _
  · rw [frame]; exact slot_setSlot_of_ne _ hj _
  · rw [frame]; rfl
  · rw [lines l, involved]
    unfold CustodianLine.withOutcome
    by_cases hl : (m.contributed ||| m.reserved) &&& lineBit l = lineBit l
    · simp only [hl, true_and, if_true]
      rfl
    · simp only [hl, false_and, if_false]
      rfl

/-! ## NARROW (R17, R18) -/

theorem tellLineStations_eq (i : SlotId) (s : State) :
    tellLineStations i s = s.modifyStations (boundTo i s) (·.stopLine) := rfl

theorem mem_boundTo {i : SlotId} {s : State} {st : StationId} : st ∈ boundTo i s ↔ (s.station st).base = some i := by
  simp [boundTo, mem_allStations]

theorem nodup_boundTo (i : SlotId) (s : State) : (boundTo i s).Nodup := nodup_allStations.filter _

/-- The stations told that LINE is gone: those bound to the record in LINE mode (R18). -/
theorem station_tellLineStations (i : SlotId) (s : State) (st : StationId) :
    (tellLineStations i s).station st =
      if (s.station st).base = some i then (s.station st).stopLine else s.station st := by
  rw [tellLineStations_eq, station_modifyStations (nodup_boundTo i s)]
  simp only [mem_boundTo]

/-- LINE is lost when the mask lacks it. -/
theorem line_isIn_narrowed (permissions : BitVec 4) (mask : Byte) :
    (Permission.line.isIn permissions = true ∧ ¬ Permission.line.isIn (permissions &&& mask.setWidth 4) = true) ↔
      Permission.line.isIn permissions = true ∧ mask &&& 2 = 0 := by
  have low : (mask &&& 2 = 0) ↔ (mask.setWidth 4 &&& 2 = 0#4) := by
    revert mask
    decide +kernel
  rw [low]
  generalize mask.setWidth 4 = m
  revert permissions m
  decide

/-- The state after a NARROW of a live record: the record is rewritten, and without LINE its LINE stations are told. -/
def narrowed (i : SlotId) (a : Account) (mask : Byte) (s : State) : State :=
  let t := s.setSlot i ((s.slot i).write { a with permissions := a.permissions &&& mask.setWidth 4 } (s.slot i).secret)
  if a.has .line = true ∧ mask &&& 2 = 0 then tellLineStations i t else t

theorem narrow_of_live {s : State} {i : SlotId} {a : Account} {mask : Byte} (he : s.engine.Settled)
    (hr : (s.slot i).readable = true) (ha : s.account i = some a) (hl : a.state.isLive = true) :
    narrow (BitVec.ofNat 8 i.val) mask s =
      { state := narrowed i a mask s, code := .ok,
        data := fun _ => [(a.permissions &&& mask.setWidth 4).setWidth 8] } := by
  have written : s.modifySlot i (·.update fun a' => { a' with permissions := a.permissions &&& mask.setWidth 4 }) =
      s.setSlot i ((s.slot i).write { a with permissions := a.permissions &&& mask.setWidth 4 } (s.slot i).secret) := by
    rw [State.modifySlot, Slot.update_of_account ha]
  have settled : (narrowed i a mask s).engine.Settled := by
    unfold narrowed
    dsimp only
    split
    · rw [tellLineStations_eq, modifyStations_frame]; exact he
    · exact he
  unfold narrow
  simp only [withSlot_ofNat, check_of_readable hr, ha, hl, if_true, written, Account.has, line_isIn_narrowed]
  rw [← settleEngine_of_settled settled]
  rfl

theorem narrow_of_bad_state {s : State} {i : SlotId} {mask : Byte} (he : s.engine.Settled) (hr : (s.slot i).readable = true)
    (h : ∀ a, s.account i = some a → ¬ a.state.isLive = true) :
    narrow (BitVec.ofNat 8 i.val) mask s = reply .badState s := by
  unfold narrow
  simp only [withSlot_ofNat, check_of_readable hr, settleEngine_of_settled he]
  split
  · rfl
  · next a ha => rw [if_neg (h a ha)]

theorem station_narrowed (i : SlotId) (a : Account) (mask : Byte) (s : State) (st : StationId) :
    (narrowed i a mask s).station st =
      if (a.has .line = true ∧ mask &&& 2 = 0) ∧ (s.station st).base = some i then (s.station st).stopLine
      else s.station st := by
  unfold narrowed
  dsimp only
  split
  · next h => rw [station_tellLineStations]; simp only [h, and_self, true_and]; rfl
  · next h => rw [if_neg fun hc => h hc.1]; rfl

theorem Station.rest_of_bound {k : Station} {i : SlotId} (h : k.base = some i) :
    k.rest = { k with
      state := .bound, armed := false, disarmAfter := false, identity := none, package := none, timer := .stopped,
      holds := 0 } := by
  simp only [Station.rest, h]

/-- Settles O27: the cut of the permissions, and `stopLine` for the stations bound in LINE mode when LINE goes. -/
theorem narrowIntersects : Obligations.NarrowIntersects := by
  refine fun s i mask hs hr he => ⟨fun a ha hst => ?_, fun h => ?_⟩
  · have answer := consoleCommand_of_reply hs (kind := Kind.narrow) (p := [BitVec.ofNat 8 i.val, mask])
      (narrow_of_live (mask := mask) he hr ha (isLive_iff.2 hst))
    refine ⟨narrowed i a mask s, congrArg Host.Outcome.next answer, ?_, ?_, fun j hj => ?_, fun st => ⟨?_, ?_⟩⟩
    · unfold narrowed
      dsimp only
      split
      · rw [tellLineStations_eq, modifyStations_frame]; rfl
      · rfl
    · unfold narrowed
      dsimp only
      split
      · rw [tellLineStations_eq, modifyStations_frame]; exact slot_setSlot_self s i _
      · exact slot_setSlot_self s i _
    · unfold narrowed
      dsimp only
      split
      · rw [tellLineStations_eq, modifyStations_frame]; exact slot_setSlot_of_ne s hj _
      · exact slot_setSlot_of_ne s hj _
    · rintro ⟨hline, hmask, hbase, hmode⟩
      rw [station_narrowed, if_pos ⟨⟨hline, hmask⟩, hbase⟩]
      refine ⟨fun hw => ?_, Station.stopLine_of_hasTerminal hmode, fun hidle => ?_⟩
      · rw [Station.stopLine_of_waiting hmode hw, Station.rest_of_bound hbase]
      · refine Station.stopLine_of_idle (fun hw => ?_) ?_
        · rw [hw] at hidle; exact absurd hidle (by decide)
        · revert hidle; cases (s.station st).state <;> decide
    · intro h
      rw [station_narrowed]
      split
      · next told =>
        have single : (s.station st).mode = .single := by
          cases hm : (s.station st).mode with
          | single => rfl
          | line => exact absurd ⟨told.1.1, told.1.2, told.2, hm⟩ h
        exact Station.stopLine_of_single single
      · rfl
  · refine congrArg Host.Outcome.next (consoleCommand_of_refusal hs (narrow_of_bad_state he hr fun a ha => ?_))
    rcases h with h | ⟨b, hb, hst⟩
    · rw [h] at ha; cases ha
    · obtain rfl : b = a := Option.some_inj.1 (hb.symm.trans ha)
      exact not_isLive_iff.2 hst

/-! ## VERIFY (R109) -/

theorem hasJobOf_console_iff {e : Engine} : e.hasJobOf .console = true ↔ ∃ j, Job.verify j ∈ e.heldJobs := by
  simp only [Engine.hasJobOf, List.any_eq_true, beq_iff_eq]
  constructor
  · rintro ⟨x, hx, hr⟩
    cases x with
    | verify j => exact ⟨j, hx⟩
    | componentCheck | keyCheck | package => cases hr
  · exact fun ⟨j, hj⟩ => ⟨_, hj, rfl⟩

/-- Settles O31: the checks of R109 in order; then the job joins the queue and the engine chooses. -/
theorem verifyCommand : Obligations.VerifyCommand := by
  refine fun s i hs he hr => ⟨fun hj => ?_, fun hj => ⟨fun h => ?_, fun a ha hst => ?_⟩⟩
  · have pending : verify (BitVec.ofNat 8 i.val) s = reply .enginePending s := by
      unfold verify
      rw [withSlot_ofNat, if_pos (hasJobOf_console_iff.2 hj)]
    exact congrArg Host.Outcome.next (consoleCommand_of_refusal hs pending)
  all_goals have free : ¬ s.engine.hasJobOf .console = true := fun h => (hasJobOf_console_iff.1 h).elim hj
  · have refused : verify (BitVec.ofNat 8 i.val) s = reply .badState s := by
      unfold verify
      simp only [withSlot_ofNat, free, check_of_readable hr, settleEngine_of_settled he]
      split
      · contradiction
      · split
        · rfl
        · next a ha => rw [if_neg (not_isLive_iff.2 (h a ha))]
    exact congrArg Host.Outcome.next (consoleCommand_of_refusal hs refused)
  · have taken : verify (BitVec.ofNat 8 i.val) s =
        reply .ok (settleEngine (placeJob (.verify i) (s.setConsole { s.console with verifyPending := true }))) := by
      unfold verify
      simp only [withSlot_ofNat, free, check_of_readable hr, ha, isLive_iff.2 hst, if_true]
      rfl
    have answer := consoleCommand_of_reply hs (kind := Kind.verify) (p := [BitVec.ofNat 8 i.val]) taken
    rw [reply_state] at answer
    exact congrArg Host.Outcome.next answer

end Sys2Proof.Machine

namespace Sys2Proof.Machine

/-! ## Bytes and numbers (00, conventions) -/

/-- The bytes of a number spell it again, up to their count. -/
theorem natOfBytes_bytesOfNat (k n : Nat) : natOfBytes (bytesOfNat k n) = n % 256 ^ k := by
  have spelt : ∀ acc, (bytesOfNat k n).foldl (fun a b => a * 256 + b.toNat) acc = acc * 256 ^ k + n % 256 ^ k := by
    induction k with
    | zero => intro acc; simp [bytesOfNat, Nat.mod_one]
    | succ k ih =>
      intro acc
      rw [bytesOfNat, List.foldl_cons, ih, Nat.mod_pow_succ, BitVec.toNat_ofNat]
      ring
  simpa [natOfBytes] using spelt 0

theorem ofNat_natOfBytes_pair (hi lo : Byte) : BitVec.ofNat 16 (natOfBytes [hi, lo]) = hi ++ lo := by
  refine BitVec.eq_of_toNat_eq ?_
  have sum : natOfBytes [hi, lo] = hi.toNat <<< 8 + lo.toNat := by
    rw [Nat.shiftLeft_eq]
    simp [natOfBytes]
  rw [BitVec.toNat_append, ← Nat.shiftLeft_add_eq_or_of_lt lo.isLt, BitVec.toNat_ofNat, sum, Nat.shiftLeft_eq]
  omega

theorem ofNat_natOfBytes_pair_eq_zero_iff {hi lo : Byte} : BitVec.ofNat 16 (natOfBytes [hi, lo]) = 0 ↔ hi = 0 ∧ lo = 0 := by
  constructor
  · intro h
    have := congrArg BitVec.toNat h
    simp only [natOfBytes, List.foldl_cons, List.foldl_nil, BitVec.toNat_ofNat] at this
    have low := hi.isLt
    have zero : hi.toNat = 0 ∧ lo.toNat = 0 := by
      have := show (0 * 256 + hi.toNat) * 256 + lo.toNat ≡ 0 [MOD 65536] from this
      simp only [Nat.ModEq] at this
      omega
    exact ⟨BitVec.eq_of_toNat_eq zero.1, BitVec.eq_of_toNat_eq zero.2⟩
  · rintro ⟨rfl, rfl⟩; rfl

/-! ## The record summary (R25, R203) -/

/-- Digits folded into a number of base 4, the first most significant. -/
theorem foldl_digits (d : Nat → Nat) (hd : ∀ i, d i < 4) (n : Nat) :
    (List.range n).foldl (fun a i => a * 4 + d i) 0 < 4 ^ n ∧
      ∀ k, k < n → (List.range n).foldl (fun a i => a * 4 + d i) 0 / 4 ^ (n - 1 - k) % 4 = d k := by
  induction n with
  | zero => exact ⟨by simp, fun k hk => absurd hk (Nat.not_lt_zero k)⟩
  | succ n ih =>
    rw [List.range_succ, List.foldl_append, List.foldl_cons, List.foldl_nil]
    generalize (List.range n).foldl (fun a i => a * 4 + d i) 0 = v at ih ⊢
    have last := hd n
    refine ⟨by rw [pow_succ]; omega, fun k hk => ?_⟩
    rcases Nat.lt_succ_iff_lt_or_eq.1 hk with hk | rfl
    · have shift : n + 1 - 1 - k = n - 1 - k + 1 := by omega
      have quotient : (v * 4 + d n) / 4 = v := by omega
      rw [shift, pow_succ', ← Nat.div_div_eq_div_mul, quotient]
      exact ih.2 k hk
    · simp only [Nat.add_sub_cancel, Nat.sub_self, pow_zero, Nat.div_one]
      omega

theorem length_windowMap (s : Issuance) : s.windowMap.length = 4 := length_bytesOfNat ..

/-- The entries of the window, two bits each from the most significant end. -/
theorem windowMap_entry (s : Issuance) {k : Nat} (hk : k < 16) :
    natOfBytes s.windowMap / 4 ^ (15 - k) % 4 = if k < s.windowLength then entryCode s.window[k]? else 0 := by
  have digit : ∀ i, (if i < s.windowLength then entryCode s.window[i]? else 0) < 4 := fun i => by
    split
    · rcases s.window[i]? with _ | _ | _ | _ <;> decide
    · decide
  obtain ⟨bound, digits⟩ := foldl_digits _ digit 16
  rw [Issuance.windowMap, natOfBytes_bytesOfNat, show 256 ^ 4 = 4 ^ 16 by norm_num, Nat.mod_eq_of_lt bound]
  exact digits k hk

theorem Slot.length_summary (i : SlotId) (sl : Slot) : (sl.summary i).length = 59 := by
  unfold Slot.summary
  split
  · simp
  · next a _ =>
    cases a.part <;> cases a.checkValue <;> simp [length_windowMap]

/-! ## READ_RECORDS (R24) -/

theorem summariseSlots_of_sound {s : State} (h : s.Sound) (l : List SlotId) :
    summariseSlots l s = (s, l.flatMap fun i => (s.slot i).summary i) := by
  induction l with
  | nil => rfl
  | cons i l ih => simp only [summariseSlots, check_of_readable (h i), ih, List.flatMap_cons]

/-- Settles O22: the count delivered and the summaries; the 59 bytes by class and state. -/
theorem readRecords_answers : Obligations.ReadRecords := by
  refine ⟨fun i sl => ⟨Slot.length_summary i sl, fun h => by rw [Slot.summary, h], fun a ha => ?_⟩,
    fun s first count hs hsound he => ⟨fun hf => ?_, fun hf => ?_⟩⟩
  · refine ⟨fun m hm => ?_, fun iss hiss => ⟨iss.windowMap, ?_, length_windowMap iss, fun k hk => ?_⟩⟩
    · rw [Slot.summary, ha]
      dsimp only
      rw [hm]
      cases a.checkValue <;> cases a.assembly <;> simp only [List.append_assoc] <;> rfl
    · rw [Slot.summary, ha]
      dsimp only
      rw [hiss]
      cases a.checkValue <;> cases a.assembly <;> simp only [List.append_assoc] <;> rfl
    · rw [windowMap_entry iss hk, Issuance.windowLength]
      by_cases h : k < iss.next - iss.floor
      · rw [if_pos h, if_neg (by omega)]
        rcases iss.window[k]? with _ | _ | _ | _ <;> rfl
      · rw [if_neg h, if_pos (by omega)]
  · exact congrArg Host.Outcome.next (consoleCommand_of_refusal hs (withSlot_of_bad hf s _))
  · have summaries := summariseSlots_of_sound hsound (slotsFrom ⟨first.toNat, hf⟩ (countDelivered ⟨first.toNat, hf⟩ count.toNat))
    have read : readRecords first count s =
        { state := s,
          code := if countDelivered ⟨first.toNat, hf⟩ count.toNat = count.toNat then .ok else .clamped,
          data := fun _ => BitVec.ofNat 8 (countDelivered ⟨first.toNat, hf⟩ count.toNat) ::
            (slotsFrom ⟨first.toNat, hf⟩ (countDelivered ⟨first.toNat, hf⟩ count.toNat)).flatMap fun i =>
              (s.slot i).summary i } := by
      unfold readRecords
      rw [withSlot_of_toNat (i := ⟨first.toNat, hf⟩) rfl]
      dsimp only
      rw [summaries, settleEngine_of_settled he]
    exact congrArg Host.Outcome.next (consoleCommand_of_reply hs (kind := Kind.readRecords) (p := [first, count]) read)

/-! ## FIND_LABEL and FIND_MODEL (R11 to R13) -/

/-- The search for the first of all slots. -/
theorem find?_allSlots_eq_some {p : SlotId → Bool} {i : SlotId} (hi : p i = true) (hfirst : ∀ j, j < i → p j = false) :
    allSlots.find? p = some i := by
  refine List.find?_eq_some_iff_getElem.2 ⟨hi, i.val, by simp [allSlots], by simp [allSlots], fun j hj => ?_⟩
  simpa [allSlots] using hfirst ⟨j, hj.trans i.isLt⟩ hj

theorem find?_allSlots_eq_none {p : SlotId → Bool} (h : ∀ i, p i = false) : allSlots.find? p = none :=
  List.find?_eq_none.2 fun i _ => by rw [h]; decide

section
variable {s : State} {found : Account → Bool} {data : SlotId → State → List Byte}

theorem findRecord_of_first (hsound : s.Sound) (he : s.engine.Settled) {i : SlotId} {a : Account} (ha : s.account i = some a)
    (hf : found a = true) (hfirst : ∀ j b, j < i → s.account j = some b → found b = false) :
    findRecord found data s = { state := s, code := .ok, data := data i } := by
  have first := find?_allSlots_eq_some (p := fun j => (s.account j).any found) (i := i) (by simp [ha, hf]) fun j hj => by
    cases hb : s.account j with
    | none => rfl
    | some b => simpa using hfirst j b hj hb
  unfold findRecord
  simp only [search_of_sound hsound, first, settleEngine_of_settled he]

theorem findRecord_of_none (hsound : s.Sound) (he : s.engine.Settled)
    (h : ∀ i a, s.account i = some a → found a = false) : findRecord found data s = reply .notFound s := by
  have none := find?_allSlots_eq_none (p := fun j => (s.account j).any found) fun j => by
    cases hb : s.account j with
    | none => rfl
    | some b => simpa using h j b hb
  unfold findRecord
  simp only [search_of_sound hsound, none, settleEngine_of_settled he]

end

theorem servesModel_iff {m : BitVec 16} {a : Account} : servesModel m a = true ↔ a.state = .active ∧ a.part = .transport m := by
  unfold servesModel Account.isTransportOf
  cases a.part <;> simp

theorem findModel_of_ne_zero {hi lo : Byte} (h : ¬ (hi = 0 ∧ lo = 0)) (s : State) :
    findModel hi lo s = findRecord (servesModel (hi ++ lo)) (fun i _ => [BitVec.ofNat 8 i.val]) s := by
  unfold findModel
  dsimp only
  rw [if_neg (mt ofNat_natOfBytes_pair_eq_zero_iff.1 h), ofNat_natOfBytes_pair]

/-- Settles O23: a search of a sound table ends at the lowest slot that matches. -/
theorem findsRecords : Obligations.FindsRecords := by
  refine fun s hs hsound he => ⟨fun p hp => ⟨fun hbad => ?_, fun hgood => ⟨fun i a ha hlabel hfirst => ?_, fun hnone => ?_⟩⟩,
    fun hi lo => ⟨fun hhi hlo => ?_, fun hnz => ⟨fun i a ha hst hpart hfirst => ?_, fun hnone => ?_⟩⟩⟩
  · have bad : findLabel p s = reply .badValue s := if_neg (by rw [labelValid, hbad]; decide)
    have asked := consoleCommand_map_of_serves hs (kind := Kind.findLabel) (p := p) (exactly_of_length hp) findLabel
    rw [bad] at asked
    exact congrArg Host.Outcome.next asked
  · have valid : findLabel p s = findRecord (fun a => a.label == BitVec.ofNat 64 (natOfBytes p)) slotAndState s := if_pos hgood
    have asked := consoleCommand_map_of_serves hs (kind := Kind.findLabel) (p := p) (exactly_of_length hp) findLabel
    rw [valid, findRecord_of_first (found := fun a => a.label == BitVec.ofNat 64 (natOfBytes p)) hsound he ha (beq_iff_eq.2 hlabel) fun j b hj hb =>
      beq_eq_false_iff_ne.2 (hfirst j b hj hb)] at asked
    have data : slotAndState i (feed s) = [BitVec.ofNat 8 i.val, a.state.code] := by
      rw [slotAndState, show (feed s).slot i = s.slot i from rfl, stateByte_of_account ha]
    dsimp only at asked
    rw [data] at asked
    exact congrArg Host.Outcome.next asked
  · have valid : findLabel p s = findRecord (fun a => a.label == BitVec.ofNat 64 (natOfBytes p)) slotAndState s := if_pos hgood
    have asked := consoleCommand_map_of_serves hs (kind := Kind.findLabel) (p := p) (exactly_of_length hp) findLabel
    rw [valid, findRecord_of_none (found := fun a => a.label == BitVec.ofNat 64 (natOfBytes p)) hsound he fun i a ha => beq_eq_false_iff_ne.2 (hnone i a ha)] at asked
    exact congrArg Host.Outcome.next asked
  · have bad : findModel hi lo s = reply .badValue s := if_pos (ofNat_natOfBytes_pair_eq_zero_iff.2 ⟨hhi, hlo⟩)
    exact congrArg Host.Outcome.next (consoleCommand_of_refusal hs (kind := Kind.findModel) (p := [hi, lo]) bad)
  · have found := findRecord_of_first (data := fun i _ => [BitVec.ofNat 8 i.val]) hsound he ha (servesModel_iff.2 ⟨hst, hpart⟩)
      fun j b hj hb => Bool.eq_false_iff.2 (mt servesModel_iff.1 (hfirst j b hj hb))
    exact congrArg Host.Outcome.next
      (consoleCommand_of_reply hs (kind := Kind.findModel) (p := [hi, lo]) ((findModel_of_ne_zero hnz s).trans found))
  · have missed := findRecord_of_none (data := fun i _ => [BitVec.ofNat 8 i.val]) hsound he
      fun i a ha => Bool.eq_false_iff.2 (mt servesModel_iff.1 (hnone i a ha))
    exact congrArg Host.Outcome.next
      (consoleCommand_of_refusal hs (kind := Kind.findModel) (p := [hi, lo]) ((findModel_of_ne_zero hnz s).trans missed))

end Sys2Proof.Machine

namespace Sys2Proof.Machine

/-! ## CREATE (R14 to R16, R200, R202) -/

theorem some_byteAt {p : Payload} {i : Nat} (h : i < p.length) : some (byteAt p i) = p[i]? := by
  rw [byteAt, List.getD_eq_getElem _ _ h, List.getElem?_eq_getElem h]

theorem byteAt_drop (p : Payload) (n i : Nat) : byteAt (p.drop n) i = byteAt p (n + i) := by
  simp [byteAt, List.getD_eq_getElem?_getD, List.getElem?_drop]

theorem field_drop (p : Payload) (n off len : Nat) : field (p.drop n) off len = natOfBytes ((p.drop (n + off)).take len) := by
  rw [field, List.drop_drop]

/-- A payload that fits, with its parts (R200). -/
theorem createOperands_eq_some {p : Payload} {c : CreateOperands} (h : createOperands p = some c) :
    15 ≤ p.length ∧ c.slot = byteAt p 0 ∧ c.cls = byteAt p 1 ∧ c.label = (p.drop 2).take 8 ∧ c.keyLength = byteAt p 10 ∧
      c.quorum = byteAt p 11 ∧ c.permissions = byteAt p 12 ∧ c.rest = p.drop 13 := by
  simp only [createOperands, Option.ite_none_right_eq_some] at h
  obtain ⟨fits, h⟩ := h
  cases h
  exact ⟨by omega, rfl, rfl, rfl, rfl, rfl, rfl, rfl⟩

/-- The issuance part that CREATE makes, by the payload (R16, R202). -/
theorem issuance_of_payload {p : Payload} {c : CreateOperands} (hr : c.rest = p.drop 13) :
    c.issuance =
      { issuer := BitVec.ofNat 40 (natOfBytes ((p.drop 13).take 5))
        tag := BitVec.ofNat 32 (natOfBytes ((p.drop 18).take 4))
        usage := p.getD 22 0
        first := natOfBytes ((p.drop 23).take 3), last := natOfBytes ((p.drop 26).take 3)
        next := natOfBytes ((p.drop 23).take 3), floor := natOfBytes ((p.drop 23).take 3)
        window := [], allowance := 0, issued := 0, confirmed := 0, voided := 0 } := by
  simp only [CreateOperands.issuance, hr, field_drop, byteAt_drop]
  rfl

theorem model_of_payload {p : Payload} {c : CreateOperands} (hr : c.rest = p.drop 13) :
    c.model = BitVec.ofNat 16 (natOfBytes ((p.drop 13).take 2)) := by
  rw [CreateOperands.model, hr, field_drop]

theorem keyLengthOf_eq_some {b : Byte} {k : KeyLength} :
    keyLengthOf b = some k ↔ b = 16 ∧ k = .bytes16 ∨ b = 32 ∧ k = .bytes32 := by
  unfold keyLengthOf
  split
  · next h => subst h; simp [eq_comm]
  · split
    · next h => subst h; simp [eq_comm]
    · simp_all

theorem keyLengthOf_eq_none {b : Byte} : keyLengthOf b = none ↔ b ≠ 16 ∧ b ≠ 32 := by
  unfold keyLengthOf
  split
  · simp [*]
  · split <;> simp_all

theorem quorumOf_eq_some {b : Byte} {q : Quorum} : quorumOf b = some q ↔ b = 2 ∧ q = .two ∨ b = 3 ∧ q = .three := by
  unfold quorumOf
  split
  · next h => subst h; simp [eq_comm]
  · split
    · next h => subst h; simp [eq_comm]
    · simp_all

theorem quorumOf_eq_none {b : Byte} : quorumOf b = none ↔ b ≠ 2 ∧ b ≠ 3 := by
  unfold quorumOf
  split
  · simp [*]
  · split <;> simp_all

theorem labelValid_eq_false {l : List Byte} : labelValid l = false ↔ ∃ b ∈ l, b.toNat < 0x20 ∨ 0x7E < b.toNat := by
  simp only [labelValid, List.all_eq_false, Bool.not_eq_true, Bool.and_eq_false_iff, decide_eq_false_iff_not, Nat.not_le]

/-- The part that the class operand asks for, where its own checks pass (R14 checks 3 and 4). -/
def classPart (c : CreateOperands) : Option ClassPart :=
  if c.cls = 1 then
    if c.issuance.first > c.issuance.last ∨ c.issuance.last > Config.lastNumber ∨ c.issuance.usage = 0 ∨ c.issuance.usage = 0xFF
    then none
    else some (.base c.issuance)
  else if c.cls = 2 then if c.model = 0 then none else some (.transport c.model)
  else none

/-- Checks 2 to 4 of R14 one after the other. -/
theorem createPart_eq (c : CreateOperands) : createPart c =
    (keyLengthOf c.keyLength).bind fun k => (quorumOf c.quorum).bind fun q =>
      if labelValid c.label then (classPart c).map fun part => (k, q, part) else none := by
  unfold createPart classPart
  rcases keyLengthOf c.keyLength with _ | k
  · rfl
  rcases quorumOf c.quorum with _ | q
  · rfl
  simp only [Option.bind_some]
  by_cases hl : labelValid c.label = true
  · rw [if_pos hl, if_pos hl]
    by_cases h1 : c.cls = 1
    · rw [if_pos h1, if_pos h1]
      split <;> rfl
    · rw [if_neg h1, if_neg h1]
      split
      · split <;> rfl
      · rfl
  · rw [if_neg hl, if_neg hl]

theorem createPart_eq_some {c : CreateOperands} {k : KeyLength} {q : Quorum} {part : ClassPart} :
    createPart c = some (k, q, part) ↔
      keyLengthOf c.keyLength = some k ∧ quorumOf c.quorum = some q ∧ labelValid c.label = true ∧ classPart c = some part := by
  simp [createPart_eq, Option.bind_eq_some_iff, Option.ite_none_right_eq_some]

theorem createPart_eq_none {c : CreateOperands} :
    createPart c = none ↔
      keyLengthOf c.keyLength = none ∨ quorumOf c.quorum = none ∨ labelValid c.label = false ∨ classPart c = none := by
  rw [createPart_eq]
  rcases keyLengthOf c.keyLength with _ | k <;> rcases quorumOf c.quorum with _ | q <;>
    cases labelValid c.label <;> simp

theorem classPart_eq_some {c : CreateOperands} {part : ClassPart} (h : classPart c = some part) :
    c.cls = 1 ∧ part = .base c.issuance ∨ c.cls = 2 ∧ part = .transport c.model := by
  unfold classPart at h
  split at h
  · next h1 =>
    split at h
    · cases h
    · cases h; exact .inl ⟨h1, rfl⟩
  · split at h
    · next h2 =>
      split at h
      · cases h
      · cases h; exact .inr ⟨h2, rfl⟩
    · cases h

theorem classPart_eq_none {c : CreateOperands} :
    classPart c = none ↔ (c.cls ≠ 1 ∧ c.cls ≠ 2) ∨
      (c.cls = 1 ∧ (c.issuance.last < c.issuance.first ∨ 16777214 < c.issuance.last ∨ c.issuance.usage = 0x00 ∨
        c.issuance.usage = 0xFF)) ∨ (c.cls = 2 ∧ c.model = 0) := by
  unfold classPart
  by_cases h1 : c.cls = 1
  · have h2 : ¬ c.cls = 2 := by rw [h1]; decide
    rw [if_pos h1]
    simp only [ite_eq_left_iff, reduceCtorEq, imp_false, not_not, Config.lastNumber, gt_iff_lt]
    tauto
  · rw [if_neg h1]
    by_cases h2 : c.cls = 2
    · rw [if_pos h2]
      simp only [ite_eq_left_iff, reduceCtorEq, imp_false, not_not]
      tauto
    · rw [if_neg h2]
      exact iff_of_true rfl (.inl ⟨h1, h2⟩)

/-- Two bytes spell zero as a number of 16 bits only when they are zero. -/
theorem ofNat_take_two_eq_zero (l : List Byte) : BitVec.ofNat 16 (natOfBytes (l.take 2)) = 0 ↔ natOfBytes (l.take 2) = 0 := by
  have bound : natOfBytes (l.take 2) < 2 ^ 16 := by
    match l with
    | [] => decide
    | [a] => simp [natOfBytes]; omega
    | a :: b :: _ => simp [natOfBytes]; omega
  rw [← BitVec.toNat_inj, BitVec.toNat_ofNat, Nat.mod_eq_of_lt bound]
  rfl

/-- The search of check 7 in a sound table. -/
theorem modelSearch_of_sound {s : State} (h : s.Sound) (part : ClassPart) :
    modelSearch part s = (s, match part with
      | .base _ => none
      | .transport m => allSlots.find? fun i => (s.account i).any (holdsModelClass m)) := by
  cases part with
  | base _ => rfl
  | transport m => exact search_of_sound h

section
variable {s : State} {i : SlotId} {c : CreateOperands} {k : KeyLength} {q : Quorum} {part : ClassPart}

/-- Check 5 of R14. -/
theorem createRecord_of_used (hused : ∃ a, s.account i = some a) : createRecord i c k q part s = reply .badState s := by
  obtain ⟨a, ha⟩ := hused
  exact if_pos (by rw [ha]; rfl)

/-- Check 6 of R14. -/
theorem createRecord_of_label (hsound : s.Sound) (he : s.engine.Settled) (hfree : s.account i = none)
    (hlabel : ∃ j a, s.account j = some a ∧ a.label = BitVec.ofNat 64 (natOfBytes c.label)) :
    createRecord i c k q part s = reply .labelInUse s := by
  obtain ⟨j, a, ha, hl⟩ := hlabel
  have found : (allSlots.find? fun i => (s.account i).any fun a => a.label == BitVec.ofNat 64 (natOfBytes c.label)).isSome := by
    rw [List.find?_isSome]
    exact ⟨j, List.mem_finRange j, by simp [ha, hl]⟩
  unfold createRecord
  rw [if_neg (by simp [hfree])]
  dsimp only
  rw [search_of_sound hsound, if_pos found, settleEngine_of_settled he]

theorem label_search_eq_none (hlabel : ∀ j a, s.account j = some a → a.label ≠ BitVec.ofNat 64 (natOfBytes c.label)) :
    (allSlots.find? fun i => (s.account i).any fun a => a.label == BitVec.ofNat 64 (natOfBytes c.label)) = none :=
  find?_allSlots_eq_none fun j => by
    cases hb : s.account j with
    | none => rfl
    | some b => simpa using hlabel j b hb

/-- Check 7 of R14. -/
theorem createRecord_of_model (hsound : s.Sound) (he : s.engine.Settled) (hfree : s.account i = none)
    (hlabel : ∀ j a, s.account j = some a → a.label ≠ BitVec.ofNat 64 (natOfBytes c.label))
    (hmodel : ∃ j a m, part = .transport m ∧ s.account j = some a ∧ a.part = .transport m ∧ a.state.holdsModel = true) :
    createRecord i c k q part s = reply .modelInUse s := by
  obtain ⟨j, a, m, rfl, ha, hpart, hholds⟩ := hmodel
  have found : (allSlots.find? fun i => (s.account i).any (holdsModelClass m)).isSome := by
    rw [List.find?_isSome]
    exact ⟨j, List.mem_finRange j, by rw [ha]; exact holdsModelClass_iff.2 ⟨hholds, hpart⟩⟩
  unfold createRecord
  rw [if_neg (by simp [hfree])]
  dsimp only
  rw [search_of_sound hsound, label_search_eq_none hlabel, modelSearch_of_sound hsound, if_neg (by simp), if_pos found,
    settleEngine_of_settled he]

/-- A CREATE that passes the checks of R14. -/
theorem createRecord_of_checked (hsound : s.Sound) (he : s.engine.Settled) (hfree : s.account i = none)
    (hlabel : ∀ j a, s.account j = some a → a.label ≠ BitVec.ofNat 64 (natOfBytes c.label))
    (hmodel : ∀ j a m, part = .transport m → s.account j = some a → a.part = .transport m → a.state.holdsModel = false) :
    createRecord i c k q part s =
      { state := s.setSlot i (newRecord (BitVec.ofNat 64 (natOfBytes c.label)) k q
          (c.permissions.setWidth 4 &&& part.validFlags) part)
        code := if (c.permissions.setWidth 4 &&& part.validFlags).setWidth 8 = c.permissions then .ok else .clamped
        data := fun _ => [BitVec.ofNat 8 i.val, (c.permissions.setWidth 4 &&& part.validFlags).setWidth 8] } := by
  have absent : (modelSearch part s) = (s, none) := by
    rw [modelSearch_of_sound hsound]
    cases part with
    | base _ => rfl
    | transport m =>
      refine congrArg (s, ·) (find?_allSlots_eq_none fun j => ?_)
      cases hb : s.account j with
      | none => rfl
      | some b =>
        rw [Option.any_some, ← Bool.not_eq_true]
        intro hholds
        obtain ⟨holds, hpart⟩ := holdsModelClass_iff.1 hholds
        rw [hmodel j b m rfl hb hpart] at holds
        cases holds
  unfold createRecord
  rw [if_neg (by simp [hfree])]
  dsimp only
  rw [search_of_sound hsound, label_search_eq_none hlabel, absent, if_neg (by simp), if_neg (by simp),
    settleEngine_of_settled (show (s.setSlot i _).engine.Settled from he)]

end

theorem create_of_slot {s : State} {i : SlotId} {c : CreateOperands} (hi : c.slot.toNat = i.val) :
    create c s = match createPart c with
      | none => reply .badValue s
      | some (k, q, part) => createRecord i c k q part s :=
  withSlot_of_toNat hi s _

/-- Settles O24: the operands where R202 and R200 put them, and the record of R16 once the checks pass. -/
theorem createMakesRecord : Obligations.CreateMakesRecord := by
  refine ⟨fun p => ⟨?_, fun c hc => ?_⟩, fun s p c i k q part hs hsound he hc hi hpart hfree hlabel hmodel => ?_⟩
  · have cls : 15 ≤ p.length → ∀ b : Byte, p[1]? ≠ some b ↔ byteAt p 1 ≠ b := fun h b => by
      rw [← some_byteAt (by omega : 1 < p.length), ne_eq, Option.some_inj]
    constructor
    · rintro (⟨hl, h⟩ | ⟨hl, h⟩)
      · exact ⟨_, if_pos (.inl ⟨hl, (cls (by omega) 2).1 h⟩)⟩
      · exact ⟨_, if_pos (.inr ⟨hl, (cls (by omega) 1).1 h⟩)⟩
    · rintro ⟨c, hc⟩
      have fits := (Option.ite_none_right_eq_some.1 hc).1
      exact fits.imp (fun h => ⟨h.1, (cls (by omega) 2).2 h.2⟩) fun h => ⟨h.1, (cls (by omega) 1).2 h.2⟩
  · obtain ⟨long, hslot, hcls, hlab, hlen, hquo, hperm, hrest⟩ := createOperands_eq_some hc
    refine ⟨⟨?_, ?_, hlab, ?_, ?_, ?_⟩, fun k q part h => ?_⟩
    · rw [hslot, some_byteAt (by omega)]
    · rw [hcls, some_byteAt (by omega)]
    · rw [hlen, some_byteAt (by omega)]
    · rw [hquo, some_byteAt (by omega)]
    · rw [hperm, some_byteAt (by omega)]
    · obtain ⟨hk, hq, -, hp⟩ := createPart_eq_some.1 h
      refine ⟨keyLengthOf_eq_some.1 hk, quorumOf_eq_some.1 hq, ?_⟩
      rw [← issuance_of_payload hrest, ← model_of_payload hrest]
      exact classPart_eq_some hp
  · have made : create c s = createRecord i c k q part s := by rw [create_of_slot hi, hpart]
    have asked := consoleCommand_map_of_serves hs (kind := Kind.create) (p := p) hc create
    rw [made, createRecord_of_checked hsound he hfree hlabel hmodel] at asked
    exact congrArg Host.Outcome.next asked

theorem or_fourth_first {k q l c r : Prop} : (k ∨ q ∨ l ∨ c ∨ r) ↔ (c ∨ k ∨ q ∨ l ∨ r) := by tauto

/-- Settles O25: the checks of R14 in their order. -/
theorem createRefuses : Obligations.CreateRefuses := by
  refine ⟨fun p c hc => ?_, fun s p c hs hsound he hc => ?_⟩
  · obtain ⟨-, -, -, -, -, -, -, hrest⟩ := createOperands_eq_some hc
    dsimp only
    rw [createPart_eq_none, keyLengthOf_eq_none, quorumOf_eq_none, labelValid_eq_false, classPart_eq_none,
      issuance_of_payload hrest, model_of_payload hrest, ofNat_take_two_eq_zero]
    exact or_fourth_first
  · have refused {code : AnswerCode} (h : create c s = reply code s) : exec (.create p) s = .next (answered 0x13 code [] s) := by
      have asked := consoleCommand_map_of_serves hs (kind := Kind.create) (p := p) hc create
      rw [h] at asked
      exact congrArg Host.Outcome.next asked
    refine ⟨fun hbad => refused (withSlot_of_bad hbad s _), fun i hi => ⟨fun hnone => refused ?_, fun x hx => ⟨fun hused => ?_,
      fun hfree => ⟨fun hlabel => ?_, fun hlabel hmodel => ?_⟩⟩⟩⟩
    · rw [create_of_slot hi, hnone]
    all_goals
      refine refused ?_
      rw [create_of_slot hi, hx]
    · exact createRecord_of_used hused
    · exact createRecord_of_label hsound he hfree hlabel
    · exact createRecord_of_model hsound he hfree hlabel hmodel

end Sys2Proof.Machine

/-! # Tickets: reading, declining, expiry, dismissal, the checks of APPROVE (R80 to R87) -/

namespace Sys2Proof.Machine

/-! ## The table around one ticket -/

namespace ApprovalUnit

variable {u : ApprovalUnit} {before after : List Ticket} {t : Ticket} {n : Nat}

theorem find?_of_none (h : ∀ x ∈ u.tickets, x.number ≠ n) : u.find? n = none :=
  List.find?_eq_none.2 fun x hx => by simpa using h x hx

theorem find?_of_split (hu : u.tickets = before ++ t :: after) (hb : ∀ x ∈ before, x.number ≠ n) (hn : t.number = n) :
    u.find? n = some t := by
  rw [find?, hu, List.find?_append, List.find?_eq_none.2 fun x hx => by simpa using hb x hx, List.find?_cons_of_pos (by simpa)]
  rfl

/-- The other tickets of the table bear other numbers. -/
theorem map_others {f : Ticket → Ticket} {l : List Ticket} (hl : ∀ x ∈ l, x.number ≠ n) :
    (l.map fun x => if x.number = n then f x else x) = l := by
  conv_rhs => rw [← List.map_id l]
  exact List.map_congr_left fun x hx => if_neg (hl x hx)

theorem put_of_split (hu : u.tickets = before ++ t :: after) (ho : ∀ x ∈ before ++ after, x.number ≠ n) (hn : t.number = n)
    {t' : Ticket} (hn' : t'.number = n) : u.put t' = { u with tickets := before ++ t' :: after } := by
  obtain ⟨hb, ha⟩ := List.forall_mem_append.1 ho
  rw [put, hu, hn', List.map_append, List.map_cons, if_pos hn, map_others (f := fun _ => t') hb, map_others (f := fun _ => t') ha]

theorem finish_of_split (hu : u.tickets = before ++ t :: after) (ho : ∀ x ∈ before ++ after, x.number ≠ n) (hn : t.number = n)
    {t' : Ticket} (hn' : t'.number = n) :
    u.finish t' = { u with tickets := before ++ t' :: after, finished := u.finished ++ [t'.number] } := by
  rw [finish, put_of_split hu ho hn hn']

theorem remove_of_split (hu : u.tickets = before ++ t :: after) (ho : ∀ x ∈ before ++ after, x.number ≠ n) (hn : t.number = n) :
    u.remove n = { u with tickets := before ++ after, finished := u.finished.filter (· ≠ n) } := by
  obtain ⟨hb, ha⟩ := List.forall_mem_append.1 ho
  rw [remove, hu, List.filter_append, List.filter_cons_of_neg (by simpa), List.filter_eq_self.2 fun x hx => by simpa using hb x hx,
    List.filter_eq_self.2 fun x hx => by simpa using ha x hx]

end ApprovalUnit

theorem Ticket.isOpen_of_state {t : Ticket} {left : Nat} (h : t.state = .stillOpen left) : t.isOpen = true :=
  Ticket.isOpen_iff.2 ⟨left, h⟩

/-! ## Ticket requests (R82) -/

section
variable {s : State} {l : Line} {n : Byte} {t : Ticket}

/-- A request with fitting operands on a line that hears it (R53). -/
theorem custodianRequest_map_of_hears {α : Type} (h : s.Hears l) {kind : Byte} {o : Option α} {x : α} (ho : o = some x)
    {f : α → State → State × AnswerCode × List Byte} {v : State} {code : AnswerCode} {data : List Byte}
    (hf : f x s = (v, code, data)) : custodianRequest l kind (o.map f) s = answeredLine l kind code data v := by
  rw [ho, Option.map_some, custodianRequest_of_hears h, hf]

theorem ticketRequest_of_starting (h : ∃ k, s.device = .starting k) (f : Ticket → State × AnswerCode × List Byte) :
    ticketRequest n s f = (s, .notReady, []) := by
  obtain ⟨k, hk⟩ := h
  rw [ticketRequest, hk]

/-- Past STARTING a ticket request looks for its ticket. -/
theorem ticketRequest_of_ready (h : ∀ k, s.device ≠ .starting k) (f : Ticket → State × AnswerCode × List Byte) :
    ticketRequest n s f = match s.approval.find? n.toNat with
      | none => (s, .unknownTicket, [])
      | some t => f t := by
  unfold ticketRequest
  split
  · next k hk => exact absurd hk (h k)
  · rfl

theorem ticketRequest_of_unknown (h : ∀ k, s.device ≠ .starting k) (hnone : ∀ t ∈ s.approval.tickets, t.number ≠ n.toNat)
    (f : Ticket → State × AnswerCode × List Byte) : ticketRequest n s f = (s, .unknownTicket, []) := by
  rw [ticketRequest_of_ready h, ApprovalUnit.find?_of_none hnone]

theorem ticketRequest_of_found (h : ∀ k, s.device ≠ .starting k) (ht : s.approval.find? n.toNat = some t)
    (f : Ticket → State × AnswerCode × List Byte) : ticketRequest n s f = f t := by
  rw [ticketRequest_of_ready h, ht]

theorem exec_ticketQuery (h : s.Hears l) {v : State} {code : AnswerCode} {data : List Byte}
    (hf : (ticketRequest n s fun t => (s, .ok, t.summary)) = (v, code, data)) :
    exec (.ticketQuery l [n]) s = .next (answeredLine l 0x42 code data v) :=
  congrArg Host.Outcome.next (custodianRequest_map_of_hears h (x := n) rfl hf)

theorem exec_decline (h : s.Hears l) {v : State} {code : AnswerCode} {data : List Byte} (hf : decline n s = (v, code, data)) :
    exec (.decline l [n]) s = .next (answeredLine l 0x44 code data v) :=
  congrArg Host.Outcome.next (custodianRequest_map_of_hears h (x := n) rfl hf)

theorem exec_approve_of_hears (h : s.Hears l) {act slot hi lo : Byte} {v : State} {code : AnswerCode} {data : List Byte}
    (hf : approve l [n, act, slot, hi, lo] s = (v, code, data)) :
    exec (.approve l [n, act, slot, hi, lo]) s = .next (answeredLine l 0x43 code data v) :=
  congrArg Host.Outcome.next (custodianRequest_map_of_hears h (x := [n, act, slot, hi, lo]) rfl hf)

end

theorem admits_tickets {d : DeviceState} (hd : ∀ k, d ≠ .starting k) {kind : Byte}
    (hk : kind = Kind.readTickets ∨ kind = Kind.dismissTicket) (p : Payload) : admits d kind p = true := by
  cases d with
  | starting k => exact absurd rfl (hd k)
  | operational => rfl
  | tampered => rcases hk with rfl | rfl <;> simp [admits]

theorem Ticket.length_summary (t : Ticket) : t.summary.length = 10 := by
  simp [Ticket.summary, bytesOfBits, bytesOfNat]

/-- Settles O34: each request looks for its ticket and changes nothing. -/
theorem ticketsRead : Obligations.TicketsRead := by
  refine ⟨fun s ht hd => ?_, fun s l n hl => ⟨fun hk => ?_, fun hd => ⟨fun hnone => ?_, fun before t after hu hb hn => ?_⟩⟩,
    Ticket.length_summary⟩
  · exact congrArg Host.Outcome.next (consoleCommand_of_admits ht (admits_tickets hd (.inl rfl) _) readTickets)
  · exact exec_ticketQuery hl (ticketRequest_of_starting hk _)
  · exact exec_ticketQuery hl (ticketRequest_of_unknown hd hnone _)
  · exact exec_ticketQuery hl (ticketRequest_of_found hd (ApprovalUnit.find?_of_split hu hb hn) _)

/-- The data of the answer, once the ticket stands in the table (R84, R85). -/
theorem ticketOutcome_of_split {s : State} {before after : List Ticket} {t : Ticket} {n : Nat}
    (hu : s.approval.tickets = before ++ t :: after) (hb : ∀ x ∈ before, x.number ≠ n) (hn : t.number = n) :
    ticketOutcome n s = [t.state.code, t.state.reasonCode, lineSetByte t.approvals] := by
  rw [ticketOutcome, ApprovalUnit.find?_of_split hu hb hn]

/-! ## DECLINE, expiry and DISMISS_TICKET (R81, R85, R86) -/

section
variable {s : State} {n : Byte} {t : Ticket}

theorem dismissTicket_of_found (h : s.approval.find? n.toNat = some t) : dismissTicket n s =
    if t.isOpen then reply .badState s else reply .ok (s.setApproval (s.approval.remove n.toNat)) := by
  rw [dismissTicket, h]

theorem exec_dismissTicket (ht : s.takesCommand = true) (hd : ∀ k, s.device ≠ .starting k) {code : AnswerCode} {v : State}
    (hf : dismissTicket n s = reply code v) : exec (.dismissTicket [n]) s = .next (answered 0x22 code [] v) := by
  have asked := consoleCommand_of_admits (p := [n]) ht (admits_tickets hd (.inr rfl) _) (dismissTicket n)
  rw [hf] at asked
  exact congrArg Host.Outcome.next asked

theorem expireTicket_of_found (h : s.approval.find? n.toNat = some t) : expireTicket n.toNat s =
    if t.isOpen then (s.setApproval (s.approval.finish { t with state := .expired, approvals := 0 })).latch .ticketExpired
    else s := by
  rw [expireTicket, h]

theorem exec_ticketExpiry_of_unchanged {m : Nat} (h : expireTicket m s = s) : exec (.ticketExpiry m) s = .next s := by
  refine congrArg Host.Outcome.next ?_
  rw [h, ite_self]

end

/-- Settles O35: each end of a ticket by its branch; the laws of the table hold through every step. -/
theorem ticketsEnd : Obligations.TicketsEnd := by
  refine ⟨?_, fun s n hnone hd => ⟨fun l hl => exec_decline hl (ticketRequest_of_unknown hd hnone _), fun ht => ?_, ?_⟩,
    fun s before after t n hu ho hn => ?_⟩
  · exact fun s t hs h => step_keeps (P := fun s => s.approval.Lawful) (fun _ _ h => h) (fun _ _ _ h hs => exec_approvalLawful h hs)
      (fun _ h => tick_approvalLawful h) hs h
  · exact exec_dismissTicket ht hd (by rw [dismissTicket, ApprovalUnit.find?_of_none hnone])
  · exact exec_ticketExpiry_of_unchanged (by rw [expireTicket, ApprovalUnit.find?_of_none hnone])
  have found : s.approval.find? n.toNat = some t :=
    ApprovalUnit.find?_of_split hu (fun x hx => ho x (List.mem_append_left _ hx)) hn
  refine ⟨fun l hl hd => ⟨fun left hopen => ?_, fun hex => ⟨?_, fun act slot hi lo => ?_⟩, fun hclosed => ?_⟩,
    fun left hp hopen => ?_, fun hshut => ?_, fun ht hd => ⟨fun hopen => ?_, fun hshut => ?_⟩⟩
  · refine exec_decline hl ?_
    rw [decline, ticketRequest_of_found hd found, hopen]
    dsimp only
    rw [ApprovalUnit.finish_of_split (t' := { t with state := .failed .declined }) hu ho hn hn,
      ticketOutcome_of_split (s := State.latch _ _) (t := { t with state := .failed .declined }) rfl
        (fun x hx => hn ▸ ho x (List.mem_append_left _ hx)) rfl]
    rfl
  · exact exec_decline hl (by rw [decline, ticketRequest_of_found hd found, hex])
  · exact exec_approve_of_hears hl ((ticketRequest_of_found hd found _).trans (by rw [hex]))
  · refine exec_decline hl ((ticketRequest_of_found hd found _).trans ?_)
    rcases hclosed with h | ⟨r, h⟩ <;> rw [h]
  · refine congrArg Host.Outcome.next ?_
    rw [if_pos hp, expireTicket_of_found found, if_pos (Ticket.isOpen_of_state hopen),
      ApprovalUnit.finish_of_split (t' := { t with state := .expired, approvals := 0 }) hu ho hn hn]
    rfl
  · exact exec_ticketExpiry_of_unchanged (by rw [expireTicket_of_found found, hshut]; rfl)
  · exact exec_dismissTicket ht hd (by rw [dismissTicket_of_found found, if_pos hopen])
  · refine exec_dismissTicket ht hd (v := { s with approval := _ }) ?_
    rw [dismissTicket_of_found found, hshut, ApprovalUnit.remove_of_split hu ho hn]
    rfl

/-! ## The checks of APPROVE (R84) -/

/-- The amount that an APPROVE carries is that of the ticket. -/
theorem field_amount_eq_iff {n act slot hi lo : Byte} {amount : BitVec 16} :
    field [n, act, slot, hi, lo] 3 2 = amount.toNat ↔ (hi ++ lo : BitVec 16) = amount := by
  have bound : natOfBytes [hi, lo] < 2 ^ 16 := by simp [natOfBytes]; omega
  rw [← ofNat_natOfBytes_pair, ← BitVec.toNat_inj, BitVec.toNat_ofNat, Nat.mod_eq_of_lt bound]
  rfl

section
variable {s : State} {l : Line} {t : Ticket} {n act slot hi lo : Byte}

/-- An APPROVE on an OPEN ticket, by its checks 4 to 6 (R84). -/
theorem approve_of_open (hd : ∀ k, s.device ≠ .starting k) (ht : s.approval.find? n.toNat = some t) (ho : t.isOpen = true) :
    approve l [n, act, slot, hi, lo] s =
      if ¬ (act = t.action.code ∧ slot.toNat = t.slot.val ∧ (hi ++ lo : BitVec 16) = t.amount) then (s, .mismatch, [])
      else if t.approvals &&& lineBit l = lineBit l then (s, .alreadyApproved, [])
      else (takeApproval l t s, .ok, ticketOutcome t.number (takeApproval l t s)) := by
  obtain ⟨left, hstate⟩ := Ticket.isOpen_iff.1 ho
  refine (ticketRequest_of_found hd ht _).trans ?_
  rw [hstate]
  dsimp only
  refine if_congr ?_ rfl rfl
  rw [← field_amount_eq_iff (n := n) (act := act) (slot := slot)]
  simp only [not_and_or, ne_eq]
  rfl

theorem lineCount_lineBit (l : Line) : lineCount (lineBit l) = 1 := by
  revert l
  decide

theorem no_approval (l : Line) : ¬ (0 &&& lineBit l = lineBit l) := by
  revert l
  decide

/-- The first approval joins the set (R84 check 6). -/
theorem takeApproval_of_none (h : t.approvals = 0) :
    takeApproval l t s = s.setApproval (s.approval.put { t with approvals := lineBit l }) := by
  have alone : 0 ||| lineBit l = lineBit l := BitVec.zero_or
  unfold takeApproval
  simp only [h, alone]
  exact if_neg (by rw [lineCount_lineBit]; decide)

end

/-- Settles O36: the checks of R84 one after the other, and a first approval. -/
theorem approveChecks : Obligations.ApproveChecks := by
  refine fun s l n act slot hi lo hl => ⟨fun hk => ?_, fun hd => ⟨fun hnone => ?_, fun before t after hu ho hn => ?_⟩⟩
  · exact exec_approve_of_hears hl (ticketRequest_of_starting hk _)
  · exact exec_approve_of_hears hl (ticketRequest_of_unknown hd hnone _)
  have found : s.approval.find? n.toNat = some t :=
    ApprovalUnit.find?_of_split hu (fun x hx => ho x (List.mem_append_left _ hx)) hn
  refine ⟨fun hex => ?_, fun hclosed => ?_, fun hopen hmis => ?_, fun hopen hmatch => ⟨fun hagain => ?_, fun hfirst => ?_⟩⟩
  · exact exec_approve_of_hears hl ((ticketRequest_of_found hd found _).trans (by rw [hex]))
  · refine exec_approve_of_hears hl ((ticketRequest_of_found hd found _).trans ?_)
    rcases hclosed with h | ⟨r, h⟩ <;> rw [h]
  · exact exec_approve_of_hears hl (by rw [approve_of_open hd found hopen, if_pos hmis])
  · exact exec_approve_of_hears hl (by rw [approve_of_open hd found hopen, if_neg (not_not.2 hmatch), if_pos hagain])
  · refine exec_approve_of_hears hl (v := { s with approval := _ }) ?_
    obtain ⟨left, hstate⟩ := Ticket.isOpen_iff.1 hopen
    rw [approve_of_open hd found hopen, if_neg (not_not.2 hmatch), if_neg (by rw [hfirst]; exact no_approval l),
      takeApproval_of_none hfirst,
      ApprovalUnit.put_of_split (t' := { t with approvals := lineBit l }) hu ho hn hn,
      ticketOutcome_of_split (s := State.setApproval _ _) (t := { t with approvals := lineBit l }) rfl
        (fun x hx => hn ▸ ho x (List.mem_append_left _ hx)) rfl, hstate]
    rfl

end Sys2Proof.Machine

/-! # OPEN_TICKET (R74 to R79) -/

namespace Sys2Proof.Machine

/-! ## The number of the new ticket (R74) -/

/-- The search ends at the first candidate that is free. -/
theorem freeNumber_of_first {used : List Nat} {f : Nat → Nat} (hf : ∀ j, nextNumber (f j) = f (j + 1)) {k : Nat}
    (hfree : f k ∉ used) (fuel j : Nat) (hj : j ≤ k) (hfuel : k < j + fuel) (hused : ∀ i, j ≤ i → i < k → f i ∈ used) :
    freeNumber used fuel (f j) = f k := by
  induction fuel generalizing j with
  | zero => omega
  | succ fuel ih =>
    rw [freeNumber]
    rcases hj.eq_or_lt with rfl | hlt
    · rw [if_neg hfree]
    · rw [if_pos (hused j le_rfl hlt), hf]
      exact ih (j + 1) hlt (by omega) fun i hi => hused i (by omega)

theorem nextNumber_candidate (n j : Nat) : nextNumber ((n + j) % 255 + 1) = (n + (j + 1)) % 255 + 1 := by
  unfold nextNumber
  split <;> omega

theorem nextNumber_of_le {n : Nat} (h : n ≤ 255) : nextNumber n = (n + 0) % 255 + 1 := by
  unfold nextNumber
  split <;> omega

/-- The new ticket bears the first free candidate after the counter (R74). -/
theorem addTicket_of_first {u : ApprovalUnit} (hu : u.counter ≤ 255) {k : Nat} (hk : k ≤ 4)
    (hused : ∀ j, j < k → ∃ t ∈ u.tickets, t.number = (u.counter + j) % 255 + 1)
    (hfree : ∀ t ∈ u.tickets, t.number ≠ (u.counter + k) % 255 + 1) (act : Action) (i : SlotId) (amount : BitVec 16)
    (window : Nat) :
    u.addTicket act i amount window =
      ({ u with
          tickets := u.tickets ++
            [{ number := (u.counter + k) % 255 + 1, action := act, slot := i, amount := amount, approvals := 0,
               state := .stillOpen (window * 1000) }]
          counter := (u.counter + k) % 255 + 1 }, (u.counter + k) % 255 + 1) := by
  have number : freeNumber (u.tickets.map (·.number)) 5 (nextNumber u.counter) = (u.counter + k) % 255 + 1 := by
    rw [nextNumber_of_le hu]
    refine freeNumber_of_first (f := fun j => (u.counter + j) % 255 + 1) (nextNumber_candidate _) ?_ 5 0 (Nat.zero_le k) (by omega)
      fun j _ hj => ?_
    · rw [List.mem_map]
      rintro ⟨t, ht, hn⟩
      exact hfree t ht hn
    · exact List.mem_map.2 (hused j hj)
  unfold ApprovalUnit.addTicket
  rw [number]

/-! ## Room for the new ticket (R78) -/

theorem makeRoom_of_short {u : ApprovalUnit} (h : u.tickets.length < 4) : u.makeRoom = u :=
  if_neg (Nat.not_le.2 h)

theorem makeRoom_of_front {u : ApprovalUnit} (h : 4 ≤ u.tickets.length) {n : Nat} {finished : List Nat}
    (hf : u.finished = n :: finished) (hn : n ∉ finished) :
    u.makeRoom = { u with tickets := u.tickets.filter fun t => t.number ≠ n, finished := finished } := by
  rw [ApprovalUnit.makeRoom, if_pos (show u.tickets.length ≥ Config.maxTickets from h), hf]
  dsimp only [ApprovalUnit.remove]
  have others : finished.filter (· ≠ n) = finished := List.filter_eq_self.2 fun m hm => by
    simpa using fun h : m = n => hn (h ▸ hm)
  rw [hf, List.filter_cons_of_neg (by simp), others]

/-! ## The checks of R76 -/

/-- The precondition of R77 on a record. -/
theorem admitsRecord_iff {act : Action} {o : Option Account} (hact : act ≠ .clearTamper) : act.admitsRecord o = true ↔ ∃ a, o = some a ∧
    (act = .grant ∧ a.part.isBase = true ∧ (a.state = .active ∨ a.state = .suspended) ∨
      act = .widen ∧ (a.state = .active ∨ a.state = .suspended) ∨
      act = .forceRetire ∧ (a.state = .active ∨ a.state = .suspended ∨ a.state = .exhausted) ∨
      act = .releaseQuarantined ∧ a.state = .quarantined) := by
  cases o with
  | none => cases act <;> simp [Action.admitsRecord]
  | some a => cases act <;> simp [Action.admitsRecord, isLive_iff] at hact ⊢

theorem precondition_of_record {act : Action} {i : SlotId} {s : State} (hact : act ≠ .clearTamper)
    (hr : (s.slot i).readable = true) : precondition act i s = (s, act.admitsRecord (s.account i)) := by
  cases act with
  | clearTamper => exact absurd rfl hact
  | grant | widen | forceRetire | releaseQuarantined => simp only [precondition, check_of_readable hr]

section
variable {act : Action} {i : SlotId} {amount : BitVec 16} {s : State}

/-- Check 4. -/
theorem openOn_of_not_admitted (he : s.engine.Settled) (hp : precondition act i s = (s, false)) :
    openOn act i amount s = reply .badState s := by
  simp only [openOn, hp, settleEngine_of_settled he]
  rfl

/-- Checks 5 and 6, and the opening, once the precondition holds. -/
theorem openOn_of_admitted (he : s.engine.Settled) (hp : precondition act i s = (s, true)) :
    openOn act i amount s =
      if ∃ t ∈ s.approval.tickets, t.isOpen = true ∧ t.action = act ∧ t.slot = i then reply .duplicate s
      else if 4 ≤ s.approval.tickets.length ∧ ∀ t ∈ s.approval.tickets, t.isOpen = true then reply .tableFull s
      else
        let u := s.approval.makeRoom.addTicket act i amount s.console.settings.approvalWindow
        { state := s.setApproval u.1, code := .ok, data := fun _ => [BitVec.ofNat 8 u.2] } := by
  simp only [openOn, hp, settleEngine_of_settled he, not_true_eq_false, if_false]
  refine if_congr ?_ rfl (if_congr ?_ rfl rfl)
  · simp only [List.any_eq_true, Bool.and_eq_true, beq_iff_eq, and_assoc]
  · simp only [List.all_eq_true]
    rfl

/-- A new ticket with the table's room and the candidates as they stand. -/
theorem openOn_of_room (he : s.engine.Settled) (hp : precondition act i s = (s, true))
    (hsingle : ¬ ∃ t ∈ s.approval.tickets, t.isOpen = true ∧ t.action = act ∧ t.slot = i)
    {left : List Ticket} {finished : List Nat}
    (hroom : s.approval.tickets.length < 4 ∧ left = s.approval.tickets ∧ finished = s.approval.finished ∨
      4 ≤ s.approval.tickets.length ∧ (∃ t ∈ s.approval.tickets, t.isOpen = false) ∧
        ∃ n, s.approval.finished = n :: finished ∧ n ∉ finished ∧ left = s.approval.tickets.filter fun t => t.number ≠ n)
    (hc : s.approval.counter ≤ 255) {k : Nat} (hk : k ≤ 4)
    (hused : ∀ j, j < k → ∃ t ∈ left, t.number = (s.approval.counter + j) % 255 + 1)
    (hfree : ∀ t ∈ left, t.number ≠ (s.approval.counter + k) % 255 + 1) :
    openOn act i amount s =
      { state :=
          { s with
            approval :=
              { tickets := left ++
                  [{ number := (s.approval.counter + k) % 255 + 1, action := act, slot := i, amount := amount, approvals := 0,
                     state := .stillOpen (s.console.settings.approvalWindow * 1000) }]
                finished := finished
                counter := (s.approval.counter + k) % 255 + 1 } }
        code := .ok
        data := fun _ => [BitVec.ofNat 8 ((s.approval.counter + k) % 255 + 1)] } := by
  have full : ¬ (4 ≤ s.approval.tickets.length ∧ ∀ t ∈ s.approval.tickets, t.isOpen = true) := by
    rintro ⟨hlen, hall⟩
    rcases hroom with ⟨hshort, -⟩ | ⟨-, ⟨t, ht, hclosed⟩, -⟩
    · omega
    · rw [hall t ht] at hclosed
      cases hclosed
  have room : s.approval.makeRoom = { s.approval with tickets := left, finished := finished } := by
    rcases hroom with ⟨hshort, rfl, rfl⟩ | ⟨hlen, -, n, hf, hn, rfl⟩
    · exact makeRoom_of_short hshort
    · exact makeRoom_of_front hlen hf hn
  rw [openOn_of_admitted he hp, if_neg hsingle, if_neg full, room]
  dsimp only
  rw [addTicket_of_first (u := { s.approval with tickets := left, finished := finished }) hc hk hused hfree]
  rfl

end

/-! ## The operands of OPEN_TICKET (R75, R76) -/

section
variable {s : State} {a b c d : Byte}

theorem field_openTicket (a b c d : Byte) : BitVec.ofNat 16 (field [a, b, c, d] 2 2) = c ++ d := ofNat_natOfBytes_pair c d

/-- The owning rule of an OPEN_TICKET that the device state passes. -/
theorem exec_openTicket (ht : s.takesCommand = true) (ha : admits s.device Kind.openTicket [a, b, c, d] = true) {r : Reply}
    (hf : openTicket a b (c ++ d) s = r) :
    exec (.openTicket [a, b, c, d]) s = .next (answered 0x20 r.code (r.data (feed r.state)) r.state) := by
  subst hf
  rw [← field_openTicket a b c d]
  exact congrArg Host.Outcome.next (consoleCommand_of_admits ht ha
    (fun s => openTicket (byteAt [a, b, c, d] 0) (byteAt [a, b, c, d] 1) (BitVec.ofNat 16 (field [a, b, c, d] 2 2)) s))

theorem admits_of_serves (hs : s.Serves) (kind : Byte) (p : Payload) : admits s.device kind p = true := by
  obtain ⟨-, hd⟩ := hs
  rw [hd]
  rfl

theorem admits_clearTamper (hd : s.device = .tampered) : admits s.device Kind.openTicket [5, b, c, d] = true := by
  rw [hd]
  rfl

theorem openTicket_clearTamper (b : Byte) (amount : BitVec 16) (s : State) :
    openTicket 5 b amount s = openOn .clearTamper 0 0 s := rfl

theorem openTicket_of_record {act : Action} (hact : act ≠ .clearTamper) (b : Byte) (amount : BitVec 16) (s : State) :
    openTicket act.code b amount s = withSlot b s fun i =>
      match storedAmount act amount with
      | none => reply .badValue s
      | some stored => openOn act i stored s := by
  cases act with
  | clearTamper => exact absurd rfl hact
  | grant | widen | forceRetire | releaseQuarantined => rfl

theorem exists_code_of_range (h : 1 ≤ a.toNat ∧ a.toNat ≤ 4) : ∃ act : Action, act ≠ .clearTamper ∧ act.code = a := by
  have cases : a.toNat = 1 ∨ a.toNat = 2 ∨ a.toNat = 3 ∨ a.toNat = 4 := by omega
  rcases cases with h | h | h | h
  · exact ⟨.grant, nofun, (BitVec.eq_of_toNat_eq h).symm⟩
  · exact ⟨.widen, nofun, (BitVec.eq_of_toNat_eq h).symm⟩
  · exact ⟨.forceRetire, nofun, (BitVec.eq_of_toNat_eq h).symm⟩
  · exact ⟨.releaseQuarantined, nofun, (BitVec.eq_of_toNat_eq h).symm⟩

theorem ofCode_of_unknown (h : a = 0 ∨ 5 < a.toNat) : Action.ofCode a = none := by
  have other (n : Byte) (hn : 1 ≤ n.toNat ∧ n.toNat ≤ 5) : a ≠ n := by
    rintro rfl
    rcases h with rfl | h
    · exact absurd hn.1 (by decide)
    · omega
  rw [Action.ofCode, if_neg (other 1 (by decide)), if_neg (other 2 (by decide)), if_neg (other 3 (by decide)),
    if_neg (other 4 (by decide)), if_neg (other 5 (by decide))]

theorem openTicket_of_unknown (h : a = 0 ∨ 5 < a.toNat) (amount : BitVec 16) : openTicket a b amount s = reply .badValue s := by
  rw [openTicket, ofCode_of_unknown h]

/-- Check 3: a bad amount. -/
theorem openTicket_of_bad_amount {act : Action} (hact : act ≠ .clearTamper) (hb : b.toNat < 192) {amount : BitVec 16}
    (h : storedAmount act amount = none) : openTicket act.code b amount s = reply .badValue s := by
  rw [openTicket_of_record hact, withSlot_of_toNat (i := ⟨b.toNat, hb⟩) rfl, h]

theorem openTicket_of_stored {act : Action} (hact : act ≠ .clearTamper) {i : SlotId} {amount stored : BitVec 16}
    (h : storedAmount act amount = some stored) :
    openTicket act.code (BitVec.ofNat 8 i.val) amount s = openOn act i stored s := by
  rw [openTicket_of_record hact, withSlot_ofNat, h]

theorem append_eq_zero_iff : (c ++ d : BitVec 16) = 0 ↔ c = 0 ∧ d = 0 := by
  rw [← ofNat_natOfBytes_pair, ofNat_natOfBytes_pair_eq_zero_iff]

theorem append_small (h : (c ++ d : BitVec 16).toNat < 16) : c = 0 ∧ d.toNat < 16 := by
  have value : (c ++ d : BitVec 16).toNat = c.toNat * 256 + d.toNat := by
    rw [BitVec.toNat_append, ← Nat.shiftLeft_add_eq_or_of_lt d.isLt, Nat.shiftLeft_eq]
  rw [value] at h
  exact ⟨BitVec.eq_of_toNat_eq (by rw [show c.toNat = 0 by omega]; rfl), by omega⟩

/-- The amount of a WIDEN that names no flag, or one that does not exist. -/
theorem storedAmount_widen_eq_none (h : c = 0 ∧ d = 0 ∨ c ≠ 0 ∨ 16 ≤ d.toNat) : storedAmount .widen (c ++ d) = none := by
  refine if_pos ?_
  rw [append_eq_zero_iff]
  by_contra hgood
  obtain ⟨hnz, hsmall⟩ := not_or.1 hgood
  obtain ⟨hc, hd⟩ := append_small (Nat.not_le.1 hsmall)
  rcases h with h | h | h
  · exact hnz h
  · exact h hc
  · omega

/-- The operands as stored, where they are good (R75, R76). -/
theorem storedAmount_of_good {act : Action} {amount : BitVec 16}
    (h : act = .grant ∧ amount = c ++ d ∧ amount ≠ 0 ∨ act = .widen ∧ amount = c ++ d ∧ amount ≠ 0 ∧ amount.toNat < 16 ∨
      (act = .forceRetire ∨ act = .releaseQuarantined) ∧ amount = 0) :
    act ≠ .clearTamper ∧ storedAmount act (c ++ d) = some amount := by
  rcases h with ⟨rfl, rfl, hnz⟩ | ⟨rfl, rfl, hnz, hsmall⟩ | ⟨rfl | rfl, rfl⟩
  · exact ⟨nofun, if_neg hnz⟩
  · exact ⟨nofun, if_neg (not_or.2 ⟨hnz, Nat.not_le.2 hsmall⟩)⟩
  · exact ⟨nofun, rfl⟩
  · exact ⟨nofun, rfl⟩

end

/-! ## CLEAR_TAMPER (R77) -/

theorem anyActive_iff {m : TamperMonitor} :
    m.anyActive = true ↔ m.enclosureActive = true ∨ m.supplyActive = true ∨ m.band = .limit := by
  simp [TamperMonitor.anyActive, or_assoc]

theorem precondition_clearTamper {s : State} (i : SlotId) :
    precondition .clearTamper i s = (s, s.device == .tampered && !s.tamper.anyActive) := rfl

/-- Settles O33: the operands, the checks of R76 in order, and the ticket of R79 with its number and its room. -/
theorem openTicket_opens : Obligations.OpenTicket := by
  refine ⟨fun s a b c d hs he => ?_, fun s b c d ht he hd hact => ?_, fun s a b c d hs ha => ?_,
    fun s act i hi lo amount hs he hr hgood => ?_, fun s b c d ht he hd henc hsup hband hempty hc => ?_⟩
  · obtain ⟨ht, hd⟩ := hs
    have admitted (p : Payload) : admits s.device Kind.openTicket p = true := by rw [hd]; rfl
    refine ⟨fun ha hb => ?_, fun ha hb hc hd => ?_, fun ha hb hbad => ?_, fun ha => ?_⟩
    · obtain ⟨act, hact, rfl⟩ := exists_code_of_range ha
      exact exec_openTicket ht (admitted _) ((openTicket_of_record hact ..).trans (withSlot_of_bad hb _ _))
    · subst ha hc hd
      exact exec_openTicket ht (admitted _) (openTicket_of_bad_amount (act := .grant) nofun hb rfl)
    · subst ha
      exact exec_openTicket ht (admitted _)
        (openTicket_of_bad_amount (act := .widen) nofun hb (storedAmount_widen_eq_none hbad))
    · subst ha
      refine exec_openTicket ht (admitted _) ((openTicket_clearTamper b (c ++ d) s).trans (openOn_of_not_admitted he ?_))
      rw [precondition_clearTamper, hd]
      rfl
  · refine exec_openTicket ht (admits_clearTamper hd)
      ((openTicket_clearTamper b (c ++ d) s).trans (openOn_of_not_admitted he ?_))
    rw [precondition_clearTamper, anyActive_iff.2 hact, Bool.not_true, Bool.and_false]
  · exact exec_openTicket hs.1 (admits_of_serves hs _ _) (openTicket_of_unknown ha _)
  · obtain ⟨hact, hstored⟩ := storedAmount_of_good hgood
    have opened {r : Reply} (h : openOn act i amount s = r) :
        exec (.openTicket [act.code, BitVec.ofNat 8 i.val, hi, lo]) s =
          .next (answered 0x20 r.code (r.data (feed r.state)) r.state) :=
      exec_openTicket hs.1 (admits_of_serves hs _ _) ((openTicket_of_stored hact hstored).trans h)
    have refused {code : AnswerCode} (h : openOn act i amount s = reply code s) :
        exec (.openTicket [act.code, BitVec.ofNat 8 i.val, hi, lo]) s = .next (answered 0x20 code [] s) := opened h
    have pre := precondition_of_record (i := i) hact hr
    dsimp only
    rw [← admitsRecord_iff hact]
    refine ⟨fun hno => refused (openOn_of_not_admitted he ?_), fun hyes hlike => refused ?_, fun hyes hlike hlen hall => refused ?_,
      fun hyes hlike hlen hc hfree => ?_, fun hyes hlike hc left finished k hroom hk hused hfree => ?_⟩
    · rw [pre, Bool.eq_false_of_not_eq_true hno]
    all_goals have admitted : precondition act i s = (s, true) := by rw [pre, hyes]
    · rw [openOn_of_admitted he admitted, if_pos hlike]
    · rw [openOn_of_admitted he admitted, if_neg hlike, if_pos ⟨hlen, hall⟩]
    · have number : (s.approval.counter + 0) % 255 + 1 = s.approval.counter + 1 := by omega
      have := opened (openOn_of_room (k := 0) he admitted hlike (.inl ⟨hlen, rfl, rfl⟩) (by omega) (by omega)
        (fun j hj => absurd hj (Nat.not_lt_zero j)) (by rwa [number]))
      rwa [number] at this
    · exact opened (openOn_of_room he admitted hlike hroom hc hk hused hfree)
  · have admitted : precondition .clearTamper 0 s = (s, true) := by
      have idle : s.tamper.anyActive = false := by
        rw [← Bool.not_eq_true, anyActive_iff]
        simp [henc, hsup, hband]
      rw [precondition_clearTamper, hd, idle]
      rfl
    have number : (s.approval.counter + 0) % 255 + 1 = s.approval.counter + 1 := by omega
    have opened := exec_openTicket (b := b) (c := c) (d := d) ht (admits_clearTamper hd)
      (openOn_of_room (k := 0) (amount := 0) he admitted (by simp [hempty]) (.inl ⟨by simp [hempty], rfl, rfl⟩) (by omega)
        (by omega) (fun j hj => absurd hj (Nat.not_lt_zero j)) (by simp [hempty]))
    rw [number, hempty] at opened
    exact opened

end Sys2Proof.Machine

/-! # BIND, UNBIND, ARM and DISARM (R119 to R123) -/

namespace Sys2Proof.Machine

/-! ## A member treated by its own context -/

/-- The context of a member becomes the value that `f` gives it, or stays. -/
theorem setStation_ite (s : State) (st : StationId) (c : Prop) [Decidable c] (f : Station → Station) :
    (s.modifyStation st fun k => if c then f k else k) = if c then s.modifyStation st f else s := by
  unfold State.modifyStation
  split
  · rfl
  · exact setStation_station s st

/-- A station command whose treatment of a member reads the member's context and what no member's treatment changes. -/
theorem treatEach_of_stations {s : State} {treat : StationId → State → State × AnswerCode} {f : Station → Station}
    {outcome : Station → AnswerCode}
    (h : ∀ st t, t = { s with stations := t.stations } → treat st t = (t.modifyStation st f, outcome (t.station st)))
    {group : List StationId} (hg : group.Nodup) {t : State} (ht : t = { s with stations := t.stations }) :
    treatEach treat group t = (t.modifyStations group f, group.map fun st => (st, outcome (t.station st))) := by
  induction group generalizing t with
  | nil => rfl
  | cons st group ih =>
    obtain ⟨hst, hg⟩ := List.nodup_cons.1 hg
    have others : ∀ tt ∈ group, (t.modifyStation st f).station tt = t.station tt := fun tt htt =>
      station_modifyStation_of_ne (ne_of_mem_of_not_mem htt hst) t f
    have frame : t.modifyStation st f = { s with stations := (t.modifyStation st f).stations } := by
      conv_lhs => rw [ht]
      rfl
    simp only [treatEach, h st t ht, ih hg frame, modifyStations_cons, List.map_cons]
    rw [List.map_congr_left fun tt htt => by rw [others tt htt]]

theorem settled_modifyStations {s : State} (he : s.engine.Settled) (group : List StationId) (f : Station → Station) :
    (s.modifyStations group f).engine.Settled := by
  have frame := modifyStations_frame s group f
  rw [frame]
  exact he

/-- The reply of a command that treats its members by their contexts. -/
theorem memberReply_modifyStations {s : State} (he : s.engine.Settled) (group : List StationId) (f : Station → Station)
    (o : Outcomes) : memberReply (s.modifyStations group f, o) =
      { state := s.modifyStations group f, code := .ok, data := outcomeData o } := by
  unfold memberReply
  dsimp only
  rw [settleEngine_of_settled (settled_modifyStations he group f)]

/-- The data of the answer do not hang on the feed. -/
theorem outcomeData_feed (o : Outcomes) (t : State) : outcomeData o (feed t) = outcomeData o t := rfl

/-! ## What BIND, UNBIND, ARM and DISARM make of a member -/

namespace Station

/-- What BIND leaves of a member (R120). -/
def bound (i : SlotId) (m : Mode) (k : Station) : Station :=
  if k.state = .unbound ∨ k.state = .bound then { k with base := some i, mode := m }.rest else k

/-- What BIND answers for a member (R120). -/
def bindOutcome (k : Station) : AnswerCode :=
  if k.state = .unbound ∨ k.state = .bound then .ok else if k.state = .held then .badState else .busy

/-- What UNBIND leaves of a member (R121). -/
def unbound (k : Station) : Station := if k.state = .bound then { k with base := none }.rest else k

/-- What UNBIND answers for a member (R121). -/
def unbindOutcome (k : Station) : AnswerCode :=
  if k.state = .bound then .ok else if k.state = .unbound then .badState else .busy

/-- What DISARM answers for a member (R123). -/
def disarmOutcome (k : Station) : AnswerCode := if k.state = .unbound then .badState else .ok

end Station

section
variable (i : SlotId) (m : Mode) (st : StationId) (s : State)

theorem bindMember_eq : bindMember i m st s = (s.modifyStation st (·.bound i m), (s.station st).bindOutcome) := by
  unfold bindMember Station.bindOutcome State.modifyStation Station.bound
  dsimp only
  cases h : (s.station st).state <;> simp

theorem unbindMember_eq : unbindMember st s = (s.modifyStation st (·.unbound), (s.station st).unbindOutcome) := by
  unfold unbindMember Station.unbindOutcome State.modifyStation Station.unbound
  dsimp only
  cases h : (s.station st).state <;> simp

theorem disarmMember_eq : disarmMember st s = (s.modifyStation st (·.disarm), (s.station st).disarmOutcome) := by
  unfold disarmMember Station.disarmOutcome
  split
  · next h => rw [State.modifyStation, Station.disarm_of_idle (by rw [h]; decide) (by rw [h]; rfl), setStation_station]
  · rfl

end

theorem modeOf {mode : Byte} {m : Mode} (h : mode = 0 ∧ m = .single ∨ mode = 1 ∧ m = .line) : Mode.ofCode mode = some m := by
  rcases h with ⟨rfl, rfl⟩ | ⟨rfl, rfl⟩ <;> rfl

section
variable {s : State} {set mode : Byte} {i : SlotId} {m : Mode} {a : Account}

theorem bind_of_record (hset : set ≠ 0) (hr : (s.slot i).readable = true) (hm : Mode.ofCode mode = some m) :
    bind set (BitVec.ofNat 8 i.val) mode s = match bindRefusal (s.account i) m with
      | some code => reply code (settleEngine s)
      | none => memberReply (treatEach (bindMember i m) (stationSet set) s) := by
  rw [bind, withStations_of_ne_zero hset, withSlot_ofNat, hm]
  simp only [check_of_readable hr] <;> rfl

theorem bindRefusal_badState (h : a.part.isBase = false ∨ a.state ≠ .active) : bindRefusal (some a) m = some .badState :=
  if_pos fun both => h.elim (fun h => by rw [h] at both; cases both.1) fun h => h both.2

theorem bindRefusal_notPermitted (hb : a.part.isBase = true) (ha : a.state = .active)
    (h : a.has .issue = false ∨ m = .line ∧ a.has .line = false) : bindRefusal (some a) m = some .notPermitted := by
  rw [bindRefusal, if_neg (not_not.2 ⟨hb, ha⟩)]
  split
  · rfl
  · next hi => exact if_pos (h.elim (fun h => absurd h (by simpa using hi)) fun h => ⟨h.1, by simp [h.2]⟩)

theorem bindRefusal_none (hb : a.part.isBase = true) (ha : a.state = .active) (hi : a.has .issue = true)
    (hl : m = .line → a.has .line = true) : bindRefusal (some a) m = none := by
  rw [bindRefusal, if_neg (not_not.2 ⟨hb, ha⟩), if_neg (not_not.2 hi), if_neg fun h => h.2 (hl h.1)]

theorem exec_bind (hs : s.Serves) {b : Byte} {r : Reply} (h : bind set b mode s = r) :
    exec (.bind [set, b, mode]) s = .next (answered 0x30 r.code (r.data (feed r.state)) r.state) :=
  congrArg Host.Outcome.next (consoleCommand_of_reply hs h)

theorem exec_unbind (hs : s.Serves) {r : Reply} (h : unbind set s = r) :
    exec (.unbind [set]) s = .next (answered 0x31 r.code (r.data (feed r.state)) r.state) :=
  congrArg Host.Outcome.next (consoleCommand_of_reply hs h)

theorem unbind_eq (hset : set ≠ 0) : unbind set s =
    { state := s.modifyStations (stationSet set) (·.unbound), code := .ok,
      data := outcomeData ((stationSet set).map fun st => (st, (s.station st).unbindOutcome)) } := by
  rw [unbind, withStations_of_ne_zero hset, treatEach_eq_modifyStations unbindMember_eq (nodup_stationSet set)]

theorem bindOutcome_byte (k : Station) : k.bindOutcome.byte =
    if k.state = .unbound ∨ k.state = .bound then 0x00 else if k.state = .held then 0x15 else 0x1A := by
  unfold Station.bindOutcome
  split
  · rfl
  · split <;> rfl

theorem unbindOutcome_byte (k : Station) : k.unbindOutcome.byte =
    if k.state = .bound then 0x00 else if k.state = .unbound then 0x15 else 0x1A := by
  unfold Station.unbindOutcome
  split
  · rfl
  · split <;> rfl

theorem disarmOutcome_byte (k : Station) : k.disarmOutcome.byte = if k.state = .unbound then 0x15 else 0x00 :=
  apply_ite AnswerCode.byte _ _ _

end

/-- Settles O38: the tests of R120 on the record, then each member by its own state. -/
theorem bindAndUnbind : Obligations.BindAndUnbind := by
  refine fun s set hs he => ⟨?_, fun hset => ⟨fun i a m mode hr ha hmode => ?_, s.modifyStations (stationSet set) (·.unbound), ?_,
    modifyStations_frame .., fun st => ?_⟩⟩
  · rintro rfl
    exact ⟨fun b c => exec_bind hs (withStations_zero s _), exec_unbind hs (withStations_zero s _)⟩
  · have bound := bind_of_record hset hr (modeOf hmode)
    rw [ha] at bound
    refine ⟨fun h => ?_, fun hb hact h => ?_, fun hb hact hi hl => ⟨s.modifyStations (stationSet set) (·.bound i m), ?_,
      modifyStations_frame .., fun st => ?_⟩⟩
    · exact exec_bind (r := reply .badState s) hs
        (by rw [bound, bindRefusal_badState h, settleEngine_of_settled he])
    · exact exec_bind (r := reply .notPermitted s) hs
        (by rw [bound, bindRefusal_notPermitted hb hact h, settleEngine_of_settled he])
    · rw [bindRefusal_none hb hact hi hl, treatEach_eq_modifyStations (bindMember_eq i m) (nodup_stationSet set)] at bound
      dsimp only at bound
      rw [memberReply_modifyStations he] at bound
      rw [exec_bind hs bound]
      simp only [outcomeData_feed, outcomeData_map, bindOutcome_byte]
      rfl
    · rw [station_modifyStations (nodup_stationSet set) s (·.bound i m), ite_and]
      exact if_congr mem_stationSet (if_congr Iff.rfl (Station.rest_eq _) rfl) rfl
  · rw [exec_unbind hs (unbind_eq hset)]
    simp only [outcomeData_feed, outcomeData_map, unbindOutcome_byte]
    rfl
  · rw [station_modifyStations (nodup_stationSet set) s (·.unbound), ite_and]
    exact if_congr mem_stationSet (if_congr Iff.rfl (Station.rest_eq _) rfl) rfl

/-! ## ARM and DISARM -/

/-- ARM of a BOUND member with its record as it stands: what it leaves and what it answers (R122). -/
def Station.armBound (a : Option Account) (timeout : Nat) (k : Station) : Station × AnswerCode :=
  if k.mode = .line ∧ a.all (fun a => !a.has .line) = true then (k, .notPermitted)
  else if k.present then ({ k with armed := true }.greet timeout, .ok)
  else ({ k with armed := true, state := .waiting, disarmAfter := false }, .ok)

/-- ARM of a member by its own context (R122). -/
def Station.arm (s : State) (k : Station) : Station × AnswerCode :=
  match k.state with
  | .bound =>
    match k.base with
    | some i => k.armBound (s.account i) s.console.settings.identityTimeout
    | none => (k, .badState)
  | .waiting => (k, .ok)
  | .unbound => (k, .badState)
  | .held => (k, .badState)
  | _ => (k, .busy)

section
variable {s t : State} {set : Byte}

theorem armBound_eq (a : Option Account) (st : StationId) (t : State) :
    armBound a st t =
      (t.modifyStation st fun k => (k.armBound a t.console.settings.identityTimeout).1,
       ((t.station st).armBound a t.console.settings.identityTimeout).2) := by
  unfold armBound Station.armBound State.modifyStation
  cases a with
  | none | some a =>
    dsimp only [Option.all]
    split
    · rw [setStation_station]
    · split <;> rfl

/-- ARM reads the record of a member and the identity timeout, which no member's treatment changes. -/
theorem armMember_of_sound (hsound : s.Sound) (st : StationId) (ht : t = { s with stations := t.stations }) :
    armMember st t = (t.modifyStation st fun k => (k.arm s).1, ((t.station st).arm s).2) := by
  have readable : ∀ i, check i t = t := fun i => check_of_readable (by rw [ht]; exact hsound i)
  have account : ∀ i, t.account i = s.account i := fun i => by rw [ht]; rfl
  have timeout : t.console = s.console := by rw [ht]
  rw [armMember_eq]
  unfold Station.arm
  cases hst : (t.station st).state <;> cases hb : (t.station st).base <;>
    simp only [readable, hst, if_true, armBound_eq, State.modifyStation, hb, setStation_station, account, timeout]

theorem exec_arm (hs : s.Serves) {r : Reply} (h : arm set s = r) :
    exec (.arm [set]) s = .next (answered 0x32 r.code (r.data (feed r.state)) r.state) :=
  congrArg Host.Outcome.next (consoleCommand_of_reply hs h)

theorem exec_disarm (hs : s.Serves) {r : Reply} (h : disarm set s = r) :
    exec (.disarm [set]) s = .next (answered 0x33 r.code (r.data (feed r.state)) r.state) :=
  congrArg Host.Outcome.next (consoleCommand_of_reply hs h)

theorem arm_of_sound (hset : set ≠ 0) (hsound : s.Sound) (he : s.engine.Settled) : arm set s =
    { state := s.modifyStations (stationSet set) fun k => (k.arm s).1, code := .ok,
      data := outcomeData ((stationSet set).map fun st => (st, ((s.station st).arm s).2)) } := by
  rw [arm, withStations_of_ne_zero hset, treatEach_of_stations (s := s) (f := fun k => (k.arm s).1) (outcome := fun k => (k.arm s).2)
    (fun st t ht => armMember_of_sound hsound st ht) (nodup_stationSet set) rfl, memberReply_modifyStations he]

theorem disarm_eq (hset : set ≠ 0) : disarm set s =
    { state := s.modifyStations (stationSet set) (·.disarm), code := .ok,
      data := outcomeData ((stationSet set).map fun st => (st, (s.station st).disarmOutcome)) } := by
  rw [disarm, withStations_of_ne_zero hset, treatEach_eq_modifyStations disarmMember_eq (nodup_stationSet set)]

end

namespace Station

variable {s : State} {k : Station} {i : SlotId} {a : Account}

theorem arm_of_bound (hk : k.state = .bound) (hb : k.base = some i) (ha : s.account i = some a) :
    k.arm s = k.armBound (some a) s.console.settings.identityTimeout := by
  rw [arm, hk, hb, ← ha]

theorem armBound_of_line (timeout : Nat) (hm : k.mode = .line) (hl : a.has .line = false) :
    k.armBound (some a) timeout = (k, .notPermitted) := if_pos ⟨hm, by simp [hl]⟩

theorem armBound_of_permitted (timeout : Nat) (h : k.mode = .single ∨ a.has .line = true) :
    k.armBound (some a) timeout =
      (if k.present then { k with armed := true }.greet timeout
       else { k with armed := true, state := .waiting, disarmAfter := false }, .ok) := by
  have permitted : ¬ (k.mode = .line ∧ (some a).all (fun a => !a.has .line) = true) := by
    rintro ⟨hm, hl⟩
    rcases h with h | h
    · rw [hm] at h; cases h
    · simp [h] at hl
  rw [armBound, if_neg permitted]
  split <;> rfl

theorem arm_of_waiting (hk : k.state = .waiting) : k.arm s = (k, .ok) := by rw [arm, hk]

theorem arm_of_unbound_or_held (hk : k.state = .unbound ∨ k.state = .held) : k.arm s = (k, .badState) := by
  rcases hk with hk | hk <;> rw [arm, hk]

theorem arm_of_hasTerminal (hk : k.state.hasTerminal = true) : k.arm s = (k, .busy) := by
  unfold arm
  cases h : k.state with
  | unbound | bound | waiting | held => rw [h] at hk; cases hk
  | _ => rfl

end Station

/-- Settles O39: each member by its own state, and a BOUND one by its record. -/
theorem armAndDisarm : Obligations.ArmAndDisarm := by
  refine fun s set hs he hsound hset => ⟨⟨s.modifyStations (stationSet set) fun k => (k.arm s).1,
    fun st => ((s.station st).arm s).2.byte, ?_, modifyStations_frame .., fun st hst => ?_, fun st hst => ?_⟩,
    s.modifyStations (stationSet set) (·.disarm), ?_, modifyStations_frame .., fun st => ?_⟩
  · rw [exec_arm hs (arm_of_sound hset hsound he)]
    simp only [outcomeData_feed, outcomeData_map]
    rfl
  · rw [station_modifyStations (nodup_stationSet set), if_neg (by rw [mem_stationSet, hst]; decide)]
  · rw [station_modifyStations (nodup_stationSet set), if_pos (mem_stationSet.2 hst)]
    dsimp only
    refine ⟨fun i a hk hb ha => ?_, fun hk => ?_, fun hk => ?_, fun hk => ?_⟩
    · rw [Station.arm_of_bound hk hb ha]
      refine ⟨fun hm hl => ?_, fun h => ?_⟩
      · rw [Station.armBound_of_line _ hm hl]
        exact ⟨rfl, rfl⟩
      · rw [Station.armBound_of_permitted _ h]
        exact ⟨rfl, rfl⟩
    · rw [Station.arm_of_waiting hk]
      exact ⟨rfl, rfl⟩
    · rw [Station.arm_of_unbound_or_held hk]
      exact ⟨rfl, rfl⟩
    · rw [Station.arm_of_hasTerminal hk]
      exact ⟨rfl, rfl⟩
  · rw [exec_disarm hs (disarm_eq hset)]
    simp only [outcomeData_feed, outcomeData_map, disarmOutcome_byte]
    rfl
  · rw [station_modifyStations (nodup_stationSet set) s (·.disarm)]
    exact if_congr mem_stationSet rfl rfl

end Sys2Proof.Machine

/-! # Assembly (R55 to R64) -/

namespace Sys2Proof.Machine

/-! ## The operands of COMPONENT -/

theorem length_of_keyOfBytes {key : Payload} {k : Key} (h : keyOfBytes key = some k) : key.length = 16 ∨ key.length = 32 := by
  unfold keyOfBytes at h
  split at h
  · exact .inl ‹_›
  · split at h
    · exact .inr ‹_›
    · cases h

theorem componentOperands_of_parts {b : Byte} {key check : Payload} {k : Key} (hc : check.length = 3) (hk : keyOfBytes key = some k) :
    componentOperands (b :: key ++ check) =
      some { slot := b, component := k, check := BitVec.ofNat 24 (natOfBytes check) } := by
  have len := length_of_keyOfBytes hk
  have total : (b :: key ++ check).length = key.length + 4 := by
    rw [List.length_append, List.length_cons, hc]
  have fits : key.length + 4 = 20 ∨ key.length + 4 = 36 := by omega
  have middle : ((b :: key ++ check).drop 1).take (key.length + 4 - 4) = key := by
    simp
  have last : field (b :: key ++ check) (key.length + 4 - 3) 3 = natOfBytes check := by
    have split : b :: key ++ check = (b :: key) ++ check := rfl
    rw [field, split, show key.length + 4 - 3 = (b :: key).length by simp, List.drop_left, ← hc, List.take_length]
  unfold componentOperands
  rw [total, if_pos fits, middle, hk, last]
  rfl

/-! ## COMPONENT (R55, R57) -/

theorem inLines_iff {l : Line} {m : BitVec 3} : inLines l m = true ↔ m &&& lineBit l = lineBit l := beq_iff_eq

theorem hasJobOf_iff {e : Engine} {r : Requester} : e.hasJobOf r = true ↔ ∃ j ∈ e.heldJobs, j.requester = r := by
  simp [Engine.hasJobOf]

section
variable {l : Line} {c : ComponentOperands} {a : Account} {m : Assembly} {e : Engine}

/-- Checks 4 to 8 of R55 on a record in ASSEMBLING. -/
theorem componentRefusal_of_assembling (hst : a.state = .assembling) (hm : a.assembly = some m) :
    componentRefusal l c (some a) e =
      if c.component.length ≠ a.keyLength then some .badValue
      else if (m.contributed ||| m.reserved) &&& lineBit l = lineBit l then some .duplicateLine
      else if a.quorum.toNat ≤ lineCount m.contributed + lineCount m.reserved then some .quorumMet
      else if ∃ j ∈ e.heldJobs, j.requester = .line l then some .lineBusy
      else none := by
  simp only [componentRefusal, hm, hst, ne_eq, not_true_eq_false, if_false, inLines_iff, hasJobOf_iff, ge_iff_le]

theorem componentRefusal_of_other {o : Option Account} (h : ∀ a, o = some a → a.state ≠ .assembling) :
    componentRefusal l c o e = some .badState := by
  cases o with
  | none => rfl
  | some a =>
    unfold componentRefusal
    dsimp only
    split
    · rfl
    · exact if_pos (h a rfl)

end

/-- A COMPONENT that reaches its record (R55 checks 1 to 3). -/
theorem component_of_operational {l : Line} {c : ComponentOperands} {s : State} {i : SlotId} (hd : s.device = .operational)
    (hi : c.slot.toNat = i.val) (hr : (s.slot i).readable = true) :
    component l c s = match componentRefusal l c (s.account i) s.engine with
      | some code => (settleEngine s, code, [])
      | none => (settleEngine (takeComponent l i c s), .taken, []) := by
  simp only [component, hd, slotOf_of_toNat hi, check_of_readable hr] <;> rfl

theorem component_of_bad_slot {l : Line} {c : ComponentOperands} {s : State} (hd : s.device = .operational)
    (hb : 192 ≤ c.slot.toNat) : component l c s = (s, .badSlot, []) := by
  simp only [component, hd, slotOf, dif_neg (Nat.not_lt.2 hb)]

/-- A taken component (R57). -/
theorem takeComponent_of_assembly {l : Line} {i : SlotId} {c : ComponentOperands} {s : State} {a : Account} {m : Assembly}
    (ha : s.account i = some a) (hm : a.assembly = some m) :
    takeComponent l i c s =
      { (s.setSlot i ((s.slot i).write { a with assembly := some { m with reserved := m.reserved ||| lineBit l } }
          (s.slot i).secret)).setLine l { s.line l with last := { outcome := .pending, slot := i, check := none } } with
        engine := { s.engine with queue := s.engine.queue ++ [.componentCheck l i c.component c.check] } } := by
  unfold takeComponent
  rw [State.modifySlot, Slot.update_of_account ha, Account.mapAssembly, hm]
  rfl

/-- Settles O43: the checks of R55 one after the other, and the component of R57. -/
theorem componentTaken : Obligations.ComponentTaken := by
  intro s l b key check k hl he hlen hk
  have operands := componentOperands_of_parts (b := b) hlen hk
  have asked {v : State} {code : AnswerCode}
      (h : component l { slot := b, component := k, check := BitVec.ofNat 24 (natOfBytes check) } s = (v, code, [])) :
      exec (.component l (b :: key ++ check)) s = .next (answeredLine l 0x40 code [] v) :=
    congrArg Host.Outcome.next (custodianRequest_map_of_hears hl operands h)
  refine ⟨fun hn => ?_, fun hd => ?_, fun hd => ⟨fun hb => ?_, fun i hi hr => ?_⟩⟩
  · obtain ⟨n, hn⟩ := hn
    exact asked (by rw [component, hn])
  · exact asked (by rw [component, hd])
  · exact asked (component_of_bad_slot hd hb)
  have reached := component_of_operational (l := l)
    (c := { slot := b, component := k, check := BitVec.ofNat 24 (natOfBytes check) }) hd hi hr
  have refused {code : AnswerCode}
      (h : componentRefusal l { slot := b, component := k, check := BitVec.ofNat 24 (natOfBytes check) } (s.account i) s.engine =
        some code) : exec (.component l (b :: key ++ check)) s = .next (answeredLine l 0x40 code [] s) :=
    asked (by rw [reached, h, settleEngine_of_settled he])
  refine ⟨fun hother => refused (componentRefusal_of_other hother), fun a m ha hst hm => ?_⟩
  rw [ha, componentRefusal_of_assembling hst hm] at refused
  rw [ha, componentRefusal_of_assembling hst hm] at reached
  refine ⟨fun hlen => refused (if_pos hlen), fun hlen => ⟨fun hdup => refused ?_, fun hdup => ⟨fun hq => refused ?_, fun hq =>
    ⟨fun hbusy => refused ?_, fun hfree => asked ?_⟩⟩⟩⟩
  · rw [if_neg (not_not.2 hlen), if_pos hdup]
  · rw [if_neg (not_not.2 hlen), if_neg hdup, if_pos hq]
  · rw [if_neg (not_not.2 hlen), if_neg hdup, if_neg (Nat.not_le.2 hq), if_pos hbusy]
  · have free : ¬ ∃ j ∈ s.engine.heldJobs, j.requester = .line l := fun ⟨j, hj, hr⟩ => hfree j hj hr
    rw [if_neg (not_not.2 hlen), if_neg hdup, if_neg (Nat.not_le.2 hq), if_neg free, takeComponent_of_assembly ha hm] at reached
    exact reached

/-! ## The completions of the component check and of the key check (R59 to R64, R106) -/

/-- A held job completes: the engine is free, its owner applies the result, and the engine chooses again (R106). -/
theorem completion_of_held {delivery : Job → Copies → Option (State → State)} {s : State} {j : Job} {c : Copies}
    {apply : State → State} (hp : s.powered = true) (hv : s.engine.service = some { job := j, copies := c, discard := false })
    (hd : delivery j c = some apply) : completion delivery s = settleEngine (apply (freeEngine s)) := by
  have held : s.engine.held? = some { job := j, copies := c, discard := false } := by
    rw [Engine.held?, hv]
    rfl
  rw [completion, if_pos hp, held]
  dsimp only
  rw [hd]

theorem setOutcome_of_named {l : Line} {i : SlotId} {s : State} (hs : (s.line l).last.slot = i)
    (ho : (s.line l).last.outcome ≠ .none) (o : LineOutcome) (check : Option (BitVec 24)) :
    setOutcome l i o check s = s.setLine l { s.line l with last := { outcome := o, slot := i, check := check } } :=
  if_pos ⟨hs, ho⟩

section
variable {s : State} {l : Line} {i : SlotId} {k : Key} {carried : BitVec 24} {a : Account} {m : Assembly}

theorem applyComponentCheck_of_reserved (hr : (s.slot i).readable = true) (ha : s.account i = some a)
    (hst : a.state = .assembling) (hm : a.assembly = some m) (hl : m.reserved &&& lineBit l = lineBit l) :
    applyComponentCheck l i k carried s =
      if checkValue k = carried then acceptComponent l i k a s else refuseComponent l i a s := by
  simp only [applyComponentCheck, check_of_readable hr, ha, hm, hst, inLines_iff, hl, and_self, if_true]

theorem applyComponentCheck_of_other (hr : (s.slot i).readable = true)
    (h : ∀ a m, s.account i = some a → a.assembly = some m → ¬ (a.state = .assembling ∧ m.reserved &&& lineBit l = lineBit l)) :
    applyComponentCheck l i k carried s = s := by
  unfold applyComponentCheck
  simp only [check_of_readable hr]
  split
  · rfl
  · next a ha =>
    split
    · rfl
    · next m hm => exact if_neg fun both => h a m ha hm ⟨both.1, inLines_iff.1 both.2⟩

theorem quorumReached_acceptComponent (hm : a.assembly = some m) (check : BitVec 24) :
    (a.acceptComponent l check).quorumReached = (lineCount (m.contributed ||| lineBit l) == a.quorum.toNat) := by
  simp only [Account.quorumReached, Account.acceptComponent, Account.mapAssembly, hm, Option.map_some]

/-- A matching component (R60, R63). -/
theorem acceptComponent_of_named {acc : Key} (hm : a.assembly = some m) (hacc : (s.slot i).secret = some acc)
    (hs : (s.line l).last.slot = i) (ho : (s.line l).last.outcome ≠ .none) :
    acceptComponent l i k a s =
      { (s.setSlot i ((s.slot i).write
          { a with
            assembly := some
              { contributed := m.contributed ||| lineBit l, reserved := m.reserved &&& ~~~ lineBit l,
                checks := m.checks ++ [(l, checkValue k)] } }
          (some (acc.xor k)))).setLine l { s.line l with last := { outcome := .accepted, slot := i, check := none } } with
        engine :=
          { s.engine with
            queue :=
              if lineCount (m.contributed ||| lineBit l) = a.quorum.toNat then s.engine.queue ++ [.keyCheck l i]
              else s.engine.queue } } := by
  unfold acceptComponent
  dsimp only
  rw [quorumReached_acceptComponent hm, setOutcome_of_named (s := State.modifySlot s i _) hs ho]
  simp only [State.modifySlot, hacc, Account.acceptComponent, Account.mapAssembly, hm, Option.map_some, beq_iff_eq]
  split <;> rfl

/-- A component whose check value differs (R61). -/
theorem refuseComponent_of_named {acc : Key} (hm : a.assembly = some m) (hacc : (s.slot i).secret = some acc)
    (hs : (s.line l).last.slot = i) (ho : (s.line l).last.outcome ≠ .none) :
    refuseComponent l i a s =
      ((s.setSlot i ((s.slot i).write
          { a with assembly := some { m with reserved := m.reserved &&& ~~~ lineBit l } } (some acc))).setLine l
        { s.line l with last := { outcome := .checkMismatch, slot := i, check := none } }).latch .componentRefused := by
  unfold refuseComponent
  rw [setOutcome_of_named (s := State.modifySlot s i _) hs ho]
  simp only [State.modifySlot, hacc, Account.refuseComponent, Account.mapAssembly, hm, Option.map_some]
  rfl

/-- The key check of a record in ASSEMBLING (R64). -/
theorem applyKeyCheck_of_assembling {acc : Key} (hr : (s.slot i).readable = true) (ha : s.account i = some a)
    (hst : a.state = .assembling) (hs : (s.line l).last.slot = i) (ho : (s.line l).last.outcome ≠ .none) :
    applyKeyCheck l i acc s =
      ((s.setSlot i ((s.slot i).write { a with state := .active, checkValue := some (checkValue acc), assembly := none }
          (some acc))).setLine l
        { s.line l with last := { outcome := .completed, slot := i, check := some (checkValue acc) } }).latch
          .assemblyComplete := by
  have assembling : (s.slot i).recordState = some .assembling := by
    rw [Slot.recordState, show (s.slot i).account = some a from ha, Option.map_some, hst]
  have complete : (s.slot i).complete acc =
      (s.slot i).write { a with state := .active, checkValue := some (checkValue acc), assembly := none } (some acc) := by
    rw [Slot.complete, show (s.slot i).account = some a from ha]
  unfold applyKeyCheck
  simp only [check_of_readable hr, assembling, if_true]
  rw [setOutcome_of_named (s := State.modifySlot s i _) hs ho, State.modifySlot, complete]
  rfl

theorem applyKeyCheck_of_other {acc : Key} (hr : (s.slot i).readable = true) (ha : s.account i = some a)
    (hst : a.state ≠ .assembling) : applyKeyCheck l i acc s = s := by
  have other : (s.slot i).recordState ≠ some .assembling := by
    rw [Slot.recordState, show (s.slot i).account = some a from ha, Option.map_some]
    simpa using hst
  unfold applyKeyCheck
  simp only [check_of_readable hr, other, if_false]

end

/-- Settles O45: the result applied to a record that holds the line reserved, by the comparison of R60 and R61, or dropped. -/
theorem componentCheckCompletes : Obligations.ComponentCheckCompletes := by
  intro s l i k carried copies hp hv hr hslot hout
  have done : exec .componentCheckDone s = .next (settleEngine (applyComponentCheck l i k carried (freeEngine s))) :=
    congrArg Host.Outcome.next (completion_of_held hp hv rfl)
  refine ⟨fun a m acc ha hst hm hl hacc => ⟨fun hmatch => ?_, fun hmis => ?_⟩, fun hother => ?_⟩
  · rw [done, applyComponentCheck_of_reserved (s := freeEngine s) hr ha hst hm hl, if_pos hmatch,
      acceptComponent_of_named (s := freeEngine s) hm hacc hslot hout]
    rfl
  · rw [done, applyComponentCheck_of_reserved (s := freeEngine s) hr ha hst hm hl, if_neg hmis,
      refuseComponent_of_named (s := freeEngine s) hm hacc hslot hout]
    rfl
  · rw [done, applyComponentCheck_of_other (s := freeEngine s) hr hother]
    rfl

/-- Settles O46: the accumulator becomes the key of a record still in ASSEMBLING. -/
theorem keyCheckCompletes : Obligations.KeyCheckCompletes := by
  intro s l i acc a hp hv hr hslot hout ha
  have done : exec .keyCheckDone s = .next (settleEngine (applyKeyCheck l i acc (freeEngine s))) :=
    congrArg Host.Outcome.next (completion_of_held hp hv rfl)
  refine ⟨fun hst => ?_, fun hst => ?_⟩
  · rw [done, applyKeyCheck_of_assembling (s := freeEngine s) hr ha hst hslot hout]
    rfl
  · rw [done, applyKeyCheck_of_other (s := freeEngine s) hr ha hst]
    rfl

/-! ## The verification, and a job marked discard (R107, R110) -/

theorem applyVerify_of_record {s : State} {i : SlotId} {key : Key} {a : Account} (hr : (s.slot i).readable = true)
    (ha : s.account i = some a) : applyVerify i key s =
      if a.state.isLive then
        if a.checkValue = some (checkValue key) then endVerify .matched i s
        else quarantine [] i (endVerify .mismatch i s)
      else endVerify .abandoned i s := by
  simp only [applyVerify, check_of_readable hr, ha]

theorem mem_live_iff {st : RecordState} : st ∈ [RecordState.active, .suspended, .exhausted] ↔ st.isLive = true := by
  rw [isLive_iff]
  simp

/-- Settles O50: the outcome by the record as it stands, and the discard. -/
theorem verifyAndDiscardComplete : Obligations.VerifyAndDiscardComplete := by
  refine ⟨fun s i key read a hp hv hr ha => ?_, fun s v hp hv hd => ?_⟩
  · have done : exec .verifyJobDone s = .next (settleEngine (applyVerify i key (freeEngine s))) :=
      congrArg Host.Outcome.next (completion_of_held hp hv rfl)
    rw [applyVerify_of_record (s := freeEngine s) hr ha] at done
    rw [mem_live_iff, done]
    refine ⟨fun hdead => ?_, fun hlive => ⟨fun hmatch => ?_, fun hmis => ?_⟩⟩
    · rw [if_neg hdead]
      rfl
    · rw [if_pos hlive, if_pos hmatch]
      rfl
    · rw [if_pos hlive, if_neg hmis]
      rfl
  · refine congrArg Host.Outcome.next ?_
    rw [if_pos hp, hv]
    dsimp only
    rw [if_pos hd]
    rfl

end Sys2Proof.Machine

/-! # What a read of a record keeps

A read-check may quarantine, a quarantine may open room and serve a waiting list, and the lookup for a served station may
quarantine again (R161). A relation of states that the single operations of this recursion keep is kept by all of it. -/

namespace Sys2Proof.Machine

/-- A relation that the single operations of a quarantine and of the serving of a waiting list keep. -/
structure Closed (R : State → State → Prop) : Prop where
  refl : ∀ s, R s s
  trans : ∀ {s t u}, R s t → R t u → R s u
  setStation : ∀ s st k, R s (s.setStation st k)
  latch : ∀ (s : State) e, R s (s.latch e)
  abandon : ∀ s p, R s (abandonJobs p s)
  dispose : ∀ s d i n, R s (disposeNumber d i n s)
  leave : ∀ (s : State) i st rest, (s.slot i).waiting = st :: rest →
    R s (s.modifySlot i fun sl => { sl with waiting := rest })
  take : ∀ (s : State) i st p a iss, s.account i = some a → a.issuance = some iss → a.takeVerdict iss = .number →
    R s (takeNumber i st p a iss s)
  condemn : ∀ (s : State) i a, s.account i = some a → (s.slot i).readable = false →
    R s (cancelLines a.involvedLines i (abandonNaming i ((s.modifySlot i Slot.quarantine).latch .recordQuarantined)))

namespace Closed

variable {R : State → State → Prop} (h : Closed R)
include h

theorem modifyStation (s : State) (st : StationId) (f : Station → Station) : R s (s.modifyStation st f) := h.setStation ..

theorem foldl {α : Type} (f : State → α → State) (hf : ∀ s a, R s (f s a)) (l : List α) (s : State) : R s (l.foldl f s) :=
  foldl_state (P := R s) (fun t a ht => h.trans ht (hf t a)) l (h.refl s)

theorem hold (c : HoldCondition) (st : StationId) (s : State) : R s (hold c st s) := by
  unfold Machine.hold
  dsimp only
  split
  · exact h.setStation ..
  · exact h.trans (h.setStation ..) (h.latch ..)

theorem stopWork (st : StationId) (s : State) : R s (stopWork st s) := h.trans (h.abandon ..) (h.modifyStation ..)

theorem placeClose (c : CloseCode) (st : StationId) (s : State) : R s (placeClose c st s) := h.modifyStation ..

theorem refuseService (c : HoldCondition) (st : StationId) (s : State) : R s (refuseService c st s) :=
  h.trans (h.placeClose ..) (h.hold ..)

theorem quarantineBound (st : StationId) (s : State) : R s (quarantineBound st s) := by
  unfold Machine.quarantineBound
  dsimp only
  refine h.trans ?_ (h.trans (h.modifyStation ..) (h.hold ..))
  split
  · exact h.trans (h.stopWork ..) (h.modifyStation ..)
  · exact h.refl s

section
variable {q : Quarantine} (hq : ∀ busy i s, (s.slot i).readable = false → R s (q busy i s))
include hq

theorem readCheck (busy : List SlotId) (i : SlotId) (s : State) : R s (readCheck q busy i s) := by
  unfold Machine.readCheck
  split
  · exact h.refl s
  · next fails => exact hq _ _ _ (by simpa [Slot.readable, not_or] using fails)

theorem searchIn (busy : List SlotId) (found : Account → Bool) (l : List SlotId) (s : State) :
    R s (searchIn q busy found l s).1 := by
  induction l generalizing s with
  | nil => exact h.refl s
  | cons i l ih =>
    unfold Machine.searchIn
    dsimp only
    split
    · exact h.trans (h.readCheck hq ..) (ih _)
    · split
      · exact h.readCheck hq ..
      · exact h.trans (h.readCheck hq ..) (ih _)

theorem transportLookup (busy : List SlotId) (b : SlotId) (t : TerminalId) (s : State) :
    R s (transportLookup q busy b t s).1 := h.searchIn hq ..

theorem serveStation (busy : List SlotId) (i : SlotId) (st : StationId) (s : State) :
    R s (serveStation q busy i st s) := by
  have lookup (t : TerminalId) : R s (Machine.transportLookup q (i :: busy) i t s).1 := h.transportLookup hq ..
  unfold Machine.serveStation
  split
  · split
    · exact h.refl s
    · dsimp only
      split
      · exact h.refuseService ..
      · split
        · exact h.trans (lookup _) (h.refuseService ..)
        · split
          · exact lookup _
          · next hb =>
            split
            · exact lookup _
            · next hi =>
              split
              · next hv => exact h.trans (lookup _) (h.take _ _ _ _ _ _ hb hi hv)
              · exact lookup _
  · exact h.refl s

theorem serveList (busy : List SlotId) (i : SlotId) (n : Nat) (s : State) : R s (serveList q busy i n s) := by
  induction n generalizing s with
  | zero => exact h.refl s
  | succ n ih =>
    unfold Machine.serveList
    split
    · exact h.refl s
    · next st rest hw =>
      split
      · exact h.trans (h.trans (h.leave _ _ _ _ hw) (h.serveStation hq ..)) (ih _)
      · exact h.refl s

theorem openRoom (busy : List SlotId) (i : SlotId) (full : Bool) (s : State) : R s (openRoom q busy i full s) := by
  unfold Machine.openRoom
  split
  · exact h.serveList hq ..
  · exact h.refl s

theorem giveUp (busy : List SlotId) (d : Disposal) (st : StationId) (p : Package) {after : State → State}
    (ha : ∀ s, R s (after s)) (s : State) : R s (giveUp q busy d st p after s) := by
  unfold Machine.giveUp
  dsimp only
  split
  · exact h.readCheck hq ..
  · exact h.trans (h.readCheck hq ..)
      (h.trans (h.trans (h.dispose ..) (h.modifyStation ..)) (h.trans (ha _) (h.openRoom hq ..)))

theorem quarantineUser (busy : List SlotId) (i : SlotId) (st : StationId) (s : State) :
    R s (quarantineUser q busy i st s) := by
  unfold Machine.quarantineUser
  split
  · exact h.refl s
  · split
    · exact h.trans (h.stopWork ..) (h.giveUp hq _ _ _ _ (fun s => h.trans (h.placeClose ..) (h.hold ..)) _)
    · exact h.refl s

theorem quarantineStep (busy : List SlotId) (i : SlotId) (s : State) (hs : (s.slot i).readable = false) :
    R s (quarantineStep q busy i s) := by
  unfold Machine.quarantineStep
  split
  · exact h.refl s
  · next a ha =>
    split
    · exact h.refl s
    · exact h.trans (h.condemn s i a ha hs) (h.trans (h.foldl _ (fun s st => h.quarantineBound ..) _ _)
        (h.foldl _ (fun s st => h.quarantineUser hq ..) _ _))

end

theorem quarantineAt (n : Nat) (busy : List SlotId) (i : SlotId) (s : State) (hs : (s.slot i).readable = false) :
    R s (quarantineAt n busy i s) := by
  induction n generalizing busy i s with
  | zero => exact h.refl s
  | succ n ih => exact h.quarantineStep ih busy i s hs

theorem quarantine (busy : List SlotId) (i : SlotId) (s : State) (hs : (s.slot i).readable = false) :
    R s (quarantine busy i s) := h.quarantineAt _ busy i s hs

theorem check (i : SlotId) (s : State) : R s (check i s) := h.readCheck h.quarantine ..

/-! ### The choices of the engine -/

section
variable (he : ∀ s e, R s (s.setEngine e)) (hv : ∀ s o i, R s (endVerify o i s))
include he hv

omit hv in
theorem readForService (i : SlotId) (go : State → State) (hg : ∀ s, R s (go s)) (s : State) : R s (readForService i go s) := by
  unfold Machine.readForService
  dsimp only
  split
  · exact h.trans (h.check ..) (he ..)
  · exact h.trans (h.check ..) (hg _)

theorem startService (j : Job) (s : State) : R s (startService j s) := by
  cases j with
  | componentCheck => exact he ..
  | keyCheck l i =>
    refine h.trans (he ..) (h.readForService he _ _ (fun s => ?_) _)
    unfold startKeyCheck
    split
    · exact he ..
    · exact he ..
  | package st b n ksi serial t =>
    refine h.trans (he ..) (h.readForService he _ _ (fun s => ?_) _)
    unfold startPackage
    split
    · split
      · exact he ..
      · refine h.readForService he _ _ (fun s => ?_) _
        unfold startWrapped
        split
        · exact he ..
        · exact he ..
    · exact he ..
  | verify i =>
    refine h.trans (he ..) (h.readForService he _ _ (fun s => ?_) _)
    unfold startVerify
    split
    · exact he ..
    · exact h.trans (he ..) (hv ..)

theorem settleEngine (s : State) : R s (settleEngine s) := by
  unfold Machine.settleEngine
  generalize choiceBound s = n
  induction n generalizing s with
  | zero => exact h.refl s
  | succ n ih =>
    unfold chooseJobs
    split
    · exact h.refl s
    · split
      · exact h.refl s
      · exact h.trans (h.trans (he ..) (h.startService he hv ..)) (ih _)

end

end Closed

end Sys2Proof.Machine

/-! # LINE_STATUS (R69) -/

namespace Sys2Proof.Machine

/-! ## What no quarantine of another record changes -/

/-- A record that was read stays readable through the changes of a shared operation. -/
theorem SlotMove.readable {x y : Slot} (h : SlotMove x y) (hx : x.readable = true) : y.readable = true := by
  have written (sl : Slot) (a : Account) (k : Option Key) : (sl.write a k).readable = true := by
    rw [Slot.readable, write_agrees, Bool.true_or]
  cases h with
  | quarantine =>
    unfold Slot.quarantine
    split
    · exact hx
    · exact written x _ _
  | dispose d n =>
    unfold Slot.dispose
    split
    · exact hx
    · split
      · exact hx
      · exact written ..
  | leave w hw => exact hx
  | take a iss ha hi hv => exact written ..

theorem Account.afterDisposal_assembly {a b : Account} {d : Disposal} {n : Nat} (h : a.afterDisposal d n = some b) :
    b.assembly = a.assembly := by
  have settled {k : Settlement} (h : a.afterSettlement k n = some b) : b.assembly = a.assembly := by
    unfold afterSettlement at h
    split at h
    · cases (Option.ite_none_right_eq_some.1 h).2
      rfl
    · cases h
  cases d with
  | confirm | void => exact settled h
  | giveBack =>
    unfold afterDisposal at h
    dsimp only at h
    split at h
    · split at h
      · cases h; rfl
      · exact settled h
    · cases h

/-- A record without an assembly part gets none. -/
theorem SlotMove.assembly {x y : Slot} (h : SlotMove x y) (hx : ∀ a, x.account = some a → a.assembly = none) :
    ∀ a, y.account = some a → a.assembly = none := by
  cases h with
  | quarantine =>
    unfold Slot.quarantine
    split
    · exact hx
    · rintro a ⟨⟩; rfl
  | dispose d n =>
    unfold Slot.dispose
    split
    · exact hx
    · next a ha =>
      split
      · exact hx
      · next b hb =>
        rintro c ⟨⟩
        rw [Account.afterDisposal_assembly hb, hx a ha]
  | leave w hw => exact hx
  | take a iss ha hi hv =>
    rintro b ⟨⟩
    exact hx a ha

theorem SlotMoves.readable {x y : Slot} (h : SlotMoves x y) (hx : x.readable = true) : y.readable = true := by
  induction h with
  | refl => exact hx
  | tail _ move ih => exact move.readable ih

theorem SlotMoves.assembly {x y : Slot} (h : SlotMoves x y) (hx : ∀ a, x.account = some a → a.assembly = none) :
    ∀ a, y.account = some a → a.assembly = none := by
  induction h with
  | refl => exact hx
  | tail _ move ih => exact move.assembly ih

/-- The table has moved, and a line whose last outcome names a readable record is as it was. -/
structure LineKept (l : Line) (i : SlotId) (s t : State) : Prop where
  table : TableMoves s t
  line : (s.slot i).readable = true → (s.line l).last.slot = i → t.line l = s.line l

namespace LineKept

variable {l : Line} {i : SlotId} {s : State}

theorem of_lines {t : State} (h : TableMoves s t) (hl : t.lines = s.lines) : LineKept l i s t :=
  ⟨h, fun _ _ => by rw [State.line, hl]; rfl⟩

theorem trans {t u : State} (h : LineKept l i s t) (k : LineKept l i t u) : LineKept l i s u :=
  ⟨h.table.trans k.table, fun hr hs => by
    have line := h.line hr hs
    rw [k.line ((h.table.slot i).readable hr) (by rw [line, hs]), line]⟩

theorem closed : Closed (LineKept l i) where
  refl s := of_lines (.refl s) rfl
  trans := trans
  setStation s st k := of_lines (.of_table rfl) rfl
  latch s e := of_lines (.latch ..) rfl
  abandon s p := of_lines (.of_table rfl) rfl
  dispose s d i n := of_lines (.disposeNumber ..) rfl
  leave s i st rest hw := of_lines (.modifySlot (.leave _ _ (by rw [hw]; exact List.subset_cons_self ..))) rfl
  take s i st p a iss ha hi hv := of_lines (.takeNumber ha hi hv ..) (by
    have latchIf (c : Prop) [Decidable c] (s : State) (e : Event) : (if c then s.latch e else s).lines = s.lines := by
      split <;> rfl
    exact (latchIf ..).trans (latchIf ..))
  condemn s j a ha hbad := by
    refine ⟨((TableMoves.modifySlot (.quarantine _)).trans (.latch ..)).trans ((TableMoves.abandonNaming ..).trans
      (.cancelLines ..)), fun hr hs => ?_⟩
    have other : i ≠ j := by
      rintro rfl
      rw [hr] at hbad
      cases hbad
    have before : (abandonNaming j ((s.modifySlot j Slot.quarantine).latch .recordQuarantined)).line l = s.line l := by
      unfold abandonNaming
      dsimp only
      split <;> rfl
    rw [line_cancelLines, before]
    split
    · exact if_neg fun named => other (hs.symm.trans named.1)
    · rfl

end LineKept

/-! ## The quarantine of a record step by step (R160, R161) -/

/-- R160 and the first step of R161: the record, the latched event, the jobs and the lines. -/
def condemned (i : SlotId) (a : Account) (s : State) : State :=
  cancelLines a.involvedLines i (abandonNaming i ((s.modifySlot i Slot.quarantine).latch .recordQuarantined))

/-- The second step of R161: the stations bound to the record. -/
def expelBound (i : SlotId) (s : State) : State := (boundTo i s).foldl (fun s st => quarantineBound st s) s

/-- The depth of nesting that is left to the third step. -/
def Config.nestedDepth : Nat := Config.quarantineDepth - 1

theorem quarantine_of_record {busy : List SlotId} {i : SlotId} {s : State} {a : Account} (ha : s.account i = some a)
    (hq : a.state ≠ .quarantined) :
    quarantine busy i s =
      (descendingByNumber (expelBound i (condemned i a s)) (usersOf i (expelBound i (condemned i a s)))).foldl
        (fun s st => quarantineUser (quarantineAt Config.nestedDepth) busy i st s) (expelBound i (condemned i a s)) := by
  show quarantineStep (quarantineAt Config.nestedDepth) busy i s = _
  unfold quarantineStep
  rw [ha]
  exact if_neg hq

theorem not_quarantined_of_not_readable {i : SlotId} {s : State} {a : Account} (hbad : (s.slot i).readable = false)
    (ha : s.account i = some a) : a.state ≠ .quarantined := by
  intro hq
  rw [Slot.readable, Slot.recordState, show (s.slot i).account = some a from ha, Option.map_some, hq] at hbad
  simp at hbad

theorem check_of_not_readable {i : SlotId} {s : State} (hbad : (s.slot i).readable = false) : check i s = quarantine [] i s := by
  refine if_neg fun good => ?_
  rw [Slot.readable, Bool.or_eq_false_iff] at hbad
  rcases good with good | good <;> simp [good] at hbad

theorem Closed.quarantine_tail {R : State → State → Prop} (h : Closed R) {busy : List SlotId} {i : SlotId} {s : State} {a : Account}
    (ha : s.account i = some a) (hq : a.state ≠ .quarantined) : R (condemned i a s) (Machine.quarantine busy i s) := by
  rw [quarantine_of_record ha hq]
  exact h.trans (h.foldl _ (fun s st => h.quarantineBound ..) _ _)
    (h.foldl _ (fun s st => h.quarantineUser (fun busy i s hs => h.quarantineAt _ busy i s hs) ..) _ _)

theorem slot_condemned (i : SlotId) (a : Account) (s : State) (j : SlotId) :
    (condemned i a s).slot j = if j = i then (s.slot i).quarantine else s.slot j := by
  have table : (condemned i a s).table = (s.modifySlot i Slot.quarantine).table := by
    rw [condemned, cancelLines_frame]
    unfold abandonNaming
    dsimp only
    split <;> rfl
  rw [State.slot, table]
  exact slot_setSlot ..

theorem line_condemned (i : SlotId) (a : Account) (s : State) (l : Line) :
    (condemned i a s).line l =
      if a.involvedLines &&& lineBit l = lineBit l then (s.line l).withOutcome i .cancelled none else s.line l := by
  have before : (abandonNaming i ((s.modifySlot i Slot.quarantine).latch .recordQuarantined)).line l = s.line l := by
    unfold abandonNaming
    dsimp only
    split <;> rfl
  rw [condemned, line_cancelLines, before]

/-! ## LINE_STATUS -/

section
variable {s : State} {l : Line}

theorem exec_lineStatus (h : s.Hears l) {v : State} {data : List Byte} (hf : lineStatus l s = (v, .ok, data)) :
    exec (.lineStatus l []) s = .next (answeredLine l 0x41 .ok data v) :=
  congrArg Host.Outcome.next (custodianRequest_map_of_hears h (x := ()) rfl hf)

theorem lineStatus_of_other (ho : (s.line l).last.outcome ≠ .accepted) :
    lineStatus l s = (s, .ok, [(s.line l).last.outcome.code, BitVec.ofNat 8 (s.line l).last.slot.val] ++
      bytesOfBits 3 ((lineStatusCheck l s).getD 0)) := by
  simp only [lineStatus, if_neg ho]

theorem lineStatus_of_accepted (ho : (s.line l).last.outcome = .accepted) {t : State}
    (ht : settleEngine (check (s.line l).last.slot s) = t) :
    lineStatus l s = (t, .ok, [(t.line l).last.outcome.code, BitVec.ofNat 8 (t.line l).last.slot.val] ++
      bytesOfBits 3 ((lineStatusCheck l t).getD 0)) := by
  subst ht
  simp only [lineStatus, if_pos ho]

theorem lineStatusCheck_of_accepted (ho : (s.line l).last.outcome = .accepted) :
    lineStatusCheck l s = componentCheckOf l (s.account (s.line l).last.slot) := by rw [lineStatusCheck, ho]

theorem lineStatusCheck_of_completed (ho : (s.line l).last.outcome = .completed) :
    lineStatusCheck l s = (s.line l).last.check := by rw [lineStatusCheck, ho]

theorem lineStatusCheck_of_neither (ha : (s.line l).last.outcome ≠ .accepted) (hc : (s.line l).last.outcome ≠ .completed) :
    lineStatusCheck l s = none := by
  unfold lineStatusCheck
  split
  · next h => exact absurd h ha
  · next h => exact absurd h hc
  · rfl

theorem componentCheckOf_of_listed {a : Account} {m : Assembly} {v : BitVec 24} {before after : List (Line × BitVec 24)}
    (hst : a.state = .assembling) (hm : a.assembly = some m) (hv : m.checks = before ++ (l, v) :: after)
    (hb : ∀ x ∈ before, x.1 ≠ l) : componentCheckOf l (some a) = some v := by
  have found : m.checks.find? (·.1 == l) = some (l, v) := by
    rw [hv, List.find?_append, List.find?_eq_none.2 fun x hx => by simpa using hb x hx, List.find?_cons_of_pos (by simp)]
    rfl
  simp only [componentCheckOf, hm, hst, if_true, found, Option.map_some]

theorem componentCheckOf_of_other {o : Option Account} (h : ∀ a, o = some a → a.state ≠ .assembling ∨ a.assembly = none) :
    componentCheckOf l o = none := by
  unfold componentCheckOf
  split
  · next a =>
    split
    · next m hm => exact if_neg ((h a rfl).resolve_right (by rw [hm]; nofun))
    · rfl
  · rfl

end

/-- The lines and the slot after a read that quarantined the record a line's last outcome names. -/
theorem settled_check_of_failing {s : State} {l : Line} {i : SlotId} {a : Account} (hs : (s.line l).last.slot = i)
    (hbad : (s.slot i).readable = false) (ha : s.account i = some a) :
    (settleEngine (check i s)).line l =
        (if a.involvedLines &&& lineBit l = lineBit l then (s.line l).withOutcome i .cancelled none else s.line l) ∧
      ∀ b, (settleEngine (check i s)).account i = some b → b.assembly = none := by
  have hq := not_quarantined_of_not_readable hbad ha
  have quarantined : (condemned i a s).slot i = (s.slot i).quarantine := by rw [slot_condemned, if_pos rfl]
  have written : (s.slot i).quarantine =
      { (s.slot i).write { a with state := .quarantined, assembly := none } none with waiting := [] } := by
    rw [Slot.quarantine, show (s.slot i).account = some a from ha]
  have kept : LineKept l i (condemned i a s) (settleEngine (check i s)) := by
    rw [check_of_not_readable hbad]
    exact LineKept.closed.trans (LineKept.closed.quarantine_tail ha hq)
      (LineKept.closed.settleEngine (fun s e => .of_lines (.setEngine ..) rfl) (fun s o i => .of_lines (.endVerify ..) rfl) _)
  have line := line_condemned i a s l
  refine ⟨(kept.line ?_ ?_).trans line, (kept.table.slot i).assembly ?_⟩
  · rw [quarantined, written]
    simp [Slot.readable, Slot.recordState, Slot.write]
  · rw [line]
    split
    · rw [CustodianLine.withOutcome]
      split
      · rfl
      · exact hs
    · exact hs
  · rw [quarantined, written]
    rintro b ⟨⟩
    rfl

/-- Settles O44: the check value by the last outcome; a failing record by the lines its quarantine reaches. -/
theorem lineStatusAnswers : Obligations.LineStatusAnswers := by
  refine ⟨fun s l hl he => ⟨fun ha hc => ?_, fun v hc hv => ?_, fun ha hr => ⟨fun a m v before after hacc hst hm hv hb => ?_,
    fun hother => ?_⟩, fun ha hbad a hacc => ?_⟩, fun s l hp => ?_⟩
  · refine exec_lineStatus hl ?_
    rw [lineStatus_of_other ha, lineStatusCheck_of_neither ha hc]
    rfl
  · refine exec_lineStatus hl ?_
    rw [lineStatus_of_other (by rw [hc]; nofun), lineStatusCheck_of_completed hc, hv]
    rfl
  · refine exec_lineStatus hl ?_
    rw [lineStatus_of_accepted ha (by rw [check_of_readable hr, settleEngine_of_settled he]), lineStatusCheck_of_accepted ha, hacc,
      componentCheckOf_of_listed hst hm hv hb]
    rfl
  · refine exec_lineStatus hl ?_
    rw [lineStatus_of_accepted ha (by rw [check_of_readable hr, settleEngine_of_settled he]), lineStatusCheck_of_accepted ha,
      componentCheckOf_of_other fun a hacc => .inl (hother a hacc)]
    rfl
  · obtain ⟨line, noAssembly⟩ := settled_check_of_failing rfl hbad hacc
    have answer := lineStatus_of_accepted ha rfl
    generalize settleEngine (check (s.line l).last.slot s) = t at line noAssembly answer ⊢
    have cancelled (m : Assembly) (hm : a.assembly = some m) (hin : (m.contributed ||| m.reserved) &&& lineBit l = lineBit l) :
        lineStatus l s = (t, .ok, [0x04, BitVec.ofNat 8 (s.line l).last.slot.val, 0, 0, 0]) := by
      rw [Account.involvedLines, hm, if_pos hin, CustodianLine.withOutcome, if_pos ⟨rfl, by rw [ha]; nofun⟩] at line
      rw [answer, lineStatusCheck_of_neither (by rw [line]; nofun) (by rw [line]; nofun), line]
      rfl
    have stays (hout : a.involvedLines &&& lineBit l ≠ lineBit l) :
        lineStatus l s = (t, .ok, [0x02, BitVec.ofNat 8 (s.line l).last.slot.val, 0, 0, 0]) := by
      rw [if_neg hout] at line
      rw [answer, lineStatusCheck_of_accepted (by rw [line, ha]), line, ha,
        componentCheckOf_of_other fun b hb => .inr (noAssembly b hb)]
      rfl
    refine ⟨fun m _ hm hin => exec_lineStatus hl (cancelled m hm hin), fun hm => exec_lineStatus hl (stays ?_),
      fun m _ hm hout => exec_lineStatus hl (stays ?_)⟩
    · rw [Account.involvedLines, hm]
      exact no_approval l
    · rw [Account.involvedLines, hm]
      exact hout
  · exact congrArg Host.Outcome.next (if_pos hp)

end Sys2Proof.Machine

/-! # The arbiter's choice and the start of service (R102 to R105) -/

namespace Sys2Proof.Machine

/-! ## The choices of one event -/

/-- A free engine's choice and the start of the job it chose. -/
theorem chooseJobs_succ {s : State} (hv : s.engine.service = none) {j : Job} {e : Engine} (hc : s.engine.choose = some (j, e))
    (n : Nat) : chooseJobs (n + 1) s = chooseJobs n (startService j (s.setEngine e)) := by
  rw [chooseJobs, hv, hc]

theorem chooseJobs_of_busy {s : State} {v : Service} (hv : s.engine.service = some v) (n : Nat) : chooseJobs n s = s := by
  cases n with
  | zero => rfl
  | succ n => rw [chooseJobs, hv]

theorem chooseJobs_of_no_choice {s : State} (hc : s.engine.choose = none) (n : Nat) : chooseJobs n s = s := by
  cases n with
  | zero => rfl
  | succ n =>
    unfold chooseJobs
    split
    · rfl
    · rw [hc]

/-- Each choice takes one from the bound. -/
theorem choiceBound_startService {s : State} {j : Job} {e : Engine} (hc : s.engine.choose = some (j, e)) :
    choiceBound (startService j (s.setEngine e)) + 1 ≤ choiceBound s := by
  have shorter : choiceBound (s.setEngine e) + 1 = choiceBound s := by
    simp only [choiceBound_eq, waitingCount_setEngine, setEngine_engine, ← choose_length hc]
    omega
  have := NoMoreJobs.startService j (s.setEngine e)
  calc choiceBound (startService j (s.setEngine e)) + 1
      ≤ choiceBound (s.setEngine e) + 1 := Nat.succ_le_succ this
    _ = choiceBound s := shorter

/-- More choices than the bound make no difference. -/
theorem chooseJobs_of_bound {n m : Nat} {s : State} (hn : choiceBound s ≤ n) (hm : choiceBound s ≤ m) :
    chooseJobs n s = chooseJobs m s := by
  induction n generalizing s m with
  | zero =>
    cases hc : s.engine.choose with
    | none => rw [chooseJobs_of_no_choice hc, chooseJobs_of_no_choice hc]
    | some c => have := choiceBound_startService hc; omega
  | succ n ih =>
    cases hv : s.engine.service with
    | some v => rw [chooseJobs_of_busy hv, chooseJobs_of_busy hv]
    | none =>
      cases hc : s.engine.choose with
      | none => rw [chooseJobs_of_no_choice hc, chooseJobs_of_no_choice hc]
      | some c =>
        have := choiceBound_startService hc
        obtain ⟨m, rfl⟩ : ∃ k, m = k + 1 := ⟨m - 1, by omega⟩
        rw [chooseJobs_succ hv hc, chooseJobs_succ hv hc]
        exact ih (by omega) (by omega)

/-- A free engine starts the job it chose, and then chooses again (R102, R103). -/
theorem settleEngine_of_choice {s : State} (hv : s.engine.service = none) {j : Job} {e : Engine}
    (hc : s.engine.choose = some (j, e)) : settleEngine s = settleEngine (startService j (s.setEngine e)) := by
  have fewer := choiceBound_startService hc
  obtain ⟨n, hn⟩ : ∃ n, choiceBound s = n + 1 := ⟨choiceBound s - 1, by omega⟩
  rw [settleEngine, hn, chooseJobs_succ hv hc]
  exact chooseJobs_of_bound (by omega) le_rfl

/-! ## The start of service -/

/-- The engine after the first step of a quarantine (R161, R107). -/
theorem engine_condemned (i : SlotId) (a : Account) (s : State) : (condemned i a s).engine = s.engine.abandon (Job.names i) := by
  rw [condemned, cancelLines_frame]
  unfold abandonNaming
  dsimp only
  split <;> rfl

theorem startAbandoned_of_engine {s t : State} {p : Job → Bool} (ht : t.engine = s.engine.abandon p)
    (h : s.startAbandoned = true) : t.startAbandoned = true := by
  unfold State.startAbandoned at h ⊢
  rw [ht, Engine.abandon]
  cases hv : s.engine.service with
  | none => rfl
  | some v =>
    rw [hv] at h
    dsimp only [Option.map_some]
    split
    · rfl
    · exact h

/-- A job abandoned in service stays so through a read. -/
theorem startAbandoned_closed : Closed fun s t => s.startAbandoned = true → t.startAbandoned = true where
  refl _ h := h
  trans h k hs := k (h hs)
  setStation _ _ _ h := h
  latch _ _ h := h
  abandon s p h := startAbandoned_of_engine rfl h
  dispose _ _ _ _ h := h
  leave _ _ _ _ _ h := h
  take s i st p a iss _ _ _ h := by
    have latchIf (c : Prop) [Decidable c] (s : State) (e : Event) : (if c then s.latch e else s).engine = s.engine := by
      split <;> rfl
    have same : (takeNumber i st p a iss s).engine.service = s.engine.service := by
      unfold takeNumber
      dsimp only [placeJob, setEngine_engine, setStation_engine]
      rw [latchIf, latchIf, modifySlot_engine]
    unfold State.startAbandoned at h ⊢
    rwa [same]
  condemn s i a _ _ h := startAbandoned_of_engine (engine_condemned i a s) h

/-- A service start whose read quarantines a record that the job names (R105, R161). -/
theorem readForService_of_failing {j : Job} {i : SlotId} {s : State} {a : Account} {go : State → State} (hj : j.names i = true)
    (hbad : (s.slot i).readable = false) (ha : s.account i = some a) :
    readForService i go (inService j .nothing s) = freeEngine (check i (inService j .nothing s)) := by
  have abandoned : (check i (inService j .nothing s)).startAbandoned = true := by
    rw [check_of_not_readable (s := inService j .nothing s) hbad]
    refine startAbandoned_closed.quarantine_tail (s := inService j .nothing s) ha (not_quarantined_of_not_readable hbad ha) ?_
    rw [State.startAbandoned, engine_condemned]
    simp [Engine.abandon, inService, hj]
  exact if_pos abandoned

/-- A service start whose record passes its read-check. -/
theorem readForService_of_readable {j : Job} {i : SlotId} {s : State} {c : Copies} {go : State → State}
    (hr : (s.slot i).readable = true) : readForService i go (inService j c s) = go (inService j c s) := by
  unfold readForService
  rw [check_of_readable (s := inService j c s) hr]
  rfl

section
variable {s : State} {j : Job} {i : SlotId} {a : Account} {key : Key}

theorem keyMaterial_of_live (ha : s.account i = some a) (hl : a.state.isLive = true) : (s.slot i).keyMaterial = (s.slot i).secret := by
  rw [Slot.keyMaterial, show (s.slot i).account = some a from ha]
  exact if_pos hl

theorem keyMaterial_of_not_live (h : ∀ a, s.account i = some a → ¬ a.state.isLive = true) : (s.slot i).keyMaterial = none := by
  unfold Slot.keyMaterial
  split
  · rfl
  · next a ha => exact if_neg (h a ha)

theorem startKeyCheck_of_secret (hk : (s.slot i).secret = some key) : startKeyCheck j i s = inService j (.accumulator key) s := by
  rw [startKeyCheck, hk]

theorem startVerify_of_live {v : BitVec 24} (ha : s.account i = some a) (hl : a.state.isLive = true)
    (hk : (s.slot i).secret = some key) (hv : a.checkValue = some v) : startVerify j i s = inService j (.stored key v) s := by
  rw [startVerify, ha, keyMaterial_of_live ha hl, hk]
  dsimp only
  rw [hv]
  rfl

theorem startVerify_of_not_live (h : ∀ a, s.account i = some a → ¬ a.state.isLive = true) :
    startVerify j i s = endVerify .abandoned i (freeEngine s) := by
  rw [startVerify, keyMaterial_of_not_live h]
  split
  · next h => cases h
  · rfl

theorem startPackage_of_base {b : SlotId} {iss : Issuance} (t : Option SlotId) (ha : s.account b = some a)
    (hpart : a.part = .base iss) (hl : a.state.isLive = true) (hk : (s.slot b).secret = some key) :
    startPackage j b t s = match t with
      | none => inService j (.packageKeys key iss.tag iss.usage none) s
      | some i => readForService i (startWrapped j i key iss.tag iss.usage) s := by
  have issuance : (s.account b).bind Account.issuance = some iss := by
    rw [ha, Option.bind_some, Account.issuance, hpart]
  simp only [startPackage, issuance, keyMaterial_of_live ha hl, hk] <;> cases t <;> rfl

theorem startWrapped_of_transport {tkey : Key} {v : BitVec 24} {tag : BitVec 32} {usage : Byte} (ha : s.account i = some a)
    (hl : a.state.isLive = true) (hk : (s.slot i).secret = some tkey) (hv : a.checkValue = some v) :
    startWrapped j i key tag usage s = inService j (.packageKeys key tag usage (some (tkey, v))) s := by
  rw [startWrapped, ha, keyMaterial_of_live ha hl, hk]
  dsimp only
  rw [hv]
  rfl

end

/-! ## The choice (R103, R104) -/

theorem firstStationJob_of_none {queue : List Job} {l : List StationId}
    (h : ∀ tt ∈ l, ∀ x ∈ queue, x.requester ≠ .station tt) : firstStationJob queue l = none := by
  induction l with
  | nil => rfl
  | cons tt l ih =>
    have none : jobOf (.station tt) queue = none :=
      List.find?_eq_none.2 fun x hx => by simpa using h tt List.mem_cons_self x hx
    rw [firstStationJob, none]
    exact ih fun tt htt => h tt (List.mem_cons_of_mem _ htt)

theorem firstStationJob_of_first {queue : List Job} {before after : List StationId} {st : StationId} {j : Job}
    (hb : ∀ tt ∈ before, ∀ x ∈ queue, x.requester ≠ .station tt) (hj : jobOf (.station st) queue = some j) :
    firstStationJob queue (before ++ st :: after) = some (st, j) := by
  induction before with
  | nil => rw [List.nil_append, firstStationJob, hj]
  | cons tt before ih =>
    have none : jobOf (.station tt) queue = none :=
      List.find?_eq_none.2 fun x hx => by simpa using hb tt List.mem_cons_self x hx
    rw [List.cons_append, firstStationJob, none]
    exact ih fun tt htt => hb tt (List.mem_cons_of_mem _ htt)

/-- The place of a station in the rotating order. -/
theorem rotation_split (p st : StationId) : ∃ before after, rotation p = before ++ st :: after ∧
    ∀ tt ∈ before, (tt.val + 7 - p.val) % 8 < (st.val + 7 - p.val) % 8 := by
  have all : ∀ p st : StationId, (rotation p = (rotation p).take ((st.val + 7 - p.val) % 8) ++ st ::
      (rotation p).drop ((st.val + 7 - p.val) % 8 + 1)) ∧
      ∀ tt ∈ (rotation p).take ((st.val + 7 - p.val) % 8), (tt.val + 7 - p.val) % 8 < (st.val + 7 - p.val) % 8 := by
    decide
  exact ⟨_, _, all p st⟩

section
variable {e : Engine} {before after : List Job} {j : Job}

theorem erase_of_split (hq : e.queue = before ++ j :: after) (hb : j ∉ before) : e.queue.erase j = before ++ after := by
  rw [hq, List.erase_append_right _ hb, List.erase_cons_head]

theorem find?_of_split {p : Job → Bool} (hq : e.queue = before ++ j :: after) (hb : ∀ x ∈ before, p x = false) (hj : p j = true) :
    e.queue.find? p = some j := by
  rw [hq, List.find?_append, List.find?_eq_none.2 fun x hx => by rw [hb x hx]; decide, List.find?_cons_of_pos hj]
  rfl

theorem find?_custodian_eq_none (h : ∀ x ∈ e.queue, x.isCustodian = false) : e.queue.find? Job.isCustodian = none :=
  List.find?_eq_none.2 fun x hx => by rw [h x hx]; decide

theorem choose_of_custodian (hq : e.queue = before ++ j :: after) (hj : j.isCustodian = true)
    (hb : ∀ x ∈ before, x.isCustodian = false) : e.choose = some (j, { e with queue := before ++ after }) := by
  have absent : j ∉ before := fun hmem => by
    rw [hb j hmem] at hj
    cases hj
  rw [Engine.choose, find?_of_split hq hb hj]
  dsimp only
  rw [erase_of_split hq absent]

theorem choose_of_station {st : StationId} (hq : e.queue = before ++ j :: after) (hc : ∀ x ∈ e.queue, x.isCustodian = false)
    (hj : j.requester = .station st) (hb : ∀ x ∈ before, x.requester ≠ .station st)
    (hfirst : ∀ tt : StationId, (tt.val + 7 - e.lastServed.val) % 8 < (st.val + 7 - e.lastServed.val) % 8 →
      ∀ x ∈ e.queue, x.requester ≠ .station tt) :
    e.choose = some (j, { e with queue := before ++ after, lastServed := st }) := by
  obtain ⟨ahead, behind, order, earlier⟩ := rotation_split e.lastServed st
  have own : jobOf (.station st) e.queue = some j := find?_of_split hq (fun x hx => by simpa using hb x hx) (by simpa using hj)
  rw [Engine.choose, find?_custodian_eq_none hc, order, firstStationJob_of_first (fun tt htt => hfirst tt (earlier tt htt)) own]
  dsimp only
  rw [erase_of_split hq fun hmem => hb j hmem hj]

theorem choose_of_console (hq : e.queue = j :: after) (hc : ∀ x ∈ e.queue, x.requester = .console) :
    e.choose = some (j, { e with queue := after }) := by
  have custodian : ∀ x ∈ e.queue, x.isCustodian = false := fun x hx => by
    have console := hc x hx
    cases x with
    | componentCheck | keyCheck => cases console
    | package | verify => rfl
  rw [Engine.choose, find?_custodian_eq_none custodian,
    firstStationJob_of_none fun tt _ x hx => by rw [hc x hx]; nofun]
  simp only [hq]

end

/-- The words that fail a read-check. -/
theorem not_readable_of_failing {sl : Slot} {a : Account} (hw : wordSum sl.words ≠ 0xFFFFFFFF) (ha : sl.account = some a)
    (hq : a.state ≠ .quarantined) : sl.readable = false := by
  have disagrees : (wordSum sl.words == 0xFFFFFFFF) = false := beq_eq_false_iff_ne.2 hw
  rw [Slot.readable, Slot.agrees, disagrees, Slot.recordState, ha]
  simpa using hq

/-- Settles O47: the choices of an event one after the other, the reads of a service start, the three kinds of requester. -/
theorem arbiterChoice : Obligations.ArbiterChoice := by
  refine ⟨fun s => ⟨fun h => settleEngine_of_settled h, fun j e hv hc => ?_⟩, fun s j => ⟨?_, ?_, ?_, ?_⟩, fun e before after j hq =>
    ⟨fun hj hb => choose_of_custodian hq hj hb, fun st hc hj hb hfirst => choose_of_station hq hc hj hb hfirst, fun hb hc => ?_⟩⟩
  · have next := settleEngine_of_choice hv hc
    exact ⟨fun hsettled => next.trans (settleEngine_of_settled hsettled), fun _ => next⟩
  · rintro l i k c rfl
    rfl
  · rintro l i rfl
    refine ⟨fun ⟨hw, a, ha, hq⟩ => ?_, fun acc hr hk => ?_⟩
    · exact readForService_of_failing (by simp [Job.names]) (not_readable_of_failing hw ha hq) ha
    · refine (readForService_of_readable hr).trans ?_
      rw [startKeyCheck_of_secret (s := inService _ _ s) hk]
      rfl
  · rintro i rfl
    refine ⟨fun ⟨hw, a, ha, hq⟩ => ?_, fun a key v hr ha hl hk hv => ?_, fun hr hdead => ?_⟩
    · exact readForService_of_failing (by simp [Job.names]) (not_readable_of_failing hw ha hq) ha
    · refine (readForService_of_readable hr).trans ?_
      rw [startVerify_of_live (s := inService _ _ s) ha (isLive_iff.2 hl) hk hv]
      rfl
    · refine (readForService_of_readable hr).trans ?_
      rw [startVerify_of_not_live (s := inService _ _ s) fun a ha => mem_live_iff.not.1 (hdead a ha)]
      rfl
  · rintro st b n ksi serial t rfl
    refine ⟨fun ⟨hw, a, ha, hq⟩ => ?_, fun a iss key hr ha hpart hl hk => ?_⟩
    · exact readForService_of_failing (by simp [Job.names]) (not_readable_of_failing hw ha hq) ha
    · have base := readForService_of_readable (j := .package st b n ksi serial t) (c := .nothing)
        (go := startPackage (.package st b n ksi serial t) b t) hr
      rw [startPackage_of_base (s := inService _ _ s) t ha hpart (isLive_iff.2 hl) hk] at base
      refine ⟨?_, ?_⟩
      · rintro rfl
        exact base
      · rintro i rfl
        refine ⟨fun ⟨hw, x, hx, hq⟩ => base.trans ?_, fun x tkey v hr hx hl hk hv => base.trans ?_⟩
        · exact readForService_of_failing (by simp [Job.names]) (not_readable_of_failing hw hx hq) hx
        · refine (readForService_of_readable hr).trans ?_
          rw [startWrapped_of_transport (s := inService _ _ s) hx (isLive_iff.2 (hl.imp_right .inl)) hk hv]
          rfl
  · subst hb
    exact choose_of_console hq hc

end Sys2Proof.Machine

/-! # Derived keys and packages (R95 to R99, R108, R144) -/

namespace Sys2Proof.Machine

/-! ## The bytes of a string -/

theorem byte_append_left {w : Nat} (x : BitVec w) (y : Byte) (k : Nat) : (x ++ y).extractLsb' (k + 8) 8 = x.extractLsb' k 8 := by
  rw [BitVec.extractLsb'_append_eq_of_le (by omega), Nat.add_sub_cancel]

theorem byte_append_right {w : Nat} (x : BitVec w) (y : Byte) : (x ++ y).extractLsb' 0 8 = y := by
  rw [BitVec.extractLsb'_append_eq_of_add_le (by omega), BitVec.extractLsb'_eq_self]

/-- A string is known by its bytes. -/
theorem eq_of_bytes {n : Nat} {x y : BitVec (8 * n)} (h : ∀ q, q < n → x.extractLsb' (8 * q) 8 = y.extractLsb' (8 * q) 8) :
    x = y := by
  refine BitVec.eq_of_getLsbD_eq fun k hk => ?_
  have bit (z : BitVec (8 * n)) : z.getLsbD k = (z.extractLsb' (8 * (k / 8)) 8).getLsbD (k % 8) := by
    rw [BitVec.getLsbD_extractLsb', Nat.div_add_mod, decide_eq_true (Nat.mod_lt k (by decide)), Bool.true_and]
  rw [bit x, bit y, h (k / 8) (by omega)]

/-! ## The derivation block (R97) -/

/-- The derivation block takes a byte of the serial and a byte of the tweak in turn. -/
theorem derivationBlock_bytes (s w : BitVec 64) {i : Nat} (hi : i < 8) :
    (derivationBlock s w).extractLsb' (120 - 16 * i) 8 = byteOf64 s i ∧
      (derivationBlock s w).extractLsb' (112 - 16 * i) 8 = byteOf64 w i := by
  unfold derivationBlock
  interval_cases i
  all_goals
    constructor
    all_goals
      repeat refine (byte_append_left _ _ _).trans ?_
  · exact BitVec.extractLsb'_eq_self
  all_goals exact byte_append_right _ _

/-- A block is known by the bytes at those places. -/
theorem block_eq_of_bytes {d e : Block}
    (h : ∀ i, i < 8 → d.extractLsb' (120 - 16 * i) 8 = e.extractLsb' (120 - 16 * i) 8 ∧
      d.extractLsb' (112 - 16 * i) 8 = e.extractLsb' (112 - 16 * i) 8) : d = e := by
  refine eq_of_bytes (n := 16) fun q hq => ?_
  obtain ⟨upper, lower⟩ := h ((15 - q) / 2) (by omega)
  rcases Nat.even_or_odd' q with ⟨c, rfl | rfl⟩
  · rwa [show 112 - 16 * ((15 - 2 * c) / 2) = 8 * (2 * c) by omega] at lower
  · rwa [show 120 - 16 * ((15 - (2 * c + 1)) / 2) = 8 * (2 * c + 1) by omega] at upper

/-- The bytes of an 8-byte string, byte 0 first. -/
theorem eq_of_byteOf64 {x y : BitVec 64} (h : ∀ i, i < 8 → byteOf64 x i = byteOf64 y i) : x = y := by
  refine eq_of_bytes (n := 8) fun q hq => ?_
  have byte := h (7 - q) (by omega)
  rwa [byteOf64, byteOf64, show 56 - 8 * (7 - q) = 8 * q by omega] at byte

/-- A derivation block tells serial and tweak. -/
theorem derivationBlock_injective {s w s' w' : BitVec 64} (h : derivationBlock s w = derivationBlock s' w') : s = s' ∧ w = w' := by
  have bytes (i : Nat) (hi : i < 8) : byteOf64 s i = byteOf64 s' i ∧ byteOf64 w i = byteOf64 w' i := by
    obtain ⟨hs, hw⟩ := derivationBlock_bytes s w hi
    obtain ⟨hs', hw'⟩ := derivationBlock_bytes s' w' hi
    rw [h] at hs hw
    exact ⟨hs.symm.trans hs', hw.symm.trans hw'⟩
  exact ⟨eq_of_byteOf64 fun i hi => (bytes i hi).1, eq_of_byteOf64 fun i hi => (bytes i hi).2⟩

/-- A tweak tells the number. -/
theorem tweakOf_injective {tag : BitVec 32} {usage : Byte} {n m : Nat} (hn : n < 2 ^ 24) (hm : m < 2 ^ 24)
    (h : tweakOf tag n usage = tweakOf tag m usage) : n = m := by
  have number (k : Nat) : (tweakOf tag k usage).extractLsb' 8 24 = BitVec.ofNat 24 k := by
    unfold tweakOf
    rw [BitVec.extractLsb'_append_eq_of_le (by omega), BitVec.extractLsb'_append_eq_of_add_le (by omega), Nat.sub_self,
      BitVec.extractLsb'_eq_self]
  have same : BitVec.ofNat 24 n = BitVec.ofNat 24 m := by rw [← number n, h, number m]
  have value := congrArg BitVec.toNat same
  rwa [BitVec.toNat_ofNat, BitVec.toNat_ofNat, Nat.mod_eq_of_lt hn, Nat.mod_eq_of_lt hm] at value

/-- Settles O49: the derivation blocks differ, and the block transform under one key is a permutation. -/
theorem derivedKeysDiffer : Obligations.DerivedKeysDiffer := by
  intro base tag usage n m serial serial' hn hm hdiff hsame
  have block : derivationBlock serial (tweakOf tag n usage) = derivationBlock serial' (tweakOf tag m usage) := by
    cases base with
    | k16 b => exact (Config.blockTransform _).injective (Key.k16.inj hsame)
    | k32 b0 b1 => exact (Config.blockTransform _).injective (Key.k32.inj hsame).1
  obtain ⟨same, tweak⟩ := derivationBlock_injective block
  exact hdiff.elim (fun h => h (tweakOf_injective hn hm tweak)) fun h => h same

/-! ## The PACKAGE job completes (R108, R144) -/

/-- D* differs from D in its final byte alone (R97). -/
theorem variantBlock_eq {d d' : Block} {usage : Byte} (hlow : d.extractLsb' 0 8 = usage)
    (hhigh : d'.extractLsb' 8 120 = d.extractLsb' 8 120) (hlast : d'.extractLsb' 0 8 = usage ^^^ 0xFF) : variantBlock d = d' := by
  have split (x : BitVec (120 + 8)) : x = x.extractLsb' 8 120 ++ x.extractLsb' 0 8 :=
    BitVec.extractLsb'_eq_self.symm.trans
      (BitVec.extractLsb'_append_extractLsb'_eq_extractLsb' (start₁ := 0) (len₁ := 8) (len₂ := 120) (start₂ := 8) rfl).symm
  calc variantBlock d
      = (d.extractLsb' 8 120 ++ d.extractLsb' 0 8) ^^^ ((0 : BitVec 120) ++ (0xFF : Byte)) :=
        congrArg (· ^^^ (0xFF : Block)) (split d)
    _ = (d.extractLsb' 8 120 ^^^ 0) ++ (d.extractLsb' 0 8 ^^^ 0xFF) := BitVec.xor_append
    _ = d'.extractLsb' 8 120 ++ d'.extractLsb' 0 8 := by
      rw [hlow, ← hhigh, hlast, show d'.extractLsb' 8 120 ^^^ 0 = _ from BitVec.xor_zero]
    _ = d' := (split d').symm

theorem tweakOf_usage (tag : BitVec 32) (n : Nat) (usage : Byte) : byteOf64 (tweakOf tag n usage) 7 = usage :=
  byte_append_right _ _

/-- The frame of a completed PACKAGE job and the check value of its key (R108). -/
theorem packageResult_eq (n : Nat) (ksi serial : BitVec 64) (base : Key) (tag : BitVec 32) (usage : Byte)
    (transport : Option (Key × BitVec 24)) :
    packageResult n ksi serial base tag usage transport =
      (match transport with
       | some (tk, tcv) => .package ksi (wrapKey tk ksi serial (derivedKey base tag usage n serial)) tcv .wrapped
       | none => .package ksi (derivedKey base tag usage n serial) 0 .clear,
       checkValue (derivedKey base tag usage n serial)) := by
  cases transport <;> rfl

theorem applyPackage_of_preparing {st : StationId} {r : StationFrame × BitVec 24} {s : State} {p : Package}
    (hst : (s.station st).state = .preparing) (hp : (s.station st).package = some p) (ht : (s.station st).transmitter = []) :
    applyPackage st r s =
      s.setStation st
        { s.station st with state := .sending, package := some { p with expected := some r.2 }, transmitter := [r.1] } := by
  have place : placeFrame r.1 [] = [r.1] := by cases r.1 <;> rfl
  unfold applyPackage State.modifyStation
  simp only [hp, hst, ht, if_true, place]

/-- Settles O48: the derivation and the wrapping by their bytes, then the station in PREPARING. -/
theorem packageJobCompletes : Obligations.PackageJobCompletes := by
  refine ⟨fun k => rfl, fun base tag usage n serial d d' => ?_, fun t ksi serial k0 k1 => ⟨rfl, rfl⟩, ?_⟩
  · intro tweak hd hhigh hlast
    have block : derivationBlock serial tweak = d := block_eq_of_bytes fun i hi => by
      obtain ⟨hs, hw⟩ := derivationBlock_bytes serial tweak hi
      obtain ⟨hs', hw'⟩ := hd i hi
      exact ⟨hs.trans hs'.symm, hw.trans hw'.symm⟩
    have low : d.extractLsb' 0 8 = usage := by
      obtain ⟨-, hw⟩ := hd 7 (by decide)
      exact hw.trans (tweakOf_usage tag n usage)
    have variant := variantBlock_eq low hhigh hlast
    refine ⟨fun b hb => ?_, fun b0 b1 hb => ?_⟩
    · rw [hb, ← block]
      rfl
    · rw [hb, ← variant, ← block]
      rfl
  · intro s st b n ksi serial t base tag usage transport p hp hv hst hpack htx
    refine congrArg Host.Outcome.next ((completion_of_held hp hv rfl).trans (congrArg settleEngine ?_))
    rw [applyPackage_of_preparing (s := freeEngine s) hst hpack htx, packageResult_eq]
    rfl

end Sys2Proof.Machine

/-! # The dialogue: greeting, refusals, timers, the ends of transmissions (R126, R135 to R139, R145, R151) -/

namespace Sys2Proof.Machine

/-! ## PRESENT (R135, R138) -/

theorem exec_present {s : State} {st : StationId} (hp : s.powered = true) (ha : (s.station st).present = false) :
    exec (.present st) s = .next (s.modifyStation st fun k =>
      if s.device = .operational ∧ k.state = .waiting then { k with present := true }.greet s.console.settings.identityTimeout
      else { k with present := true }) :=
  congrArg Host.Outcome.next (if_pos ⟨hp, ha⟩)

/-- Settles O51: the presence field follows the sense, and a WAITING station greets in OPERATIONAL. -/
theorem presentGreets : Obligations.PresentGreets := by
  refine fun s st hp ha => ⟨fun hd hw ht => ?_, fun h => ?_⟩
  · rw [exec_present hp ha, State.modifyStation, if_pos ⟨hd, hw⟩, Station.greet, ht]
    rfl
  · rw [exec_present hp ha, State.modifyStation, if_neg fun both => h.elim (· both.1) (· both.2)]

/-! ## A station that is not served (R126, R142, R151) -/

theorem Station.close_eq (k : Station) (c : CloseCode) :
    k.close c = { k with transmitter := if k.present then placeFrame (.close c) k.transmitter else k.transmitter } := by
  unfold Station.close
  split <;> rfl

/-- A hold closes over what the station was (R126). -/
theorem hold_eq (c : HoldCondition) (st : StationId) (s : State) :
    hold c st s =
      { s.setStation st ((s.station st).hold c) with
        events :=
          { s.events with
            latched :=
              if (s.station st).holds &&& c.bit = c.bit then s.events.latched
              else s.events.latched ||| Event.stationHeld.bit } } := by
  unfold hold
  dsimp only
  split <;> rfl

theorem hold_placeClose (c : HoldCondition) (code : CloseCode) (st : StationId) (s : State) :
    hold c st (placeClose code st s) =
      { s.setStation st (((s.station st).close code).hold c) with
        events :=
          { s.events with
            latched :=
              if (s.station st).holds &&& c.bit = c.bit then s.events.latched
              else s.events.latched ||| Event.stationHeld.bit } } := by
  have holds : ((s.station st).close code).holds = (s.station st).holds := by rw [Station.close_eq]
  rw [hold_eq, placeClose, station_modifyStation_self, State.modifyStation, setStation_setStation, holds]
  rfl

/-- Settles O55: the close, then the hold, of one station. -/
theorem refusedServiceHolds : Obligations.RefusedServiceHolds := by
  intro s st c
  rw [refuseService, hold_placeClose, Station.close_eq]
  rfl

/-! ## Terminal frames that are discarded, timers, ends of transmissions (R136, R137, R139, R145, R149) -/

section
variable {α : Type} {s : State} {st : StationId} {awaited : StationState} {o : Option α} {taken : α → State → State}

theorem terminalFrame_of_not_operational (hd : s.device ≠ .operational) : terminalFrame st awaited o taken s = s :=
  if_neg fun both => hd both.2

/-- In OPERATIONAL a frame that does not fit, or that the station does not await, is discarded with LINE_ERROR_STATION. -/
theorem terminalFrame_of_discarded (hp : s.powered = true) (hd : s.device = .operational)
    (h : o = none ∨ ¬ ((s.station st).state = awaited ∧ (s.station st).transmitter = [])) :
    terminalFrame st awaited o taken s = s.latch .lineErrorStation := by
  refine (if_pos ⟨hp, hd⟩).trans ?_
  rcases o with _ | x
  · rfl
  · exact if_neg (h.resolve_left nofun)

theorem terminalFrame_of_taken (hp : s.powered = true) (hd : s.device = .operational) {x : α} (ho : o = some x)
    (hst : (s.station st).state = awaited) (ht : (s.station st).transmitter = []) :
    terminalFrame st awaited o taken s = taken x s := by
  subst ho
  exact (if_pos ⟨hp, hd⟩).trans (if_pos ⟨hst, ht⟩)

end

theorem identityOperands_eq_none {p : Payload} (h : p.length ≠ 11) : identityOperands p = none := if_neg h

theorem receiptOperands_eq_none {p : Payload} (h : p.length ≠ 11) : receiptOperands p = none := if_neg h

theorem oneByte_eq_none {p : Payload} (h : p.length ≠ 1) : oneByte p = none := by
  match p with
  | [] => rfl
  | [_] => exact absurd rfl h
  | _ :: _ :: _ => rfl

/-- A frame discarded for its length, for the transmitter, or for the device state. -/
theorem terminalFrame_discards {α : Type} {s : State} {st : StationId} {awaited : StationState} {o : Option α}
    {taken : α → State → State} {bad : Prop} (hp : s.powered = true) (hnone : bad → o = none)
    (h : bad ∨ (s.station st).transmitter ≠ [] ∨ s.device ≠ .operational) :
    (s.device = .operational → terminalFrame st awaited o taken s = s.latch .lineErrorStation) ∧
      (s.device ≠ .operational → terminalFrame st awaited o taken s = s) :=
  ⟨fun hd => terminalFrame_of_discarded hp hd (h.imp hnone fun h both => (h.resolve_right (· hd)) both.2),
    terminalFrame_of_not_operational⟩

theorem Station.close_of_idle {k : Station} (hp : k.present = true) (ht : k.transmitter = []) (c : CloseCode) :
    k.close c = { k with transmitter := [.close c] } := by
  rw [close, if_pos hp, ht]
  rfl

/-- A terminal sent away: CLOSE and DEPARTING (R115). -/
theorem Station.depart_of_idle {k : Station} (hp : k.present = true) (ht : k.transmitter = []) (c : CloseCode) :
    (k.close c).depart =
      { k with
        state := .departing, timer := .stopped, package := none, transmitter := [.close c]
        armed := if k.mode = .single then false else k.armed } := by
  rw [close_of_idle hp ht]
  unfold depart
  dsimp only
  cases k.mode <;> rfl

/-- A terminal that the station cannot serve, its transmitter idle (R139, R140). -/
theorem dismissTerminal_of_idle {e : Event} {s : State} {st : StationId} (hp : (s.station st).present = true)
    (ht : (s.station st).transmitter = []) :
    dismissTerminal e st s =
      { s.setStation st
          { s.station st with
            state := .departing, timer := .stopped, package := none, transmitter := [.close .notServed]
            armed := if (s.station st).mode = .single then false else (s.station st).armed } with
        events := { s.events with latched := s.events.latched ||| e.bit } } := by
  rw [dismissTerminal, State.modifyStation, Station.depart_of_idle hp ht]
  rfl

/-- Settles O57: the discards of R137, then the events of timers and transmissions by the station's state. -/
theorem stationLineEvents : Obligations.StationLineEvents := by
  refine ⟨fun s st p c hp hc => ?_, fun s st hp => ⟨fun ksi key tcv kind rest hst ht => ?_, fun f rest hf ht => ?_,
    fun left hst htimer hpres ht => ?_, fun hstop => ⟨?_, ?_⟩, fun p hd => ⟨fun hst => ?_, fun hst => ⟨?_, ?_⟩⟩⟩⟩
  · rcases hc with ⟨rfl, h⟩ | ⟨rfl, h⟩ | ⟨rfl, h⟩
    · exact (terminalFrame_discards hp identityOperands_eq_none h).imp (fun h hd => congrArg Host.Outcome.next (h hd))
        fun h hd => congrArg Host.Outcome.next (h hd)
    · exact (terminalFrame_discards hp receiptOperands_eq_none h).imp (fun h hd => congrArg Host.Outcome.next (h hd))
        fun h hd => congrArg Host.Outcome.next (h hd)
    · exact (terminalFrame_discards hp oneByte_eq_none h).imp (fun h hd => congrArg Host.Outcome.next (h hd))
        fun h hd => congrArg Host.Outcome.next (h hd)
  · refine congrArg Host.Outcome.next ((if_pos hp).trans (congrArg (s.setStation st) ?_))
    rw [packageSent, hst, ht]
  · refine congrArg Host.Outcome.next ((if_pos hp).trans (congrArg (s.setStation st) ?_))
    rw [frameSent, ht]
    rcases hf with rfl | ⟨c, rfl⟩ <;> rfl
  · refine congrArg Host.Outcome.next ((if_pos ⟨hp, hst, by rw [htimer]; rfl⟩).trans ?_)
    exact dismissTerminal_of_idle hpres ht
  · exact congrArg Host.Outcome.next (if_neg fun runs => by rw [hstop] at runs; cases runs.2.2)
  · exact congrArg Host.Outcome.next (if_neg fun runs => by rw [hstop] at runs; cases runs.2.2)
  · exact congrArg Host.Outcome.next (terminalFrame_of_discarded hp hd (.inr fun both => hst both.1))
  · exact congrArg Host.Outcome.next (terminalFrame_of_discarded hp hd (.inr fun both => hst both.1))
  · exact congrArg Host.Outcome.next (terminalFrame_of_discarded hp hd (.inr fun both => hst both.1))

end Sys2Proof.Machine

/-! # ABSENT (R117, R150) -/

namespace Sys2Proof.Machine

/-! ## The end of a terminal (R117) -/

namespace Station

variable {k : Station}

theorem endTerminal_of_rest (h : k.base = none ∨ k.armed = false ∨ k.disarmAfter = true) : k.endTerminal = k.rest := if_pos h

theorem endTerminal_of_waiting (hb : k.base ≠ none) (ha : k.armed = true) (hd : k.disarmAfter = false) :
    k.endTerminal = { k with state := .waiting, identity := none, package := none, timer := .stopped } := by
  rw [endTerminal, if_neg (by simp [hb, ha, hd]), ← hd]

/-- What the end of a terminal leaves does not hang on timer and package. -/
theorem endTerminal_of_ended (k : Station) (t : StationTimer) (p : Option Package) :
    { k with timer := t, package := p }.endTerminal = k.endTerminal := by
  unfold endTerminal
  split <;> rfl

end Station

/-! ## The disposal of a number that is OUTSTANDING (R38, R41, R43) -/

section
variable {a : Account} {iss : Issuance} {n : Nat}

theorem afterSettlement_of_outstanding (hpart : a.part = .base iss) (hl : a.state.isLive = true)
    (ho : iss.entry? n = some .outstanding) (k : Settlement) :
    a.afterSettlement k n = some { a with part := .base (iss.settle k n) } := by
  rw [Account.afterSettlement, hpart]
  exact if_pos ⟨hl, ho⟩

theorem returnable_iff : iss.returnable n = true ↔ n + 1 = iss.next ∧ iss.window.getLast? = some .outstanding := by
  simp [Issuance.returnable]

theorem afterDisposal_giveBack (hpart : a.part = .base iss) (hl : a.state.isLive = true) (ho : iss.entry? n = some .outstanding) :
    a.afterDisposal .giveBack n =
      some (if n + 1 = iss.next ∧ iss.window.getLast? = some .outstanding then
        { a with
          part := .base
            { iss with
              next := n, issued := iss.issued - 1, allowance := min (iss.allowance + 1) 65535,
              window := iss.window.dropLast }
          state := if a.state = .exhausted then .active else a.state }
      else { a with part := .base (iss.settle .void n) }) := by
  have decided : a.afterDisposal .giveBack n =
      if a.state.isLive ∧ iss.returnable n then some (a.afterReturn iss n) else a.afterSettlement .void n := by
    rw [Account.afterDisposal, hpart]
  rw [decided, afterSettlement_of_outstanding hpart hl ho]
  split
  · next h => rw [if_pos (returnable_iff.1 h.2)]; rfl
  · next h => rw [if_neg fun both => h ⟨hl, returnable_iff.2 both⟩]

/-- The disposal that R43 gives a package given up in a station's state. -/
theorem afterDisposal_of_state (hpart : a.part = .base iss) (hl : a.state.isLive = true) (ho : iss.entry? n = some .outstanding)
    (st : StationState) :
    a.afterDisposal (disposalIn st) n =
      some (if st = .preparing ∧ n + 1 = iss.next ∧ iss.window.getLast? = some .outstanding then
        { a with
          part := .base
            { iss with
              next := n, issued := iss.issued - 1, allowance := min (iss.allowance + 1) 65535,
              window := iss.window.dropLast }
          state := if a.state = .exhausted then .active else a.state }
      else { a with part := .base (iss.settle .void n) }) := by
  by_cases h : st = .preparing
  · subst h
    simp only [true_and]
    exact afterDisposal_giveBack hpart hl ho
  · have void : disposalIn st = .void := by
      cases st with
      | preparing => exact absurd rfl h
      | _ => rfl
    rw [void, if_neg fun all => h all.1]
    exact afterSettlement_of_outstanding hpart hl ho .void

end

/-- A package given up on a record that passes its read-check and has no waiting list, where the number is disposed of (R43). -/
theorem surrender_of_disposal {d : Disposal} {st : StationId} {p x : Package} {f : Station → Station} {s : State} {a b : Account}
    (hr : (s.slot p.base).readable = true) (ha : s.account p.base = some a) (hb : a.afterDisposal d p.number = some b)
    (hp : (s.station st).package = some x) (hw : (s.slot p.base).waiting = []) :
    surrender d st p (fun s => s.modifyStation st f) s =
      (s.setSlot p.base ((s.slot p.base).write b (s.slot p.base).secret)).setStation st
        (f { s.station st with package := none }) := by
  have disposed := disposeNumber_eq (d := d) (n := p.number) ha hb
  rw [surrender_of_readable hr hp, disposed]
  · simp only [State.modifyStation, station_setStation_self, setStation_setStation]
    rfl
  · rw [disposed]
    simpa [State.modifyStation, Slot.write] using hw

/-- A station's last value stands, whatever slot is changed between. -/
theorem setStation_setSlot_setStation (s : State) (st : StationId) (k k' : Station) (i : SlotId) (x : Slot) :
    ((s.setStation st k).setSlot i x).setStation st k' = (s.setSlot i x).setStation st k' := by
  simp [State.setStation, State.setSlot]

theorem mem_package_states {x : StationState} (h : x ∈ [StationState.preparing, .sending, .awaitingReceipt]) :
    x = .preparing ∨ x = .sending ∨ x = .awaitingReceipt := by simpa using h

section
variable {s : State} {st : StationId}

/-- ABSENT without main use of the table: the presence field alone (R135, R150). -/
theorem exec_absent (hp : s.powered = true) (ha : (s.station st).present = true) :
    exec (.absent st) s = .next
      (if s.device = .operational then removeTerminal st (s.setStation st { s.station st with present := false })
       else s.setStation st { s.station st with present := false }) :=
  congrArg Host.Outcome.next (if_pos ⟨hp, ha⟩)

theorem removeTerminal_of_idle (h : (s.station st).state ∈ [StationState.unbound, .bound, .waiting]) : removeTerminal st s = s := by
  simp only [List.mem_cons, List.not_mem_nil, or_false] at h
  rcases h with h | h | h <;> rw [removeTerminal, h]

theorem removeTerminal_of_held (h : (s.station st).state = .held) : removeTerminal st s = s.modifyStation st (·.silence) := by
  rw [removeTerminal, h]

theorem removeTerminal_of_dialogue (h : (s.station st).state = .identifying ∨ (s.station st).state = .departing) :
    removeTerminal st s = s.modifyStation st fun k => k.silence.endTerminal := by
  rcases h with h | h <;> rw [removeTerminal, h]

theorem leaveWaitingList_of_base {i : SlotId} (hb : (s.station st).base = some i) :
    leaveWaitingList st s = s.setSlot i { s.slot i with waiting := (s.slot i).waiting.filter (· ≠ st) } := by
  rw [leaveWaitingList, hb]
  rfl

theorem removeTerminal_of_stalled (h : (s.station st).state = .stalled) :
    removeTerminal st s = (leaveWaitingList st s).modifyStation st (·.endTerminal) := by
  rw [removeTerminal, h]

theorem removeTerminal_of_package (h : (s.station st).state ∈ [StationState.preparing, .sending, .awaitingReceipt]) {p : Package}
    (hp : (s.station st).package = some p) :
    removeTerminal st s =
      settleEngine (surrender (disposalIn (s.station st).state) st p (fun s => s.modifyStation st (·.endTerminal))
        (stopWork st s)) := by
  rcases mem_package_states h with h | h | h <;> rw [removeTerminal, h] <;> simp only [removePackage, hp, h]

/-- The work of a station with a package is ended on its terminal's removal (R150). -/
theorem removeTerminal_of_disposal (h : (s.station st).state ∈ [StationState.preparing, .sending, .awaitingReceipt]) {p : Package}
    (hp : (s.station st).package = some p) (hr : (s.slot p.base).readable = true) {a b : Account} (ha : s.account p.base = some a)
    (hb : a.afterDisposal (disposalIn (s.station st).state) p.number = some b) (hw : (s.slot p.base).waiting = []) :
    removeTerminal st s =
      settleEngine
        { (s.setSlot p.base ((s.slot p.base).write b (s.slot p.base).secret)).setStation st
            { s.station st with transmitter := [], package := none }.endTerminal with
          engine := s.engine.abandon fun j => j.requester == .station st } := by
  have stopped : (stopWork st s).station st = (s.station st).stop := station_modifyStation_self ..
  rw [removeTerminal_of_package h hp,
    surrender_of_disposal (s := stopWork st s) (x := p) hr ha hb (by rw [stopped]; exact hp) hw, stopped]
  refine congrArg settleEngine ((setStation_setSlot_setStation _ st _ _ _ _).trans ?_)
  rw [← Station.endTerminal_of_ended { s.station st with transmitter := [], package := none } .stopped none]
  rfl

end

/-- Settles O52: ABSENT by the station's state. -/
theorem absentEndsTerminal : Obligations.AbsentEndsTerminal := by
  refine ⟨fun k => ⟨fun hb => ?_, fun hb h => ?_, fun hb ha hd => Station.endTerminal_of_waiting hb ha hd⟩, fun s st hp hpres =>
    ⟨fun h => ?_, fun hd => ⟨fun h => ?_, fun h => ?_, fun i h hb => ?_, fun p a h hpack ha hr hw iss hpart hl ho => ?_⟩⟩⟩
  · rw [Station.endTerminal_of_rest (.inl hb), Station.rest, hb]
  · rw [Station.endTerminal_of_rest (.inr h), Station.rest_eq]
    exact ⟨if_neg hb, rfl, rfl⟩
  · rw [exec_absent hp hpres]
    split
    · next hd =>
      rw [removeTerminal_of_idle]
      rw [station_setStation_self]
      exact h.resolve_left (not_not.2 hd)
    · rfl
  all_goals rw [exec_absent hp hpres, if_pos hd]
  · rw [removeTerminal_of_dialogue (by rw [station_setStation_self]; exact h), State.modifyStation, station_setStation_self,
      setStation_setStation]
    rfl
  · rw [removeTerminal_of_held (by rw [station_setStation_self]; exact h), State.modifyStation, station_setStation_self,
      setStation_setStation]
    rfl
  · have gone := station_setStation_self (s := s) st { s.station st with present := false }
    rw [removeTerminal_of_stalled (by rw [gone]; exact h), leaveWaitingList_of_base (by rw [gone]; exact hb), State.modifyStation,
      setStation_setSlot_setStation]
    refine congrArg (fun k : Station => Host.Outcome.next (State.setStation _ st k.endTerminal)) ?_
    exact gone
  · have gone := station_setStation_self (s := s) st { s.station st with present := false }
    have disposed := afterDisposal_of_state hpart hl ho (s.station st).state
    rw [removeTerminal_of_disposal (s := s.setStation st { s.station st with present := false }) (p := p) (a := a)
      (by rw [gone]; exact h) (by rw [gone]; exact hpack) hr ha (by rw [gone]; exact disposed) hw, gone,
      setStation_setSlot_setStation]
    rfl

end Sys2Proof.Machine

/-! # IDENTITY (R33, R34, R44, R140 to R142) -/

namespace Sys2Proof.Machine

/-! ## The tests of R33 -/

section
variable {a : Account} {iss : Issuance}

/-- A record that has no number to give (R33). -/
def Account.Barren (a : Account) (iss : Issuance) : Prop :=
  a.state ≠ .active ∨ a.has .issue = false ∨ iss.next > iss.last ∨ iss.allowance = 0

theorem takeVerdict_of_barren (h : a.Barren iss) : a.takeVerdict iss = .noNumber := by
  unfold Account.takeVerdict
  split
  · rfl
  · next hst =>
    split
    · rfl
    · next hi =>
      split
      · rfl
      · next hn => exact if_pos (((h.resolve_left hst).resolve_left (by simpa using hi)).resolve_left hn)

theorem takeVerdict_of_fertile (hst : a.state = .active) (hi : a.has .issue = true) (hn : iss.next ≤ iss.last)
    (hallow : iss.allowance ≠ 0) : a.takeVerdict iss = if iss.next - iss.floor = 16 then .stall else .number := by
  rw [Account.takeVerdict, if_neg (not_not.2 hst), if_neg (not_not.2 hi), if_neg (Nat.not_lt.2 hn), if_neg hallow]
  rfl

end

/-! ## The transport lookup (R13, R141) -/

section
variable {s : State} {t : TerminalId} {a : Account} {base : SlotId}

/-- The record serves terminals of the model class (R13). -/
def State.ServedBy (s : State) (t : TerminalId) (j : SlotId) (x : Account) : Prop :=
  s.account j = some x ∧ x.state = .active ∧ x.part = .transport t.model

/-- The lowest record that serves the terminal's model class wraps (R141). -/
def State.WrappedBy (s : State) (t : TerminalId) (j : SlotId) : Prop :=
  ∃ x, s.ServedBy t j x ∧ x.has .wrap = true ∧ ∀ j' x', j' < j → ¬ s.ServedBy t j' x'

/-- No record wraps for the terminal (R141). -/
def State.NoWrap (s : State) (t : TerminalId) : Prop := ∀ j x, s.ServedBy t j x → x.has .wrap = false

theorem transportLookup_of_sound {q : Quarantine} {busy : List SlotId} (h : s.Sound) :
    transportLookup q busy base t s =
      (s, protectionOf (s.account base) ((allSlots.find? fun i => (s.account i).any (servesModel t.model)).bind s.account)
        (allSlots.find? fun i => (s.account i).any (servesModel t.model)) t) := by
  unfold transportLookup searchTable
  rw [searchIn_of_sound h]

theorem transportLookup_of_wrapped {q : Quarantine} {busy : List SlotId} (h : s.Sound) {j : SlotId} (hj : s.WrappedBy t j) :
    transportLookup q busy base t s = (s, .wrapped j) := by
  obtain ⟨x, ⟨hx, hst, hpart⟩, hwrap, hfirst⟩ := hj
  have found := find?_allSlots_eq_some (p := fun i => (s.account i).any (servesModel t.model)) (i := j)
    (by rw [hx]; exact servesModel_iff.2 ⟨hst, hpart⟩) fun j' hj' => by
      cases hy : s.account j' with
      | none => rfl
      | some y =>
        rw [Option.any_some, ← Bool.not_eq_true, servesModel_iff]
        exact fun both => hfirst j' y hj' ⟨hy, both.1, both.2⟩
  rw [transportLookup_of_sound h, found, Option.bind_some, hx, protectionOf, if_pos hwrap]

theorem protectionOf_of_noWrap (h : s.NoWrap t) (hb : s.account base = some a) :
    protectionOf (s.account base) ((allSlots.find? fun i => (s.account i).any (servesModel t.model)).bind s.account)
        (allSlots.find? fun i => (s.account i).any (servesModel t.model)) t =
      if a.has .clear ∧ t.acceptsClear then .clear else .noTransport := by
  have clearOr : protectionOf.clearOr (some a) t = if a.has .clear ∧ t.acceptsClear then .clear else .noTransport := rfl
  rw [hb, ← clearOr]
  cases hj : allSlots.find? fun i => (s.account i).any (servesModel t.model) with
  | none => rfl
  | some j =>
    cases hx : s.account j with
    | none =>
      rw [Option.bind_some, hx]
      rfl
    | some x =>
      have serves := List.find?_some hj
      rw [hx, Option.any_some, servesModel_iff] at serves
      rw [Option.bind_some, hx, protectionOf]
      exact if_neg (by rw [h j x ⟨hx, serves⟩]; decide)

theorem transportLookup_of_noWrap {q : Quarantine} {busy : List SlotId} (hs : s.Sound) (h : s.NoWrap t)
    (hb : s.account base = some a) :
    transportLookup q busy base t s = (s, if a.has .clear ∧ t.acceptsClear then .clear else .noTransport) := by
  rw [transportLookup_of_sound hs, protectionOf_of_noWrap h hb]

/-- A lookup that finds a protection names it as the package does. -/
theorem transportLookup_of_transport {q : Quarantine} {busy : List SlotId} (hs : s.Sound) (hb : s.account base = some a)
    {transport : Option SlotId} (hw : ∀ j, transport = some j → s.WrappedBy t j)
    (hc : transport = none → s.NoWrap t ∧ a.has .clear = true ∧ t.acceptsClear = true) :
    ∃ p : Protection, transportLookup q busy base t s = (s, p) ∧ p ≠ .noTransport ∧ p.slot = transport := by
  cases transport with
  | some j => exact ⟨.wrapped j, transportLookup_of_wrapped hs (hw j rfl), nofun, rfl⟩
  | none =>
    obtain ⟨noWrap, clear⟩ := hc rfl
    exact ⟨.clear, by rw [transportLookup_of_noWrap hs noWrap hb, if_pos clear], nofun, rfl⟩

end

/-! ## A number taken (R34 to R37, R142) -/

/-- A take from an ACTIVE record (R34, R35). -/
theorem afterTake_of_active {a : Account} {iss : Issuance} (hst : a.state = .active) :
    a.afterTake iss =
      { a with
        part := .base
          { iss with
            next := iss.next + 1, allowance := iss.allowance - 1, issued := iss.issued + 1,
            window := iss.window ++ [.outstanding] }
        state := if iss.next = iss.last then .exhausted else .active } := by
  have last : iss.takeNext.next = iss.last + 1 ↔ iss.next = iss.last := Nat.succ_inj
  simp only [Account.afterTake, last, hst]
  rfl

/-- What a take latches (R35, R48). -/
def takeLatches (s : State) (iss : Issuance) : BitVec 19 :=
  s.events.latched ||| (if iss.next = iss.last then Event.recordExhausted.bit else 0) |||
    (if s.console.settings.allowanceLow ≤ iss.allowance ∧ iss.allowance - 1 < s.console.settings.allowanceLow then
      Event.allowanceLow.bit else 0)

theorem takeNumber_eq {i : SlotId} {st : StationId} {p : Protection} {a : Account} {iss : Issuance} {s : State} {t : TerminalId}
    (ht : (s.station st).identity = some t) :
    takeNumber i st p a iss s =
      { (s.setSlot i ((s.slot i).write (a.afterTake iss) (s.slot i).secret)).setStation st
          { s.station st with
            state := .preparing, timer := .stopped
            package := some
              { base := i, number := iss.next, ksi := ksiOf iss.issuer iss.next, transport := p.slot, expected := none } } with
        engine :=
          { s.engine with
            queue := s.engine.queue ++ [.package st i iss.next (ksiOf iss.issuer iss.next) t.serial p.slot] }
        events := { s.events with latched := takeLatches s iss } } := by
  have latchIf (c : Prop) [Decidable c] (s : State) (e : Event) : (if c then s.latch e else s) =
      { s with events := { s.events with latched := s.events.latched ||| if c then e.bit else 0 } } := by
    split
    · rfl
    · simp
  unfold takeNumber
  simp only [latchIf]
  have serial : (match (s.station st).identity with | some t => t.serial | none => 0) = t.serial := by rw [ht]
  rw [← serial]
  rfl

/-! ## A terminal that is not suited (R140) -/

theorem unsuited_iff {t : TerminalId} {a : Account} :
    unsuited t a = true ↔ ¬ (t.model ≠ 0 ∧ (a.keyLength = .bytes16 ∨ t.supports32 = true)) := by
  unfold unsuited
  cases a.keyLength <;> cases t.supports32 <;> simp

/-! ## IDENTITY taken (R140 to R142) -/

theorem identityOperands_of_length {p : Payload} (h : p.length = 11) :
    identityOperands p =
      some
        { serial := BitVec.ofNat 64 (natOfBytes (p.take 8)), model := BitVec.ofNat 16 (natOfBytes ((p.drop 8).take 2)),
          acceptsClear := (p.getD 10 0).getLsbD 0, supports32 := (p.getD 10 0).getLsbD 1 } := if_pos h

section
variable {s : State} {st : StationId} {i : SlotId} {a : Account} {iss : Issuance} {t : TerminalId}

/-- The station after its terminal's IDENTITY was heard (R140). -/
def Station.identified (k : Station) (t : TerminalId) : Station := { k with timer := .stopped, identity := some t }

/-- A taken IDENTITY whose records pass their read-checks. -/
theorem takeIdentity_of_sound (hs : s.Sound) (hst : (s.station st).state = .identifying) (hb : (s.station st).base = some i)
    (ha : s.account i = some a) :
    takeIdentity st t s =
      settleEngine
        (if unsuited t a then dismissTerminal .terminalUnsuited st (s.setStation st ((s.station st).identified t))
         else serveTerminal i st t (s.setStation st ((s.station st).identified t))) := by
  have heard : (s.modifyStation st fun k => { k with timer := .stopped, identity := some t }) =
      s.setStation st ((s.station st).identified t) := rfl
  have passes : check i (s.setStation st ((s.station st).identified t)) = s.setStation st ((s.station st).identified t) :=
    check_of_readable (hs i)
  have state : ((s.setStation st ((s.station st).identified t)).station st).state = .identifying := by
    rw [station_setStation_self]
    exact hst
  have account : (s.setStation st ((s.station st).identified t)).account i = some a := ha
  simp only [takeIdentity, heard, hb, passes, state, account, if_true]

theorem takeAtIdentity_of_base {p : Protection} (ha : s.account i = some a) (hpart : a.part = .base iss) :
    takeAtIdentity i st p s =
      match a.takeVerdict iss with
      | .noNumber => refuseService .noNumber st s
      | .stall => stallStation i st s
      | .number => takeNumber i st p a iss s := by
  have issuance : a.issuance = some iss := by rw [Account.issuance, hpart]
  simp only [takeAtIdentity, ha, issuance] <;> cases a.takeVerdict iss <;> rfl

theorem serveTerminal_of_protection {p : Protection} (hl : transportLookup quarantine [] i t s = (s, p)) (hp : p ≠ .noTransport) :
    serveTerminal i st t s = takeAtIdentity i st p s := by
  unfold serveTerminal
  rw [hl]
  cases p with
  | noTransport => exact absurd rfl hp
  | wrapped j => rfl
  | clear => rfl

theorem serveTerminal_of_noTransport (hl : transportLookup quarantine [] i t s = (s, .noTransport)) :
    serveTerminal i st t s = refuseService .noTransport st s := by
  unfold serveTerminal
  rw [hl]

theorem settled_refuseService (he : s.engine.Settled) (c : HoldCondition) (st : StationId) :
    settleEngine (refuseService c st s) = refuseService c st s :=
  settleEngine_of_settled (by rw [refusedServiceHolds s st c]; exact he)

end

theorem exec_identity {s : State} {st : StationId} {p : Payload} {t : TerminalId} (hp : s.powered = true)
    (hd : s.device = .operational) (ht : identityOperands p = some t) (hst : (s.station st).state = .identifying)
    (htx : (s.station st).transmitter = []) : exec (.identity st p) s = .next (takeIdentity st t s) :=
  congrArg Host.Outcome.next (terminalFrame_of_taken hp hd ht hst htx)

/-- Settles O54: the suitability of R140, then the lookup of R141, then the tests of R33. -/
theorem identityServed : Obligations.IdentityServed := by
  intro s st p i a iss hp hd hsound he hlen hst htx hpres hb ha hpart t k serves wrapped noWrap clear suited
  have heard : exec (.identity st p) s = .next (settleEngine
      (if unsuited t a then dismissTerminal .terminalUnsuited st (s.setStation st k)
       else serveTerminal i st t (s.setStation st k))) :=
    (exec_identity hp hd (identityOperands_of_length hlen) hst htx).trans
      (congrArg Host.Outcome.next (takeIdentity_of_sound hsound hst hb ha))
  have identified : (s.setStation st k).station st = k := station_setStation_self ..
  refine ⟨fun hunsuited => ?_, fun hsuited hno hclear => ?_, fun hsuited hprot => ?_⟩
  · rw [heard, if_pos (unsuited_iff.2 hunsuited),
      settleEngine_of_settled (show (dismissTerminal _ st (s.setStation st k)).engine.Settled from he),
      dismissTerminal_of_idle (s := s.setStation st k) (by rw [identified]; exact hpres) (by rw [identified]; exact htx), identified]
    refine congrArg Host.Outcome.next ?_
    rw [setStation_setStation]
    rfl
  all_goals
    have served : exec (.identity st p) s = .next (settleEngine (serveTerminal i st t (s.setStation st k))) := by
      rw [heard, if_neg fun h => unsuited_iff.1 h hsuited]
    have soundHeard : (s.setStation st k).Sound := hsound
  · have lookup := transportLookup_of_noWrap (s := s.setStation st k) (q := quarantine) (busy := []) soundHeard hno ha
    rw [if_neg hclear] at lookup
    rw [served, serveTerminal_of_noTransport lookup, settled_refuseService (s := s.setStation st k) he]
  have taken {q : Protection} (lookup : transportLookup quarantine [] i t (s.setStation st k) = (s.setStation st k, q))
      (hq : q ≠ .noTransport) : exec (.identity st p) s = .next (settleEngine (match a.takeVerdict iss with
        | .noNumber => refuseService .noNumber st (s.setStation st k)
        | .stall => stallStation i st (s.setStation st k)
        | .number => takeNumber i st q a iss (s.setStation st k))) := by
    rw [served, serveTerminal_of_protection lookup hq, takeAtIdentity_of_base (s := s.setStation st k) ha hpart]
  obtain ⟨q, lookup, hq⟩ : ∃ q, transportLookup quarantine [] i t (s.setStation st k) = (s.setStation st k, q) ∧
      q ≠ .noTransport := by
    rcases hprot with ⟨j, hj⟩ | ⟨hno, hclear⟩
    · exact ⟨.wrapped j, transportLookup_of_wrapped soundHeard hj, nofun⟩
    · exact ⟨.clear, by rw [transportLookup_of_noWrap (s := s.setStation st k) soundHeard hno ha, if_pos hclear], nofun⟩
  refine ⟨fun hbarren => ?_, fun hact hi hn hallow => ⟨fun hfull => ?_, fun hroom transport hw hc => ?_⟩⟩
  · rw [taken lookup hq, takeVerdict_of_barren hbarren]
    exact congrArg Host.Outcome.next (settled_refuseService (s := s.setStation st k) he _ _)
  · have stalled : stallStation i st (s.setStation st k) =
        { (s.setSlot i { s.slot i with waiting := (s.slot i).waiting ++ [st] }).setStation st { k with state := .stalled } with
          events := { s.events with latched := s.events.latched ||| Event.windowStall.bit } } := by
      have joined : stallStation i st (s.setStation st k) = (((s.setStation st k).setSlot i
          { s.slot i with waiting := (s.slot i).waiting ++ [st] }).setStation st
            { (s.setStation st k).station st with state := .stalled }).latch .windowStall := rfl
      rw [joined, identified, setStation_setSlot_setStation]
      rfl
    rw [taken lookup hq, takeVerdict_of_fertile hact hi hn hallow, if_pos hfull]
    dsimp only
    rw [stalled]
    exact congrArg Host.Outcome.next (settleEngine_of_settled he)
  · obtain ⟨q, lookup, hq, slot⟩ := transportLookup_of_transport (s := s.setStation st k) (q := quarantine) (busy := []) soundHeard
      ha hw hc
    refine ⟨_, ?_, rfl⟩
    rw [taken lookup hq, takeVerdict_of_fertile hact hi hn hallow, if_neg hroom]
    dsimp only
    rw [takeNumber_eq (s := s.setStation st k) (t := t) (by rw [identified]), identified, setStation_setSlot_setStation, slot,
      afterTake_of_active hact]
    rfl

end Sys2Proof.Machine

/-! # RECEIPT, REFUSE and the receipt timer (R40, R46, R143, R146 to R148) -/

namespace Sys2Proof.Machine

/-! ## The secret of a record that was written (R154, R155) -/

theorem blockWords_append (b : Block) : ∃ w x y z, blockWords b = [w, x, y, z] ∧ w ++ x ++ y ++ z = b := by
  refine ⟨_, _, _, _, rfl, ?_⟩
  have join (start len start' : Nat) (h : start' = start + 32) :
      b.extractLsb' start' len ++ b.extractLsb' start 32 = b.extractLsb' start (len + 32) :=
    BitVec.extractLsb'_append_extractLsb'_eq_extractLsb' h
  rw [join 64 32 96 rfl, join 32 64 64 rfl, join 0 96 32 rfl]
  exact BitVec.extractLsb'_eq_self

theorem Key.ofWords_words (k : Key) (rest : List Word32) : Key.ofWords k.length (k.words ++ rest) = some k := by
  cases k with
  | k16 b =>
    obtain ⟨w, x, y, z, words, hb⟩ := blockWords_append b
    simp only [Key.words, words, Key.length, List.cons_append, Key.ofWords, hb]
  | k32 b c =>
    obtain ⟨w, x, y, z, words, hb⟩ := blockWords_append b
    obtain ⟨w', x', y', z', words', hc⟩ := blockWords_append c
    simp only [Key.words, words, words', Key.length, List.cons_append, List.nil_append, Key.ofWords, hb, hc]

theorem Key.length_of_ofWords {n : KeyLength} {l : List Word32} {k : Key} (h : Key.ofWords n l = some k) : k.length = n := by
  unfold Key.ofWords at h
  split at h
  · cases h; rfl
  · cases h; rfl
  · cases h

/-- What is read from a record is what was written. -/
theorem secret_write {sl : Slot} {a : Account} {key : Key} (hl : key.length = a.keyLength) (hs : a.state.hasSecret = true) :
    (sl.write a (some key)).secret = some key := by
  have words : (sl.write a (some key)).words = key.words ++ (a.fieldWords ++ [0xFFFFFFFF - wordSum (recordBody a (some key))]) := by
    simp [Slot.write, recordWords, closeWords, recordBody]
  rw [Slot.secret, show (sl.write a (some key)).account = some a from rfl]
  dsimp only
  rw [if_pos hs, words, ← hl, Key.ofWords_words]

/-- A secret is as long as the record says. -/
theorem length_of_secret {sl : Slot} {a : Account} {key : Key} (ha : sl.account = some a) (hk : sl.secret = some key) :
    key.length = a.keyLength := by
  rw [Slot.secret, ha] at hk
  exact Key.length_of_ofWords (Option.ite_none_right_eq_some.1 hk).2

/-! ## A number settled at the end of a dialogue -/

section
variable {s : State} {st : StationId} {p : Package} {a : Account} {iss : Issuance}

/-- The station once its timer was stopped and its package given up. -/
def Station.settled (k : Station) : Station := { k with timer := .stopped, package := none }

/-- The record and the station once a number was settled and the timer stopped. -/
theorem disposeNumber_of_stopTimer {d : Disposal} {b : Account} (ha : s.account p.base = some a)
    (hb : a.afterDisposal d p.number = some b) :
    (disposeNumber d p.base p.number (stopTimer st s)).modifyStation st (fun k => { k with package := none }) =
      (s.setSlot p.base ((s.slot p.base).write b (s.slot p.base).secret)).setStation st (s.station st).settled := by
  have stopped : (stopTimer st s).station st = { s.station st with timer := .stopped } := station_modifyStation_self ..
  rw [disposeNumber_eq (s := stopTimer st s) ha hb, State.modifyStation]
  refine (setStation_setSlot_setStation s st _ _ _ _).trans ?_
  rw [show ((stopTimer st s).setSlot p.base _).station st = (stopTimer st s).station st from rfl, stopped]
  rfl

/-- A number settled with the station's timer stopped. -/
theorem surrender_of_stopTimer {d : Disposal} {b : Account} {after : State → State} (hr : (s.slot p.base).readable = true)
    (ha : s.account p.base = some a) (hb : a.afterDisposal d p.number = some b) (hp : (s.station st).package = some p)
    (hw : (s.slot p.base).waiting = []) (hafter : ∀ t, (after t).table = t.table) :
    surrender d st p after (stopTimer st s) =
      after ((s.setSlot p.base ((s.slot p.base).write b (s.slot p.base).secret)).setStation st (s.station st).settled) := by
  have stopped : (stopTimer st s).station st = { s.station st with timer := .stopped } := station_modifyStation_self ..
  rw [surrender_of_readable (s := stopTimer st s) (x := p) hr (by rw [stopped]; exact hp), disposeNumber_of_stopTimer ha hb]
  rw [disposeNumber_of_stopTimer ha hb, State.slot, hafter]
  exact (congrArg Slot.waiting (slot_setSlot_self s p.base _)).trans hw

theorem takeReceipt_of_package {r : BitVec 64 × BitVec 24} (hp : (s.station st).package = some p) :
    takeReceipt st r s =
      settleEngine (if p.matchedBy r then surrender .confirm st p (acceptReceipt st) (stopTimer st s)
        else surrender .void st p (voidAndHold .receiptMismatch st) (stopTimer st s)) := by
  simp only [takeReceipt, hp]

theorem takeRefusal_of_package (hp : (s.station st).package = some p) :
    takeRefusal st s = settleEngine (surrender .void st p (acceptRefusal st) (stopTimer st s)) := by
  simp only [takeRefusal, hp]

theorem expireReceipt_of_package (hp : (s.station st).package = some p) :
    expireReceipt st s = settleEngine (surrender .void st p (voidAndHold .receiptTimeout st) (stopTimer st s)) := by
  simp only [expireReceipt, hp]

theorem hold_table (c : HoldCondition) (st : StationId) (s : State) : (hold c st s).table = s.table := by
  rw [hold_eq]
  rfl

end

theorem receiptOperands_of_length {r : Payload} (h : r.length = 11) :
    receiptOperands r = some (BitVec.ofNat 64 (natOfBytes (r.take 8)), BitVec.ofNat 24 (natOfBytes ((r.drop 8).take 3))) :=
  if_pos h

theorem matchedBy_iff {p : Package} {r : BitVec 64 × BitVec 24} : p.matchedBy r = true ↔ r.1 = p.ksi ∧ some r.2 = p.expected := by
  simp only [Package.matchedBy, Bool.and_eq_true, beq_iff_eq]
  exact and_congr eq_comm eq_comm

theorem HoldCondition.bit_ne_zero (c : HoldCondition) : ¬ (0 &&& c.bit = c.bit) := by
  cases c <;> decide

/-- A station that is sent away after its number was voided, held with its first condition. -/
theorem voidAndHold_of_idle {c : HoldCondition} {st : StationId} {s : State} {k : Station} (hp : k.present = true)
    (ht : k.transmitter = []) (hh : k.holds = 0) :
    voidAndHold c st (s.setStation st k.settled) =
      { s.setStation st
          { k with
            state := .held, timer := .stopped, package := none, transmitter := [.close .voided], holds := c.bit,
            identity := none, armed := false, disarmAfter := false } with
        events := { s.events with latched := s.events.latched ||| Event.stationHeld.bit } } := by
  have left : (k.settled.close .voided).hold c =
      { k with
        state := .held, timer := .stopped, package := none, transmitter := [.close .voided], holds := c.bit,
        identity := none, armed := false, disarmAfter := false } := by
    rw [Station.close_of_idle (k := k.settled) hp ht, Station.hold, show k.settled.holds ||| c.bit = c.bit by
      rw [show k.settled.holds = 0 from hh]; exact BitVec.zero_or]
    rfl
  have fresh : ¬ (k.settled.holds &&& c.bit = c.bit) := by
    rw [show k.settled.holds = 0 from hh]
    exact c.bit_ne_zero
  rw [voidAndHold, hold_placeClose, station_setStation_self, setStation_setStation, left, if_neg fresh]
  rfl

theorem acceptReceipt_of_idle {st : StationId} {s : State} {k : Station} (hp : k.present = true) (ht : k.transmitter = []) :
    acceptReceipt st (s.setStation st k.settled) =
      s.setStation st
        { k with
          state := .departing, timer := .stopped, package := none, transmitter := [.close .accepted]
          armed := if k.mode = .single then false else k.armed } := by
  rw [acceptReceipt, State.modifyStation, station_setStation_self, setStation_setStation,
    Station.depart_of_idle (k := k.settled) hp ht]
  rfl

theorem acceptRefusal_of_idle {st : StationId} {s : State} {k : Station} (hp : k.present = true) (ht : k.transmitter = []) :
    acceptRefusal st (s.setStation st k.settled) =
      { s.setStation st
          { k with
            state := .departing, timer := .stopped, package := none, transmitter := [.close .voided]
            armed := if k.mode = .single then false else k.armed } with
        events := { s.events with latched := s.events.latched ||| Event.terminalRefused.bit } } := by
  rw [acceptRefusal, State.modifyStation, station_setStation_self, setStation_setStation,
    Station.depart_of_idle (k := k.settled) hp ht]
  rfl

/-! ## Room that opens (R40, R46, R143) -/

section
variable {s : State} {i : SlotId} {st w : StationId} {a : Account} {iss : Issuance} {t : TerminalId}

theorem windowLength_of_base (ha : s.account i = some a) (hpart : a.part = .base iss) : windowLength i s = iss.windowLength := by
  simp only [windowLength, ha, hpart]

/-- A package given up on a record whose window was full and has room now, while one station waits. -/
theorem surrender_of_room {d : Disposal} {p x : Package} {after : State → State} {u : State}
    (hr : (s.slot p.base).readable = true) (hp : (s.station st).package = some x) (hfull : windowFull p.base s = true)
    (hu : after ((disposeNumber d p.base p.number s).modifyStation st fun k => { k with package := none }) = u)
    (hroom : windowLength p.base u < Config.windowSize) (hw : (u.slot p.base).waiting = [w]) :
    surrender d st p after s =
      serveStation quarantine [] p.base w (u.setSlot p.base { u.slot p.base with waiting := [] }) := by
  subst hu
  simp only [surrender, giveUp, readCheck_of_readable hr, hp, openRoom, hfull, hroom, List.not_mem_nil, not_false_eq_true,
    and_self, if_true, hw, List.length_singleton, serveList]
  rfl

theorem serveStation_of_barren {busy : List SlotId} (ha : s.account i = some a) (hpart : a.part = .base iss)
    (ht : (s.station w).identity = some t) (h : a.Barren iss) :
    serveStation quarantine busy i w s = refuseService .noNumber w s := by
  have issuance : a.issuance = some iss := by rw [Account.issuance, hpart]
  simp only [serveStation, ha, ht, issuance, takeVerdict_of_barren h, if_true]

theorem serveStation_of_noTransport {busy : List SlotId} (ha : s.account i = some a) (hpart : a.part = .base iss)
    (ht : (s.station w).identity = some t) (hv : a.takeVerdict iss = .number)
    (hl : transportLookup quarantine (i :: busy) i t s = (s, .noTransport)) :
    serveStation quarantine busy i w s = refuseService .noTransport w s := by
  have issuance : a.issuance = some iss := by rw [Account.issuance, hpart]
  simp only [serveStation, ha, ht, issuance, hv, reduceCtorEq, if_false, hl]

theorem serveStation_of_protection {busy : List SlotId} {q : Protection} (ha : s.account i = some a) (hpart : a.part = .base iss)
    (ht : (s.station w).identity = some t) (hv : a.takeVerdict iss = .number)
    (hl : transportLookup quarantine (i :: busy) i t s = (s, q)) (hq : q ≠ .noTransport) :
    serveStation quarantine busy i w s = takeNumber i w q a iss s := by
  have issuance : a.issuance = some iss := by rw [Account.issuance, hpart]
  cases q with
  | noTransport => exact absurd rfl hq
  | wrapped j | clear => simp only [serveStation, ha, ht, issuance, hv, reduceCtorEq, if_false, hl, if_true]

/-- A base record serves no terminal, whatever its issuance part. -/
theorem servedBy_setSlot_base {x : Slot} {b : Account} (ha : s.account i = some a) (hx : x.account = some b)
    (hbase : a.part.isBase = true) (hbase' : b.part.isBase = true) (j : SlotId) (y : Account) :
    (s.setSlot i x).ServedBy t j y ↔ s.ServedBy t j y := by
  unfold State.ServedBy State.account
  rw [slot_setSlot]
  split
  · next h =>
    subst h
    constructor
    · rintro ⟨hy, -, hpart⟩
      rw [hx] at hy
      cases hy
      rw [hpart] at hbase'
      cases hbase'
    · rintro ⟨hy, -, hpart⟩
      rw [show (s.slot j).account = some a from ha] at hy
      cases hy
      rw [hpart] at hbase
      cases hbase
  · rfl

end

/-- A window that was full has room once its front number is confirmed (R39). -/
theorem windowLength_settle {iss : Issuance} {n : Nat} (hlen : iss.next = iss.floor + 16) (hfront : iss.window.head? = some .outstanding)
    (hn : n = iss.floor) : (iss.settle .confirm n).windowLength < 16 := by
  obtain ⟨rest, hwin⟩ : ∃ rest, iss.window = .outstanding :: rest := by
    cases hw : iss.window with
    | nil => rw [hw] at hfront; cases hfront
    | cons e rest => rw [hw] at hfront; cases hfront; exact ⟨rest, rfl⟩
  have floor : (iss.settle .confirm n).floor = iss.floor + (settledFront rest + 1) := by
    subst hn
    simp only [Issuance.settle, Issuance.advance, hwin, Nat.sub_self, List.set_cons_zero]
    rfl
  rw [Issuance.windowLength, floor]
  show iss.next - _ < 16
  omega

section
variable {s : State} {st : StationId}

theorem exec_receipt (hp : s.powered = true) (hd : s.device = .operational) (hst : (s.station st).state = .awaitingReceipt)
    (htx : (s.station st).transmitter = []) {r : Payload} (hr : r.length = 11) :
    exec (.receipt st r) s = .next (takeReceipt st
      (BitVec.ofNat 64 (natOfBytes (r.take 8)), BitVec.ofNat 24 (natOfBytes ((r.drop 8).take 3))) s) :=
  congrArg Host.Outcome.next (terminalFrame_of_taken hp hd (receiptOperands_of_length hr) hst htx)

theorem exec_refuse (hp : s.powered = true) (hd : s.device = .operational) (hst : (s.station st).state = .awaitingReceipt)
    (htx : (s.station st).transmitter = []) (reason : Byte) : exec (.refuse st [reason]) s = .next (takeRefusal st s) :=
  congrArg Host.Outcome.next (terminalFrame_of_taken hp hd (x := reason) rfl hst htx)

theorem exec_receiptTimerExpiry (hp : s.powered = true) (hst : (s.station st).state = .awaitingReceipt) {left : Nat}
    (ht : (s.station st).timer = .receipt left) : exec (.receiptTimerExpiry st) s = .next (expireReceipt st s) :=
  congrArg Host.Outcome.next (if_pos ⟨hp, hst, by rw [ht]; rfl⟩)

end

/-- Settles O56: each end of a dialogue by the disposal of its number, and the service of the one station that waits when room
opens. -/
theorem numbersSettled : Obligations.NumbersSettled := by
  refine ⟨?_, ?_⟩
  · intro s st p a iss hp hd he hst hpack htx hpres hh ha hpart hr hw hl ho settled departing held latching
    have confirm : a.afterDisposal .confirm p.number = some { a with part := .base (iss.settle .confirm p.number) } :=
      afterSettlement_of_outstanding hpart hl ho .confirm
    have confirmed : surrender .confirm st p (acceptReceipt st) (stopTimer st s) =
        (settled .confirm).setStation st (departing .accepted) :=
      (surrender_of_stopTimer (after := acceptReceipt st) hr ha confirm hpack hw fun _ => rfl).trans (acceptReceipt_of_idle hpres htx)
    have void : a.afterDisposal .void p.number = some { a with part := .base (iss.settle .void p.number) } :=
      afterSettlement_of_outstanding hpart hl ho .void
    have voided (c : HoldCondition) : surrender .void st p (voidAndHold c st) (stopTimer st s) =
        latching .stationHeld ((settled .void).setStation st (held c)) :=
      (surrender_of_stopTimer (after := voidAndHold c st) hr ha void hpack hw fun t => hold_table ..).trans
        (voidAndHold_of_idle hpres htx hh)
    have refused : surrender .void st p (acceptRefusal st) (stopTimer st s) =
        latching .terminalRefused ((settled .void).setStation st (departing .voided)) :=
      (surrender_of_stopTimer (after := acceptRefusal st) hr ha void hpack hw fun _ => rfl).trans
        (acceptRefusal_of_idle hpres htx)
    refine ⟨fun r hlen => ⟨fun hmatch => ?_, fun hmis => ?_⟩, fun reason => ?_, fun left ht => ?_⟩
    · rw [exec_receipt hp hd hst htx hlen, takeReceipt_of_package hpack, if_pos (matchedBy_iff.2 hmatch), confirmed]
      exact congrArg Host.Outcome.next (settleEngine_of_settled he)
    · rw [exec_receipt hp hd hst htx hlen, takeReceipt_of_package hpack, if_neg (mt matchedBy_iff.1 hmis), voided]
      exact congrArg Host.Outcome.next (settleEngine_of_settled he)
    · rw [exec_refuse hp hd hst htx, takeRefusal_of_package hpack, refused]
      exact congrArg Host.Outcome.next (settleEngine_of_settled he)
    · rw [exec_receiptTimerExpiry hp hst ht, expireReceipt_of_package hpack, voided]
      exact congrArg Host.Outcome.next (settleEngine_of_settled he)
  · intro s st w p a iss key t r hp hd he hsound hst hpack htx hpres ha hpart hl hkey hlen hnext hfront hnum hne hwait hwst hwbase
      hwid hr hksi hcheck confirmed record freed serves wrapped noWrap clear
    have live := isLive_iff.2 hl
    have outstanding : iss.entry? p.number = some .outstanding := by
      rw [Issuance.entry?, hnum, if_pos le_rfl, Nat.sub_self, ← List.head?_eq_getElem?, hfront]
    have room : confirmed.windowLength < 16 := windowLength_settle hnext hfront hnum
    have served : surrender .confirm st p (acceptReceipt st) (stopTimer st s) = serveStation quarantine [] p.base w freed := by
      have confirms : a.afterDisposal .confirm p.number = some { a with part := .base confirmed } :=
        afterSettlement_of_outstanding hpart live outstanding .confirm
      have accepted : acceptReceipt st ((disposeNumber .confirm p.base p.number (stopTimer st s)).modifyStation st
          fun k => { k with package := none }) =
          (s.setSlot p.base { record { a with part := .base confirmed } with waiting := [w] }).setStation st
            { s.station st with
              state := .departing, timer := .stopped, package := none, transmitter := [.close .accepted]
              armed := if (s.station st).mode = .single then false else (s.station st).armed } := by
        rw [disposeNumber_of_stopTimer ha confirms, acceptReceipt_of_idle hpres htx, Slot.write, hkey, hwait]
      have stopped : (stopTimer st s).station st = { s.station st with timer := .stopped } := station_modifyStation_self ..
      have full : windowFull p.base (stopTimer st s) = true := by
        rw [windowFull, windowLength_of_base (s := stopTimer st s) ha hpart]
        exact beq_iff_eq.2 (show iss.next - iss.floor = 16 by omega)
      refine (surrender_of_room (s := stopTimer st s) (x := p) (w := w) (hsound p.base) (by rw [stopped]; exact hpack) full accepted
        ?_ ?_).trans ?_
      · refine lt_of_eq_of_lt (windowLength_of_base (a := { a with part := .base confirmed }) (iss := confirmed) ?_ rfl) room
        exact congrArg Slot.account (slot_setSlot_self s p.base _)
      · exact congrArg Slot.waiting (slot_setSlot_self s p.base _)
      · rw [setStation_slot, slot_setSlot_self]
        exact congrArg (fun u => serveStation quarantine [] p.base w (State.setStation u st _)) (setSlot_setSlot s p.base _ _)
    have answered : exec (.receipt st r) s = .next (settleEngine (serveStation quarantine [] p.base w freed)) := by
      rw [exec_receipt hp hd hst htx hr, takeReceipt_of_package hpack, if_pos (matchedBy_iff.2 ⟨hksi, hcheck⟩), served]
    have slot : freed.slot p.base = record { a with part := .base confirmed } := slot_setSlot_self ..
    have account : freed.account p.base = some { a with part := .base confirmed } := congrArg Slot.account slot
    have waiter : freed.station w = s.station w := station_setStation_of_ne _ hne.symm _
    have identity : (freed.station w).identity = some t := by rw [waiter, hwid]
    have sound : freed.Sound := fun j => by
      show ((s.setSlot p.base _).slot j).readable = true
      rw [slot_setSlot]
      split
      · exact congrArg (· || _) (write_agrees (s.slot p.base) { a with part := .base confirmed } (some key))
      · exact hsound j
    have servedBy : ∀ j x, freed.ServedBy t j x ↔ s.ServedBy t j x :=
      servedBy_setSlot_base ha rfl (by rw [hpart]; rfl) rfl
    have settledFreed : freed.engine.Settled := he
    refine ⟨fun hbarren => ?_, fun hact hi hn hallow => ⟨fun hno hclear => ?_, fun transport hw hc => ?_⟩⟩
    · rw [answered, serveStation_of_barren account rfl identity hbarren, settled_refuseService settledFreed]
    all_goals
      have verdict : Account.takeVerdict { a with part := .base confirmed } confirmed = .number := by
        exact (takeVerdict_of_fertile (a := { a with part := .base confirmed }) (iss := confirmed) hact hi hn hallow).trans
          (if_neg (Nat.ne_of_lt room))
    · have lookup := transportLookup_of_noWrap (q := quarantine) (busy := [p.base]) sound
        (fun j x hx => hno j x ((servedBy j x).1 hx)) account
      rw [if_neg (show ¬ (Account.has { a with part := .base confirmed } .clear = true ∧ t.acceptsClear = true) from hclear)]
        at lookup
      rw [answered, serveStation_of_noTransport account rfl identity verdict lookup, settled_refuseService settledFreed]
    · obtain ⟨q, lookup, hq, hslot⟩ := transportLookup_of_transport (q := quarantine) (busy := [p.base]) (transport := transport) sound
        account
        (fun j hj => by
          obtain ⟨x, hx, hwrap, hfirst⟩ := hw j hj
          exact ⟨x, (servedBy j x).2 hx, hwrap, fun j' x' hlt hx' => hfirst j' x' hlt ((servedBy j' x').1 hx')⟩)
        (fun h => by
          obtain ⟨hno, hclear⟩ := hc h
          exact ⟨fun j x hx => hno j x ((servedBy j x).1 hx), hclear⟩)
      have secret : (freed.slot p.base).secret = some key := by
        rw [slot]
        exact secret_write (sl := { account := none, words := [], waiting := [] }) (a := { a with part := .base confirmed })
          (length_of_secret (a := a) ha hkey) (by rw [show a.state = _ from hact]; rfl)
      rw [answered, serveStation_of_protection account rfl identity verdict lookup hq, takeNumber_eq identity, waiter, hslot,
        afterTake_of_active (a := { a with part := .base confirmed }) hact, secret, slot]
      rfl

end Sys2Proof.Machine

/-! # Read-checks while nothing hangs on a record (R163) -/

namespace Sys2Proof.Machine

/-- The read-check of a slot while nothing hangs on its record: a record that disagrees is QUARANTINED and RECORD_QUARANTINED
latched, no more. -/
def checkAlone (i : SlotId) (s : State) : State :=
  if (s.slot i).readable then s else (s.setSlot i (s.slot i).checked).latch .recordQuarantined

section
variable {s : State}

theorem cancelLines_of_none {m : BitVec 3} (hm : m = 0) (i : SlotId) (s : State) : cancelLines m i s = s := by
  subst hm
  exact List.foldl_fixed' (fun l => if_neg (no_approval l)) allLines

theorem Engine.abandon_of_no_job {e : Engine} (hq : e.queue = []) (hv : e.service = none) (p : Job → Bool) : e.abandon p = e := by
  obtain ⟨queue, service, last⟩ := e
  dsimp only at hq hv
  subst hq hv
  rfl

theorem abandonNaming_of_no_job (hq : s.engine.queue = []) (hv : s.engine.service = none) (i : SlotId) : abandonNaming i s = s := by
  have idle : s.engine.verifies i = false := by simp [Engine.verifies, Engine.heldJobs, hq, hv]
  unfold abandonNaming
  dsimp only
  rw [idle]
  exact congrArg s.setEngine (Engine.abandon_of_no_job hq hv _)

theorem Slot.checked_of_failing {sl : Slot} {a : Account} (hbad : sl.readable = false) (ha : sl.account = some a) :
    sl.checked =
      { account := some { a with state := .quarantined, assembly := none }
        words := recordWords { a with state := .quarantined, assembly := none } none
        waiting := [] } := by
  simp only [Slot.checked, ha, hbad]
  rfl

theorem Slot.quarantine_of_failing {sl : Slot} (hbad : sl.readable = false) : sl.quarantine = sl.checked := by
  unfold Slot.quarantine Slot.checked
  cases ha : sl.account with
  | none => rfl
  | some a => exact (if_neg (by rw [hbad]; nofun)).symm

theorem account_of_failing {sl : Slot} (hbad : sl.readable = false) : ∃ a, sl.account = some a := by
  cases ha : sl.account with
  | none => simp [Slot.readable, Slot.agrees, ha] at hbad
  | some a => exact ⟨a, rfl⟩

theorem check_of_nothingHangs (h : s.NothingHangs) (i : SlotId) : check i s = checkAlone i s := by
  obtain ⟨⟨hqueue, hservice⟩, hstations, hslots⟩ := h
  unfold checkAlone
  split
  · next hr => exact check_of_readable hr
  · next hbad =>
    rw [Bool.not_eq_true] at hbad
    obtain ⟨a, ha⟩ := account_of_failing hbad
    have noLine : a.involvedLines = 0 := by rw [Account.involvedLines, (hslots i).2 a ha]
    have first : condemned i a s = (s.setSlot i (s.slot i).checked).latch .recordQuarantined := by
      rw [condemned, cancelLines_of_none noLine, ← Slot.quarantine_of_failing hbad]
      exact abandonNaming_of_no_job (s := (s.modifySlot i Slot.quarantine).latch .recordQuarantined) hqueue hservice i
    have noneBound : boundTo i (condemned i a s) = [] := by
      rw [first]
      exact List.filter_eq_nil_iff.2 fun st _ => by
        have := (hstations st).1
        simp [State.latch, this]
    have second : expelBound i (condemned i a s) = condemned i a s := by rw [expelBound, noneBound]; rfl
    have noUser : usersOf i (condemned i a s) = [] := by
      rw [first]
      exact List.filter_eq_nil_iff.2 fun st _ => by
        have := (hstations st).2
        simp [State.latch, this]
    rw [check_of_not_readable hbad, quarantine_of_record ha (not_quarantined_of_not_readable hbad ha), second, noUser, first]
    rfl

theorem slot_checkAlone (i j : SlotId) : (checkAlone i s).slot j = if j = i then (s.slot j).checked else s.slot j := by
  unfold checkAlone
  split
  · next hr =>
    split
    · next e => rw [e, checked_of_readable hr]
    · rfl
  · refine (slot_setSlot ..).trans ?_
    split
    · next e => rw [e]
    · rfl

theorem Slot.checked_plain {sl : Slot} (hw : sl.waiting = []) (ha : ∀ a, sl.account = some a → a.assembly = none) :
    sl.checked.waiting = [] ∧ ∀ a, sl.checked.account = some a → a.assembly = none := by
  unfold Slot.checked
  split
  · exact ⟨hw, ha⟩
  · split
    · exact ⟨hw, ha⟩
    · exact ⟨rfl, by rintro b ⟨⟩; rfl⟩

theorem checkAlone_frame (i : SlotId) (s : State) :
    checkAlone i s =
      { s with
        table := (checkAlone i s).table
        events :=
          { s.events with
            latched := if (s.slot i).readable then s.events.latched
              else s.events.latched ||| Event.recordQuarantined.bit } } := by
  unfold checkAlone
  split <;> rfl

theorem checkAlone_nothingHangs (h : s.NothingHangs) (i : SlotId) : (checkAlone i s).NothingHangs := by
  obtain ⟨hengine, hstations, hslots⟩ := h
  have frame := checkAlone_frame i s
  refine ⟨by rw [frame]; exact hengine, fun st => by rw [frame]; exact hstations st, fun j => ?_⟩
  rw [State.account, slot_checkAlone]
  split
  · exact Slot.checked_plain (hslots j).1 (hslots j).2
  · exact hslots j

/-- The read-checks of several slots while nothing hangs on a record. -/
theorem checkSlots_of_nothingHangs (l : List SlotId) (h : s.NothingHangs) :
    checkSlots l s =
        { s with
          table := (checkSlots l s).table
          events :=
            { s.events with
              latched := if l.any fun i => !(s.slot i).readable then s.events.latched ||| Event.recordQuarantined.bit
                else s.events.latched } } ∧
      ∀ j, (checkSlots l s).slot j = if j ∈ l then (s.slot j).checked else s.slot j := by
  induction l generalizing s with
  | nil => exact ⟨rfl, fun j => rfl⟩
  | cons i l ih =>
    have start : checkSlots (i :: l) s = checkSlots l (checkAlone i s) :=
      congrArg (checkSlots l) (check_of_nothingHangs h i)
    obtain ⟨frame, slots⟩ := ih (checkAlone_nothingHangs h i)
    rw [start]
    refine ⟨frame.trans ?_, fun j => (slots j).trans ?_⟩
    · generalize checkSlots l (checkAlone i s) = u at *
      rw [List.any_cons]
      by_cases hr : (s.slot i).readable = true
      · rw [checkAlone, if_pos hr]
        simp [hr]
      · have latched : ((checkAlone i s).events.latched ||| Event.recordQuarantined.bit) = s.events.latched ||| Event.recordQuarantined.bit := by
          rw [checkAlone, if_neg hr]
          exact (BitVec.or_assoc ..).trans (congrArg _ (BitVec.or_self))
        have once : (checkAlone i s).events.latched = s.events.latched ||| Event.recordQuarantined.bit := by
          rw [checkAlone, if_neg hr]
          rfl
        rw [latched, once, ite_self, checkAlone_frame i s]
        simp [hr]
    · rw [slot_checkAlone]
      by_cases e : j = i
      · subst e
        rw [if_pos rfl, if_pos (List.mem_cons_self ..), checked_of_readable (checked_readable _), ite_self]
      · simp [e]

end

end Sys2Proof.Machine

/-! # Storage errors, the sweep and the completion of the start-up check -/

namespace Sys2Proof.Machine

/-! ## The sweep (R158) -/

/-- How many records the sweep passes before it comes to a slot. -/
def sweepDistance (position i : SlotId) : Nat := (i.val + 191 - position.val) % 192

theorem sweepDistance_of_step (position : SlotId) {k : Nat} (hk : k < 192) :
    sweepDistance position (Fin.ofNat 192 (position.val + 1 + k)) = k := by
  have := position.isLt
  simp only [sweepDistance, Fin.ofNat]
  omega

theorem step_of_sweepDistance (position i : SlotId) :
    Fin.ofNat 192 (position.val + 1 + sweepDistance position i) = i := by
  have := position.isLt
  have := i.isLt
  refine Fin.ext ?_
  simp only [sweepDistance, Fin.ofNat]
  omega

theorem sweepDistance_lt (position i : SlotId) : sweepDistance position i < 192 := Nat.mod_lt _ (by decide)

/-- The sweep's target is the record in use at the least distance. -/
theorem sweepTarget_of_nearest {s : State} {i : SlotId} {a : Account} (ha : s.account i = some a)
    (nearest : ∀ j b, s.account j = some b →
      sweepDistance s.checker.sweepPosition i ≤ sweepDistance s.checker.sweepPosition j) : sweepTarget s = some i := by
  have first : (List.range 192).find? (fun k => (s.account (Fin.ofNat 192 (s.checker.sweepPosition.val + 1 + k))).isSome) =
      some (sweepDistance s.checker.sweepPosition i) := by
    refine List.find?_range_eq_some.2 ⟨?_, List.mem_range.2 (sweepDistance_lt ..), fun k hk => ?_⟩
    · rw [step_of_sweepDistance, ha]
      rfl
    · cases hb : s.account (Fin.ofNat 192 (s.checker.sweepPosition.val + 1 + k)) with
      | none => rfl
      | some b =>
        have := nearest _ b hb
        rw [sweepDistance_of_step _ (hk.trans (sweepDistance_lt ..))] at this
        omega
  rw [sweepTarget, sweepOrder, List.find?_map]
  exact (congrArg _ first).trans (congrArg some (step_of_sweepDistance ..))

theorem exec_sweepTimerExpiry {s : State} {left : Nat} (hp : s.powered = true) (ht : s.checker.sweepTimer = some left) :
    exec .sweepTimerExpiry s = .next (sweep s) := by
  show execSweepTimerExpiry s = _
  rw [execSweepTimerExpiry, if_pos ⟨hp, by rw [ht]; rfl⟩]

/-! ## The voiding at the end of the start-up check (R51) -/

/-- The record with its OUTSTANDING numbers voided. -/
theorem Slot.startUpVoid_of_live {sl : Slot} {a : Account} {iss : Issuance} (ha : sl.account = some a) (hp : a.part = .base iss)
    (hl : a.state = .active ∨ a.state = .suspended ∨ a.state = .exhausted) :
    sl.startUpVoid = sl.rewriteKeepingSum { a with part := .base iss.voidAll } := by
  have voided : a.mapIssuance Issuance.voidAll = { a with part := .base iss.voidAll } := by rw [Account.mapIssuance, hp]
  have both : a.state.isLive = true ∧ a.part.isBase = true :=
    ⟨by rcases hl with h | h | h <;> rw [h] <;> rfl, by rw [hp]; rfl⟩
  simp only [Slot.startUpVoid, ha, if_pos both, voided]

theorem Slot.startUpVoid_of_other {sl : Slot}
    (h : ∀ a, sl.account = some a → a.part.isBase = false ∨ a.state ∉ [RecordState.active, .suspended, .exhausted]) :
    sl.startUpVoid = sl := by
  unfold Slot.startUpVoid
  split
  · rfl
  · next a ha =>
    refine if_neg fun both => ?_
    rcases h a ha with hp | hl
    · rw [hp] at both
      cases both.2
    · exact hl (mem_live_iff.2 both.1)

theorem slot_completeStartUp (k : Nat) (s : State) (i : SlotId) :
    (completeStartUp k s).slot i = ((settleEngine (checkSlots (slotsLeft k) s)).slot i).startUpVoid := by
  unfold completeStartUp
  dsimp only
  generalize settleEngine (checkSlots (slotsLeft k) s) = t
  exact Vector.getElem_map ..

theorem completeStartUp_of_checked {k : Nat} {s t : State} (h : settleEngine (checkSlots (slotsLeft k) s) = t) :
    completeStartUp k s =
      { t with
        table := (completeStartUp k s).table
        device := .operational
        checker := { sweepPosition := 191, sweepTimer := some t.console.settings.sweepPeriod } } := by
  unfold completeStartUp
  dsimp only
  rw [h]
  rfl

theorem exec_startUpCheckCompletion_of_starting {s : State} {k : Nat} (hp : s.powered = true) (hd : s.device = .starting k) :
    exec .startUpCheckCompletion s = .next (completeStartUp k s) := by
  show execStartUpCheckCompletion s = _
  rw [execStartUpCheckCompletion, if_pos hp, hd]

theorem checkSlots_of_sound {s : State} (h : s.Sound) (l : List SlotId) : checkSlots l s = s :=
  List.foldl_fixed' (fun i => check_of_readable (h i)) l

theorem mem_slotsLeft {k : Nat} {i : SlotId} : i ∈ slotsLeft k ↔ k ≤ i.val := by
  simp [slotsLeft, allSlots]

theorem slotsLeft_of_done {k : Nat} (hk : 192 ≤ k) : slotsLeft k = [] :=
  List.filter_eq_nil_iff.2 fun i _ => by simpa using by omega

theorem any_slotsLeft (k : Nat) (p : SlotId → Bool) : (slotsLeft k).any p = (List.finRange 192).any fun i => k ≤ i.val && p i :=
  List.any_filter

/-- The read-checks of the completion while nothing hangs on a record. -/
theorem completeStartUp_of_nothingHangs {s : State} (h : s.NothingHangs) (k : Nat) :
    completeStartUp k s =
        { s with
          table := (completeStartUp k s).table
          device := .operational
          checker := { sweepPosition := 191, sweepTimer := some s.console.settings.sweepPeriod }
          events :=
            { s.events with
              latched :=
                if (List.finRange 192).any fun i => k ≤ i.val && !(s.slot i).readable then
                  s.events.latched ||| Event.recordQuarantined.bit
                else s.events.latched } } ∧
      ∀ i, (completeStartUp k s).slot i = (if k ≤ i.val then (s.slot i).checked else s.slot i).startUpVoid := by
  obtain ⟨frame, slots⟩ := checkSlots_of_nothingHangs (slotsLeft k) h
  have settled : settleEngine (checkSlots (slotsLeft k) s) = checkSlots (slotsLeft k) s :=
    settleEngine_of_settled (by rw [frame]; exact .inr h.1.1)
  refine ⟨(completeStartUp_of_checked settled).trans ?_, fun i => ?_⟩
  · generalize completeStartUp k s = t
    rw [frame, any_slotsLeft]
  · rw [slot_completeStartUp, settled, slots]
    simp only [mem_slotsLeft]

/-- What the completion makes of a record that it does not quarantine. -/
theorem startUpVoid_spares {sl : Slot} {a : Account} (ha : sl.account = some a) :
    (∀ iss, a.part = .base iss → a.state = .active ∨ a.state = .suspended ∨ a.state = .exhausted →
      sl.startUpVoid.account = some { a with part := .base iss.voidAll } ∧ sl.startUpVoid.agrees = sl.agrees ∧
        (sl.agrees = true → sl.startUpVoid = sl.write { a with part := .base iss.voidAll } sl.secret)) ∧
      (a.part.isBase = false ∨ a.state ∉ [RecordState.active, .suspended, .exhausted] → sl.startUpVoid = sl) := by
  have some : sl.account.isSome = true := by rw [ha]; rfl
  refine ⟨fun iss hp hl => ?_, fun ho => Slot.startUpVoid_of_other fun b hb => ?_⟩
  · rw [Slot.startUpVoid_of_live ha hp hl]
    exact ⟨rfl, rewriteKeepingSum_agrees _ _ some, rewriteKeepingSum_of_agrees some⟩
  · rw [ha] at hb
    cases hb
    exact ho

theorem startUpVoid_agrees (sl : Slot) : sl.startUpVoid.agrees = sl.agrees := by
  unfold Slot.startUpVoid
  split
  · rfl
  · next a ha =>
    split
    · exact rewriteKeepingSum_agrees _ _ (by rw [ha]; rfl)
    · rfl

theorem agrees_of_live {sl : Slot} {a : Account} (hr : sl.readable = true) (ha : sl.account = some a)
    (hl : a.state = .active ∨ a.state = .suspended ∨ a.state = .exhausted) : sl.agrees = true := by
  rw [Slot.readable, Slot.recordState, ha] at hr
  rcases hl with h | h | h <;> simpa [h] using hr

/-- A quarantined record is passed by in the voiding. -/
theorem startUpVoid_of_checked_failing {sl : Slot} (hbad : sl.readable = false) : sl.checked.startUpVoid = sl.checked := by
  obtain ⟨a, ha⟩ := account_of_failing hbad
  rw [Slot.checked_of_failing hbad ha]
  refine Slot.startUpVoid_of_other ?_
  rintro b ⟨⟩
  exact .inr (by simp)

/-- Settles O58: each event by the slots it reads. -/
theorem integrityEvents : Obligations.IntegrityEvents := by
  refine ⟨fun s i place w a ha => ?_, fun s left hp ht he => ⟨fun none => ?_, fun i a ha nearest => ?_⟩,
    fun s k hp hd hs he => ?_, fun s k hp hd hk he => ?_, fun s k hp hd hn => ?_⟩
  · show Host.Outcome.next (s.modifySlot i _) = _
    have altered : (match (s.slot i).account with
        | none => s.slot i
        | some _ => { s.slot i with words := alterWords (s.slot i).words [(place, w)] }) =
        { s.slot i with words := (s.slot i).words.set place w } := by
      rw [show (s.slot i).account = some a from ha]
      rfl
    exact congrArg (fun sl => Host.Outcome.next (s.setSlot i sl)) altered
  · rw [exec_sweepTimerExpiry hp ht, sweep, sweepTarget,
      List.find?_eq_none.2 fun i _ => by rw [none i]; nofun]
    rfl
  · rw [exec_sweepTimerExpiry hp ht, sweep, sweepTarget_of_nearest ha nearest]
    rfl
  · have settled : settleEngine (checkSlots (slotsLeft k) s) = s := by
      rw [checkSlots_of_sound hs, settleEngine_of_settled he]
    refine ⟨_, exec_startUpCheckCompletion_of_starting hp hd, completeStartUp_of_checked settled, fun i => ?_⟩
    rw [slot_completeStartUp, settled]
    refine ⟨fun a iss ha hpart hl => ?_, fun ho => Slot.startUpVoid_of_other ho⟩
    exact (((startUpVoid_spares ha).1 iss hpart hl).2.2 (agrees_of_live (hs i) ha hl))
  · have settled : settleEngine (checkSlots (slotsLeft k) s) = s := by
      rw [slotsLeft_of_done hk]
      exact settleEngine_of_settled he
    have frame := completeStartUp_of_checked settled
    refine ⟨_, exec_startUpCheckCompletion_of_starting hp hd, by rw [frame], by rw [frame], by rw [frame], fun i => ?_⟩
    have slot : (completeStartUp k s).slot i = (s.slot i).startUpVoid := by rw [slot_completeStartUp, settled]
    simp only [State.account, slot]
    exact ⟨startUpVoid_agrees _, fun a ha =>
      ⟨fun iss hpart hl => ((startUpVoid_spares ha).1 iss hpart hl).1, (startUpVoid_spares ha).2⟩⟩
  · obtain ⟨frame, slots⟩ := completeStartUp_of_nothingHangs hn k
    refine ⟨_, exec_startUpCheckCompletion_of_starting hp hd, frame, fun i => ?_⟩
    have plain (hc : (decide (k ≤ i.val) && !(s.slot i).readable) = false) :
        (completeStartUp k s).slot i = (s.slot i).startUpVoid := by
      rw [slots]
      split
      · next hk => rw [checked_of_readable (by simpa [hk] using hc)]
      · rfl
    refine ⟨fun hc a ha => ?_, fun ha => ?_, fun hc a ha => ?_⟩
    · obtain ⟨hk, hbad⟩ := Bool.and_eq_true_iff.1 hc
      have hbad : (s.slot i).readable = false := by simpa using hbad
      have slot : (completeStartUp k s).slot i = (s.slot i).checked := by
        rw [slots, if_pos (of_decide_eq_true hk), startUpVoid_of_checked_failing hbad]
      rw [slot, Slot.checked_of_failing hbad ha]
      exact ⟨rfl, by simp [recordWords, closeWords, wordSum]⟩
    · have readable : (s.slot i).readable = true := by
        rw [Slot.readable, Slot.agrees, show (s.slot i).account = none from ha]
        rfl
      rw [plain (by rw [readable]; simp)]
      exact Slot.startUpVoid_of_other fun a h => by
        rw [show (s.slot i).account = none from ha] at h
        cases h
    · rw [State.account, plain hc]
      exact startUpVoid_spares ha

end Sys2Proof.Machine

/-! # A millisecond of quiet (R163) -/

namespace Sys2Proof.Machine

theorem step_of_quiet {s : State} (h : s.pending = []) : step s = .next (tick s) := by
  unfold step
  rw [h]

theorem countDown_nothingHangs {s : State} (h : s.NothingHangs) : (countDown s).NothingHangs := by
  obtain ⟨hengine, hstations, hslots⟩ := h
  refine ⟨hengine, fun st => ?_, hslots⟩
  have station : (countDown s).station st = { s.station st with timer := (s.station st).timer.countDown } :=
    Vector.getElem_map ..
  rw [station]
  exact hstations st

/-- The slots that the start-up check passes in the millisecond. -/
def slotsAt (k : Nat) : List SlotId := allSlots[k]?.toList

theorem mem_slotsAt {k : Nat} {i : SlotId} : i ∈ slotsAt k ↔ i.val = k := by
  rw [slotsAt, Option.mem_toList, allSlots, List.getElem?_eq_some_iff]
  constructor
  · rintro ⟨hk, rfl⟩
    simp
  · rintro rfl
    exact ⟨by simp, by simp⟩

theorem any_slotsAt (k : Nat) (p : SlotId → Bool) : (slotsAt k).any p = (List.finRange 192).any fun i => i.val == k && p i := by
  rw [Bool.eq_iff_iff, List.any_eq_true, List.any_eq_true]
  simp [mem_slotsAt]

theorem startUpProgress_eq {s : State} {k : Nat} (hd : s.device = .starting k) (hn : s.NothingHangs) :
    startUpProgress s =
      ((checkSlots (slotsAt k) s).setDevice (.starting (k + 1)), if k + 1 ≥ 192 then [.startUpCheckCompletion] else []) := by
  have passed : (match allSlots[k]? with
      | some i => settleEngine (check i s)
      | none => s) = checkSlots (slotsAt k) s := by
    unfold slotsAt
    cases allSlots[k]? with
    | none => rfl
    | some i =>
      refine settleEngine_of_settled ?_
      rw [check_of_nothingHangs hn, checkAlone_frame]
      exact .inr hn.1.1
  simp only [startUpProgress, hd, ← passed] <;> rfl

/-- Settles O2: without a check the millisecond counts down; in STARTING one slot is read while nothing hangs on its record. -/
theorem quietMillisecond : Obligations.QuietMillisecond := by
  intro s hq
  refine ⟨fun hp => ?_, fun hp hd => ?_, fun k hp hd hn => ?_⟩
  · rw [step_of_quiet hq, tick, if_neg (by rw [hp]; nofun)]
  · have still : startUpProgress (countDown s) = (countDown s, []) := by
      unfold startUpProgress
      split
      · next k hk => exact absurd hk (hd k)
      · rfl
    rw [step_of_quiet hq, tick, if_pos hp, still]
    simp only [countDown, hq, List.nil_append, List.append_nil]
  · obtain ⟨frame, slots⟩ := checkSlots_of_nothingHangs (slotsAt k) (countDown_nothingHangs hn)
    have progress := startUpProgress_eq (s := countDown s) hd (countDown_nothingHangs hn)
    refine ⟨_, step_of_quiet hq, ?_, fun i => ?_⟩
    · rw [tick, if_pos hp, progress]
      generalize checkSlots (slotsAt k) (countDown s) = t at frame
      rw [frame, any_slotsAt]
      simp only [countDown, State.setDevice, hq, List.nil_append, ge_iff_le, Nat.reduceLeDiff]
      rfl
    · rw [tick, if_pos hp, progress]
      refine (slots i).trans ?_
      simp only [mem_slotsAt]
      rfl

end Sys2Proof.Machine

/-! # Several stations give up their work (R124, R125, R131, R93) -/

namespace Sys2Proof.Machine

/-! ## The order of R125 -/

section
variable {s : State}

theorem insertStation_perm (a : StationId) (l : List StationId) : (insertStation s a l).Perm (a :: l) := by
  induction l with
  | nil => exact .refl _
  | cons b l ih =>
    unfold insertStation
    split
    · exact .refl _
    · exact (ih.cons b).trans (.swap a b l)

theorem descendingByNumber_perm (group : List StationId) :
    (descendingByNumber s group).Perm (group.filter fun st => (s.station st).package.isSome) := by
  unfold descendingByNumber
  generalize group.filter (fun st => (s.station st).package.isSome) = l
  induction l with
  | nil => exact .refl _
  | cons a l ih => exact (insertStation_perm a _).trans (ih.cons a)

theorem mem_descendingByNumber {group : List StationId} {st : StationId} :
    st ∈ descendingByNumber s group ↔ st ∈ group ∧ (s.station st).package.isSome = true :=
  (descendingByNumber_perm group).mem_iff.trans List.mem_filter

theorem nodup_descendingByNumber {group : List StationId} (h : group.Nodup) : (descendingByNumber s group).Nodup :=
  (descendingByNumber_perm group).nodup_iff.2 (h.filter _)

/-- The order of two stations that hold packages. -/
def State.Precedes (s : State) (st tt : StationId) : Prop :=
  ∃ p r, (s.station st).package = some p ∧ (s.station tt).package = some r ∧
    (r.number < p.number ∨ r.number = p.number ∧ st ≤ tt)

theorem precedes_iff_treatedBefore {st tt : StationId} (hst : (s.station st).package.isSome = true)
    (htt : (s.station tt).package.isSome = true) : s.Precedes st tt ↔ treatedBefore s st tt = true := by
  obtain ⟨p, hp⟩ := Option.isSome_iff_exists.1 hst
  obtain ⟨r, hr⟩ := Option.isSome_iff_exists.1 htt
  have decided : treatedBefore s st tt = true ↔ r.number < p.number ∨ r.number = p.number ∧ st ≤ tt := by
    simp [treatedBefore, hp, hr, @eq_comm _ p.number]
  rw [decided]
  refine ⟨fun ⟨p', r', hp', hr', h⟩ => ?_, fun h => ⟨p, r, hp, hr, h⟩⟩
  rw [hp] at hp'
  rw [hr] at hr'
  cases hp'
  cases hr'
  exact h

theorem State.Precedes.trans {a b c : StationId} (h : s.Precedes a b) (k : s.Precedes b c) : s.Precedes a c := by
  obtain ⟨p, r, hp, hr, hpr⟩ := h
  obtain ⟨r', q, hr', hq, hrq⟩ := k
  rw [hr] at hr'
  cases hr'
  refine ⟨p, q, hp, hq, ?_⟩
  rcases hpr with hpr | ⟨epr, hab⟩
  · rcases hrq with hrq | ⟨erq, -⟩
    · exact .inl (hrq.trans hpr)
    · exact .inl (erq ▸ hpr)
  · rcases hrq with hrq | ⟨erq, hbc⟩
    · exact .inl (epr ▸ hrq)
    · exact .inr ⟨erq.trans epr, hab.trans hbc⟩

theorem precedes_of_not_treatedBefore {a b : StationId} (ha : (s.station a).package.isSome = true)
    (hb : (s.station b).package.isSome = true) (h : treatedBefore s a b ≠ true) : s.Precedes b a := by
  obtain ⟨p, hp⟩ := Option.isSome_iff_exists.1 ha
  obtain ⟨r, hr⟩ := Option.isSome_iff_exists.1 hb
  refine ⟨r, p, hr, hp, ?_⟩
  obtain ⟨hle, hlt⟩ : p.number ≤ r.number ∧ (p.number = r.number → b < a) := by simpa [treatedBefore, hp, hr] using h
  rcases hle.lt_or_eq with lt | eq
  · exact .inl lt
  · exact .inr ⟨eq, (hlt eq).le⟩

theorem insertStation_sorted {a : StationId} {l : List StationId} (ha : (s.station a).package.isSome = true)
    (hl : ∀ b ∈ l, (s.station b).package.isSome = true) (h : l.Pairwise s.Precedes) :
    (insertStation s a l).Pairwise s.Precedes := by
  induction l with
  | nil => exact List.pairwise_singleton ..
  | cons b l ih =>
    obtain ⟨first, rest⟩ := List.pairwise_cons.1 h
    have hb := hl b (List.mem_cons_self ..)
    unfold insertStation
    split
    · next before =>
      have ab := (precedes_iff_treatedBefore ha hb).2 before
      exact List.pairwise_cons.2 ⟨fun c hc => (List.mem_cons.1 hc).elim (fun e => e ▸ ab) fun hc => ab.trans (first c hc), h⟩
    · next after =>
      have ba := precedes_of_not_treatedBefore ha hb after
      refine List.pairwise_cons.2 ⟨fun c hc => ?_, ih (fun c hc => hl c (List.mem_cons_of_mem _ hc)) rest⟩
      exact (List.mem_cons.1 ((insertStation_perm a l).mem_iff.1 hc)).elim (fun e => e ▸ ba) (first c)

theorem descendingByNumber_sorted (group : List StationId) : (descendingByNumber s group).Pairwise s.Precedes := by
  have holders : ∀ st ∈ group.filter (fun st => (s.station st).package.isSome), (s.station st).package.isSome = true :=
    fun st h => (List.mem_filter.1 h).2
  unfold descendingByNumber
  generalize group.filter (fun st => (s.station st).package.isSome) = l at holders
  induction l with
  | nil => exact .nil
  | cons a l ih =>
    refine insertStation_sorted (holders a (List.mem_cons_self ..)) (fun b hb => ?_)
      (ih fun b hb => holders b (List.mem_cons_of_mem _ hb))
    have perm : (l.foldr (insertStation s) []).Perm l := by
      clear ih holders hb
      induction l with
      | nil => exact .refl _
      | cons a l ih => exact (insertStation_perm a _).trans (ih.cons a)
    exact holders b (List.mem_cons_of_mem _ (perm.mem_iff.1 hb))

/-- The stations of a group that hold packages on one slot are treated in the order of R125. -/
theorem packagesInOrder_of_descending {group : List StationId} (hg : group.Nodup) {hit : StationId → Bool}
    (hhit : ∀ st, hit st = true → st ∈ group) (i : SlotId) :
    s.PackagesInOrder hit i ((descendingByNumber s group).filter fun st =>
      hit st && (s.station st).package.any fun p => p.base == i) := by
  refine ⟨fun st => ?_, ?_⟩
  · rw [List.mem_filter, mem_descendingByNumber]
    cases hp : (s.station st).package with
    | none => simp
    | some p => simpa using fun h _ => hhit st h
  · refine List.Pairwise.filter _ ?_
    refine ((descendingByNumber_sorted group).and (nodup_descendingByNumber (s := s) hg)).imp ?_
    rintro st tt ⟨⟨p, r, hp, hr, order⟩, ne⟩
    exact ⟨p, r, hp, hr, order.imp id fun ⟨hn, hle⟩ => ⟨hn, lt_of_le_of_ne hle ne⟩⟩

end

/-! ## One station after the other -/

/-- How a station gives up its work: the disposal of its number, what is left of it, the events it latches. -/
structure Vacating where
  disposal : Station → Disposal
  left : Station → Station
  latched : Station → BitVec 19

/-- The slots that the station's package names as base record. -/
def Station.issuesFrom (k : Station) (i : SlotId) : Bool := k.package.any fun p => p.base == i

/-- A station gives up its work: its jobs are abandoned, the number of its package is disposed of in the base record, and the
station and the latched events change. -/
def vacate (v : Vacating) (st : StationId) (s : State) : State :=
  { s with
    table := match (s.station st).package with
      | some p => (disposeNumber (v.disposal (s.station st)) p.base p.number s).table
      | none => s.table
    engine := s.engine.abandon fun j => j.requester == .station st
    stations := (s.setStation st (v.left (s.station st))).stations
    events := { s.events with latched := s.events.latched ||| v.latched (s.station st) } }

/-- Every record passes its read-check and no station waits on a list. -/
def State.Calm (s : State) : Prop := s.Sound ∧ ∀ i, (s.slot i).waiting = []

section
variable {v : Vacating} {s : State}

theorem station_vacate (st tt : StationId) : (vacate v st s).station tt = if tt = st then v.left (s.station st) else s.station tt := by
  show (s.setStation st _).station tt = _
  split
  · next e => rw [e, station_setStation_self]
  · next e => exact station_setStation_of_ne _ e _

theorem slot_vacate (st : StationId) (i : SlotId) :
    (vacate v st s).slot i =
      s.slotAfter (fun st => v.disposal (s.station st)) (if (s.station st).issuesFrom i then [st] else []) (s.slot i) := by
  have given (p : Package) : (disposeNumber (v.disposal (s.station st)) p.base p.number s).slot i =
      if p.base = i then (s.slot i).dispose (v.disposal (s.station st)) p.number else s.slot i := by
    refine (slot_setSlot ..).trans ?_
    by_cases e : p.base = i
    · rw [if_pos e, if_pos e.symm, e]
    · rw [if_neg e, if_neg (Ne.symm e)]
  unfold State.slot at given ⊢
  unfold vacate State.slotAfter Station.issuesFrom
  cases hp : (s.station st).package with
  | none => rfl
  | some p =>
    refine (given p).trans ?_
    by_cases e : p.base = i
    · simp [e, hp]
    · simp [e]

theorem Slot.dispose_waiting (sl : Slot) (d : Disposal) (n : Nat) : (sl.dispose d n).waiting = sl.waiting := by
  unfold Slot.dispose
  split
  · rfl
  · split <;> rfl

theorem slotAfter_readable (s : State) (d : StationId → Disposal) (order : List StationId) {sl : Slot} (h : sl.readable = true) :
    (s.slotAfter d order sl).readable = true := by
  unfold State.slotAfter
  induction order generalizing sl with
  | nil => exact h
  | cons st order ih =>
    refine ih ?_
    dsimp only
    split
    · exact (SlotMove.dispose ..).readable h
    · exact h

theorem slotAfter_waiting (s : State) (d : StationId → Disposal) (order : List StationId) (sl : Slot) :
    (s.slotAfter d order sl).waiting = sl.waiting := by
  unfold State.slotAfter
  induction order generalizing sl with
  | nil => rfl
  | cons st order ih =>
    refine (ih _).trans ?_
    dsimp only
    split
    · exact Slot.dispose_waiting ..
    · rfl

theorem slotAfter_congr {s t : State} {d e : StationId → Disposal} {order : List StationId}
    (h : ∀ st ∈ order, (t.station st).package = (s.station st).package ∧ e st = d st) (sl : Slot) :
    t.slotAfter e order sl = s.slotAfter d order sl := by
  induction order generalizing sl with
  | nil => rfl
  | cons st order ih =>
    obtain ⟨package, disposal⟩ := h st (List.mem_cons_self ..)
    have rest := ih fun tt ht => h tt (List.mem_cons_of_mem _ ht)
    unfold State.slotAfter at rest ⊢
    rw [List.foldl_cons, List.foldl_cons, package, disposal]
    exact rest _

theorem slotAfter_append (s : State) (d : StationId → Disposal) (l m : List StationId) (sl : Slot) :
    s.slotAfter d (l ++ m) sl = s.slotAfter d m (s.slotAfter d l sl) := List.foldl_append ..

theorem State.Calm.vacate (h : s.Calm) (v : Vacating) (st : StationId) : (vacate v st s).Calm := by
  obtain ⟨sound, waiting⟩ := h
  refine ⟨fun i => ?_, fun i => ?_⟩ <;> rw [slot_vacate]
  · exact slotAfter_readable _ _ _ (sound i)
  · rw [slotAfter_waiting]
    exact waiting i

theorem abandon_abandon (e : Engine) (p q : Job → Bool) : (e.abandon p).abandon q = e.abandon fun j => p j || q j := by
  unfold Engine.abandon
  dsimp only
  rw [List.filter_filter, Option.map_map]
  congr 1
  · refine List.filter_congr fun j _ => ?_
    cases p j <;> cases q j <;> rfl
  · refine congrArg (fun f => Option.map f e.service) (funext fun v => ?_)
    simp only [Function.comp]
    by_cases hp : p v.job = true
    · simp [hp]
    · simp [hp]

theorem abandon_nobody (e : Engine) : (e.abandon fun _ => false) = e := by
  unfold Engine.abandon
  simp

/-- Stations give up their work one after the other. -/
def vacateAll (v : Vacating) (l : List StationId) (s : State) : State := l.foldl (fun s st => vacate v st s) s

/-- What is left when several stations have given up their work. -/
theorem vacateAll_eq {l : List StationId} (hl : l.Nodup) (v : Vacating) (s : State) :
    vacateAll v l s =
        { s with
          table := (vacateAll v l s).table, stations := (vacateAll v l s).stations
          engine := s.engine.abandon fun j => l.any fun st => j.requester == .station st
          events := { s.events with latched := l.foldl (fun x st => x ||| v.latched (s.station st)) s.events.latched } } ∧
      (∀ st, (vacateAll v l s).station st = if st ∈ l then v.left (s.station st) else s.station st) ∧
      ∀ i, (vacateAll v l s).slot i =
        s.slotAfter (fun st => v.disposal (s.station st)) (l.filter fun st => (s.station st).issuesFrom i) (s.slot i) := by
  induction l generalizing s with
  | nil => exact ⟨by simp only [vacateAll, List.foldl_nil, List.any_nil, abandon_nobody], fun st => rfl, fun i => rfl⟩
  | cons a l ih =>
    obtain ⟨hal, hl⟩ := List.nodup_cons.1 hl
    have start : vacateAll v (a :: l) s = vacateAll v l (vacate v a s) := rfl
    have other {st : StationId} (h : st ∈ l) : (vacate v a s).station st = s.station st := by
      rw [station_vacate, if_neg fun e : st = a => hal (e ▸ h)]
    obtain ⟨frame, stations, slots⟩ := ih hl (vacate v a s)
    rw [start]
    generalize vacateAll v l (vacate v a s) = t at *
    refine ⟨?_, fun st => ?_, fun i => ?_⟩
    · have latched : l.foldl (fun x st => x ||| v.latched ((vacate v a s).station st)) (vacate v a s).events.latched =
          (a :: l).foldl (fun x st => x ||| v.latched (s.station st)) s.events.latched :=
        List.foldl_ext _ _ _ fun x st h => by rw [other h]
      rw [latched, show (vacate v a s).engine = s.engine.abandon fun j => j.requester == .station a from rfl,
        abandon_abandon] at frame
      exact frame
    · rw [stations, station_vacate]
      by_cases e : st = a
      · subst e
        simp [hal]
      · simp [e]
    · have same : l.filter (fun st => ((vacate v a s).station st).issuesFrom i) = l.filter fun st => (s.station st).issuesFrom i :=
        List.filter_congr fun st h => by rw [other h]
      have first : (a :: l).filter (fun st => (s.station st).issuesFrom i) =
          (if (s.station a).issuesFrom i then [a] else []) ++ l.filter fun st => (s.station st).issuesFrom i := by
        rw [List.filter_cons]
        split <;> rfl
      rw [slots, same, first, slotAfter_append, slot_vacate]
      exact slotAfter_congr (fun st h => by rw [other (List.mem_filter.1 h).1]; exact ⟨rfl, rfl⟩) _

theorem State.Calm.vacateAll (h : s.Calm) (v : Vacating) (l : List StationId) : (vacateAll v l s).Calm :=
  foldl_state (P := State.Calm) (fun _ st h => h.vacate v st) l h

end

end Sys2Proof.Machine

/-! # ABORT and ABORT_ALL (R124, R125, R129) -/

namespace Sys2Proof.Machine

/-- ABORT of a station in a serving state (R124). -/
def aborting : Vacating := { disposal := fun k => disposalIn k.state, left := abortedStation, latched := fun _ => 0 }

theorem Station.aborted_of_stopped (k : Station) (p : Option Package) : { k.stop with package := p }.aborted = abortedStation k := by
  unfold Station.aborted Station.close Station.stop Station.silence abortedStation Station.depart Station.rest
  dsimp only
  by_cases h : k.present = true
  · simp only [if_pos h, placeFrame]
    congr 1
    cases k.mode <;> rfl
  · simp only [if_neg h]
    congr 1
    cases k.base <;> rfl

section
variable {s : State} {st : StationId}

theorem stopWork_calm (h : s.Calm) (st : StationId) : (stopWork st s).Calm := h

/-- A station whose record passes its read-check, and whose list is empty, gives up its package. -/
theorem surrender_of_calm {d : Disposal} {p x : Package} {f : Station → Station} (h : s.Calm) (hp : (s.station st).package = some x) :
    surrender d st p (fun s => s.modifyStation st f) s =
      (disposeNumber d p.base p.number s).setStation st (f { s.station st with package := none }) := by
  rw [surrender_of_readable (h.1 _) hp ?_]
  · unfold State.modifyStation
    rw [setStation_setStation, station_setStation_self]
    rfl
  · refine Eq.trans ?_ (h.2 p.base)
    refine Eq.trans (congrArg Slot.waiting (?_ : _ = (s.slot p.base).dispose d p.number)) (Slot.dispose_waiting ..)
    exact slot_setSlot_self ..

theorem vacate_of_package {v : Vacating} {p : Package} (hp : (s.station st).package = some p) :
    vacate v st s =
      { (disposeNumber (v.disposal (s.station st)) p.base p.number (stopWork st s)).setStation st (v.left (s.station st)) with
        events := { s.events with latched := s.events.latched ||| v.latched (s.station st) } } := by
  have stations : (s.setStation st (s.station st).stop).setStation st (v.left (s.station st)) =
      s.setStation st (v.left (s.station st)) := setStation_setStation ..
  unfold vacate
  rw [hp, ← stations]
  rfl

theorem vacate_of_no_package {v : Vacating} (hp : (s.station st).package = none) :
    vacate v st s =
      { (stopWork st s).setStation st (v.left (s.station st)) with
        events := { s.events with latched := s.events.latched ||| v.latched (s.station st) } } := by
  have stations : (s.setStation st (s.station st).stop).setStation st (v.left (s.station st)) =
      s.setStation st (v.left (s.station st)) := setStation_setStation ..
  unfold vacate
  rw [hp, ← stations]
  rfl

theorem latched_or_nothing (x : BitVec 19) : x ||| 0 = x := BitVec.or_zero

theorem station_stopWork (s : State) (st : StationId) : (stopWork st s).station st = (s.station st).stop :=
  station_setStation_self ..

theorem abortStation_eq (h : s.Calm) (st : StationId) : abortStation st s = vacate aborting st s := by
  have stopped := station_stopWork s st
  unfold abortStation
  dsimp only
  cases hp : (s.station st).package with
  | none =>
    have left : (s.station st).stop.aborted = aborting.left (s.station st) := Station.aborted_of_stopped _ _
    rw [vacate_of_no_package hp, show aborting.latched (s.station st) = 0 from rfl, latched_or_nothing, ← left, ← stopped]
    rfl
  | some p =>
    have held : ((stopWork st s).station st).package = some p := by rw [stopped]; exact hp
    have left : { (s.station st).stop with package := none }.aborted = aborting.left (s.station st) :=
      Station.aborted_of_stopped _ _
    dsimp only
    rw [surrender_of_calm (f := (·.aborted)) (stopWork_calm h st) held, stopped, left, vacate_of_package hp,
      show aborting.latched (s.station st) = 0 from rfl, latched_or_nothing]
    rfl

/-- The members of a group treated by ABORT one after the other (R125). -/
theorem treatEach_abort {l : List StationId} (hl : l.Nodup) (h : s.Calm) :
    treatEach abortMember l s =
      (vacateAll aborting (l.filter fun st => (s.station st).state.isServing) s,
        l.map fun st => (st, if (s.station st).state.isServing then .ok else .badState)) := by
  induction l generalizing s with
  | nil => rfl
  | cons a l ih =>
    obtain ⟨hal, hl⟩ := List.nodup_cons.1 hl
    unfold treatEach
    dsimp only
    by_cases ha : (s.station a).state.isServing = true
    · have other {st : StationId} (hst : st ∈ l) : (vacate aborting a s).station st = s.station st := by
        rw [station_vacate, if_neg fun e : st = a => hal (e ▸ hst)]
      have serving : l.filter (fun st => ((vacate aborting a s).station st).state.isServing) =
          l.filter fun st => (s.station st).state.isServing := List.filter_congr fun st hst => by rw [other hst]
      have codes : l.map (fun st => (st, if ((vacate aborting a s).station st).state.isServing then AnswerCode.ok else .badState)) =
          l.map fun st => (st, if (s.station st).state.isServing then AnswerCode.ok else .badState) :=
        List.map_congr_left fun st hst => by rw [other hst]
      have member : abortMember a s = (vacate aborting a s, .ok) := (if_pos ha).trans (by rw [abortStation_eq h])
      rw [member, ih hl (h.vacate aborting a), serving, codes, List.filter_cons_of_pos (p := fun st => (s.station st).state.isServing) ha, List.map_cons,
        if_pos ha]
      rfl
    · have member : abortMember a s = (s, .badState) := if_neg ha
      rw [member, ih hl h, List.filter_cons_of_neg (p := fun st => (s.station st).state.isServing) ha, List.map_cons, if_neg ha]

theorem stalledLeave_of_calm (h : s.Calm) (group : List StationId) : stalledLeave group s = s := by
  refine List.foldl_fixed' (fun st => ?_) group
  split
  · cases hb : (s.station st).base with
    | none => rw [leaveWaitingList, hb]
    | some i =>
      have same : { s.slot i with waiting := [] } = s.slot i := by rw [← h.2 i]
      rw [leaveWaitingList_of_base hb, h.2 i, List.filter_nil, same, setSlot_slot]
  · rfl

theorem abortOrder_perm (group : List StationId) (s : State) : (abortOrder group s).Perm group := by
  refine (List.Perm.append_right _ (descendingByNumber_perm group)).trans ?_
  have none : (fun st => (s.station st).package.isNone) = fun st => !(s.station st).package.isSome := by
    funext st
    cases (s.station st).package <;> rfl
  rw [none]
  exact List.filter_append_perm ..

theorem inGroupOrder_of_perm {group l : List StationId} (h : l.Perm group) (f : StationId → AnswerCode) :
    inGroupOrder group (l.map fun st => (st, f st)) = group.map fun st => (st, f st) := by
  have found {st : StationId} (hst : st ∈ l) : (l.map fun st => (st, f st)).find? (·.1 == st) = some (st, f st) := by
    rw [List.find?_map]
    cases hf : l.find? ((fun x : StationId × AnswerCode => x.1 == st) ∘ fun st => (st, f st)) with
    | none => exact absurd (List.find?_eq_none.1 hf st hst) (by simp)
    | some tt =>
      have : tt = st := by simpa using List.find?_some hf
      rw [this]
      rfl
  unfold inGroupOrder
  exact (List.filterMap_congr fun st hst => found (h.mem_iff.2 hst)).trans (congrFun List.filterMap_eq_map group)

/-- The stations that ABORT of a group reaches, in the order of R125. -/
def abortedOf (group : List StationId) (s : State) : List StationId :=
  (abortOrder group s).filter fun st => (s.station st).state.isServing

theorem nodup_abortedOf {group : List StationId} (hg : group.Nodup) (s : State) : (abortedOf group s).Nodup :=
  ((abortOrder_perm group s).nodup_iff.2 hg).filter _

theorem abortGroup_eq {group : List StationId} (hg : group.Nodup) (h : s.Calm) :
    abortGroup group s =
      (vacateAll aborting (abortedOf group s) s,
        group.map fun st => (st, if (s.station st).state.isServing then .ok else .badState)) := by
  unfold abortGroup
  dsimp only
  rw [stalledLeave_of_calm h, treatEach_abort ((abortOrder_perm group s).nodup_iff.2 hg) h,
    inGroupOrder_of_perm (abortOrder_perm group s)]
  rfl

/-! ## What the stations that `hit` picks leave behind -/

/-- What an abort of the stations that `hit` picks makes of the state. -/
structure Aborts (hit : StationId → Bool) (s t : State) : Prop where
  frame : t = { s with table := t.table, stations := t.stations, engine := t.engine }
  stations : ∀ st, hit st = true → t.station st = abortedStation (s.station st)
  engine : t.engine = s.engine.abandon (ofStations hit)
  slots : ∀ i, ∃ order, s.PackagesInOrder hit i order ∧
    t.slot i = s.slotAfter (fun st => disposalIn (s.station st).state) order (s.slot i)

theorem ofStations_of_mem {hit : StationId → Bool} {l : List StationId} (h : ∀ st, st ∈ l ↔ hit st = true) :
    (fun j : Job => l.any fun st => j.requester == .station st) = ofStations hit := by
  funext j
  rw [Bool.eq_iff_iff, ofStations, List.any_eq_true, List.any_eq_true]
  simp [h]

/-- The members that give up a package on one slot. -/
theorem abortedOf_issuesFrom (group : List StationId) (s : State) (i : SlotId) :
    (abortedOf group s).filter (fun st => (s.station st).issuesFrom i) =
      (descendingByNumber s group).filter fun st =>
        (decide (st ∈ group) && (s.station st).state.isServing) && (s.station st).package.any fun p => p.base == i := by
  have none : ((group.filter fun st => (s.station st).package.isNone).filter fun st => (s.station st).state.isServing).filter
      (fun st => (s.station st).issuesFrom i) = [] := by
    refine List.filter_eq_nil_iff.2 fun st hst => ?_
    have := (List.mem_filter.1 (List.mem_filter.1 hst).1).2
    simp [Station.issuesFrom, Option.isNone_iff_eq_none.1 this]
  rw [abortedOf, abortOrder, List.filter_append, List.filter_append, none, List.append_nil, List.filter_filter]
  refine List.filter_congr fun st hst => ?_
  rw [decide_eq_true (mem_descendingByNumber.1 hst).1, Bool.true_and, Bool.and_comm]
  rfl

theorem abortGroup_aborts {group : List StationId} (hg : group.Nodup) :
    let hit st := decide (st ∈ group) && (s.station st).state.isServing
    Aborts hit s (vacateAll aborting (abortedOf group s) s) ∧
      ∀ st, hit st = false → (vacateAll aborting (abortedOf group s) s).station st = s.station st := by
  intro hit
  have mem (st : StationId) : st ∈ abortedOf group s ↔ hit st = true := by
    simp [abortedOf, hit, (abortOrder_perm group s).mem_iff]
  obtain ⟨frame, stations, slots⟩ :=
    vacateAll_eq (nodup_abortedOf hg s) aborting s
  have latched (x : BitVec 19) (l : List StationId) : l.foldl (fun x st => x ||| aborting.latched (s.station st)) x = x :=
    List.foldl_fixed' (f := fun x st => x ||| aborting.latched (s.station st)) (fun _ => latched_or_nothing x) l
  rw [latched] at frame
  have issuing (i : SlotId) := abortedOf_issuesFrom group s i
  refine ⟨⟨?_, fun st hst => ?_, ?_, fun i => ⟨_, packagesInOrder_of_descending hg (fun st hst => ?_) i, ?_⟩⟩, fun st hst => ?_⟩
  · generalize vacateAll aborting (abortedOf group s) s = t at frame
    rw [frame]
  · exact (stations st).trans (if_pos ((mem st).2 hst))
  · rw [frame]
    exact congrArg s.engine.abandon (ofStations_of_mem mem)
  · exact of_decide_eq_true (Bool.and_eq_true_iff.1 hst).1
  · rw [slots, issuing]
    rfl
  · exact (stations st).trans (if_neg fun hm => by rw [(mem st).1 hm] at hst; cases hst)

/-- One package alone on a record, and a record that no package names. -/
theorem Aborts.numbers {hit : StationId → Bool} {t : State} (h : Aborts hit s t) :
    (∀ st p a, hit st = true → (s.station st).package = some p → s.account p.base = some a →
      (∀ tt p', hit tt = true → tt ≠ st → (s.station tt).package = some p' → p'.base ≠ p.base) →
      t.account p.base = some ((a.afterDisposal (disposalIn (s.station st).state) p.number).getD a)) ∧
    ∀ i, (∀ st p, hit st = true → (s.station st).package = some p → p.base ≠ i) → t.slot i = s.slot i := by
  refine ⟨fun st p a hst hp ha alone => ?_, fun i none => ?_⟩
  · obtain ⟨order, ⟨mem, sorted⟩, slot⟩ := h.slots p.base
    have distinct : order.Nodup := sorted.imp fun {x y} ⟨q, r, hq, hr, lt⟩ e => by
      subst e
      rw [hq] at hr
      cases hr
      rcases lt with lt | lt
      · exact absurd lt (lt_irrefl _)
      · exact absurd lt.2 (lt_irrefl _)
    have single : order = [st] := List.perm_singleton.1 <| (List.perm_ext_iff_of_nodup distinct (List.nodup_singleton st)).2 fun tt => by
      rw [mem, List.mem_singleton]
      constructor
      · rintro ⟨htt, p', hp', hbase⟩
        exact not_not.1 fun ne => alone tt p' htt ne hp' hbase
      · rintro rfl
        exact ⟨hst, p, hp, rfl⟩
    have disposed : t.slot p.base = (s.slot p.base).dispose (disposalIn (s.station st).state) p.number := by
      rw [slot, single]
      simp only [State.slotAfter, List.foldl_cons, List.foldl_nil, hp]
    have ha : (s.slot p.base).account = some a := ha
    rw [State.account, disposed]
    cases hb : a.afterDisposal (disposalIn (s.station st).state) p.number with
    | none => simp only [Slot.dispose, ha, hb, Option.getD_none]
    | some b => simp only [Slot.dispose, ha, hb, Option.getD_some, Slot.write]
  · obtain ⟨order, ⟨mem, -⟩, slot⟩ := h.slots i
    have empty : order = [] := List.eq_nil_iff_forall_not_mem.2 fun st hst => by
      obtain ⟨hhit, p, hp, hbase⟩ := (mem st).1 hst
      exact none st p hhit hp hbase
    rw [slot, empty]
    rfl

theorem Aborts.settled {hit : StationId → Bool} {t : State} (h : Aborts hit s t) (hs : s.engine.Settled) : t.engine.Settled := by
  rw [h.engine]
  exact hs.abandon _

/-- Stations that are not hit are disarmed: nothing else of an abort changes. -/
theorem Aborts.disarm {hit : StationId → Bool} {t : State} (h : Aborts hit s t) {group : List StationId} (hg : group.Nodup)
    (hn : ∀ st ∈ group, hit st = false) : Aborts hit s (disarmStations group t) := by
  rw [disarmStations_eq]
  have frame := modifyStations_frame t group (·.disarm)
  have stations := station_modifyStations hg t (·.disarm)
  generalize t.modifyStations group (·.disarm) = u at *
  refine ⟨?_, fun st hst => ?_, ?_, fun i => ?_⟩
  · rw [frame, h.frame]
  · rw [stations, if_neg fun hm => by rw [hn st hm] at hst; cases hst]
    exact h.stations st hst
  · rw [frame]
    exact h.engine
  · rw [frame]
    exact h.slots i

end

/-- Settles O40: ABORT of a station set, and ABORT_ALL, by the stations they reach. -/
theorem abortStopsWork : Obligations.AbortStopsWork := by
  intro s he hs hw
  have calm : s.Calm := ⟨hs, hw⟩
  refine ⟨fun set hserves hset => ?_, fun ho hd => ?_⟩
  · obtain ⟨aborts, others⟩ := abortGroup_aborts (s := s) (nodup_stationSet set)
    have hits : (fun st => decide (st ∈ stationSet set) && (s.station st).state.isServing) =
        fun st => set.getLsbD st.val && (s.station st).state.isServing := by
      funext st
      rw [Bool.eq_iff_iff]
      simp
    rw [hits] at aborts
    have aborted : abort set s =
        { state := vacateAll aborting (abortedOf (stationSet set) s) s, code := .ok,
          data := outcomeData ((stationSet set).map fun st =>
            (st, if (s.station st).state.isServing then .ok else .badState)) } := by
      rw [abort, withStations_of_ne_zero hset, abortGroup_eq (nodup_stationSet set) calm, memberReply,
        settleEngine_of_settled (aborts.settled he)]
    generalize vacateAll aborting (abortedOf (stationSet set) s) s = t at *
    refine ⟨t, ?_, aborts.frame, ⟨aborts.stations, aborts.engine, aborts.numbers.1, aborts.slots, aborts.numbers.2⟩,
      fun st hst => others st ((congrFun hits st).trans hst)⟩
    refine (congrArg Host.Outcome.next (consoleCommand_of_reply hserves aborted)).trans ?_
    have byte (st : StationId) : (if (s.station st).state.isServing then AnswerCode.ok else AnswerCode.badState).byte =
        if (s.station st).state.isServing then 0x00 else 0x15 := by split <;> rfl
    simp only [outcomeData_feed, outcomeData_map, byte]
    rfl
  · let serving := allStations.filter fun st => (s.station st).state.isServing
    let others := allStations.filter fun st => !(s.station st).state.isServing
    have hserving : serving.Nodup := nodup_allStations.filter _
    have hothers : others.Nodup := nodup_allStations.filter _
    have mem {st : StationId} : st ∈ others ↔ (s.station st).state.isServing = false := by simp [others, mem_allStations]
    have hits : (fun st => decide (st ∈ serving) && (s.station st).state.isServing) = fun st => (s.station st).state.isServing := by
      funext st
      rw [Bool.eq_iff_iff]
      simp [serving, mem_allStations]
    obtain ⟨aborts, spared⟩ := abortGroup_aborts (s := s) hserving
    rw [hits] at aborts
    have all := aborts.disarm hothers fun st hst => mem.1 hst
    have effect : abortAll s = disarmStations others (vacateAll aborting (abortedOf serving s) s) := by
      refine (congrArg (fun r : State × Outcomes => settleEngine (disarmStations others r.1)) (abortGroup_eq hserving calm)).trans ?_
      exact settleEngine_of_settled (all.settled he)
    have disarmed {st : StationId} (hst : (s.station st).state.isServing = false) :
        (disarmStations others (vacateAll aborting (abortedOf serving s) s)).station st = (s.station st).disarm := by
      rw [disarmStations_eq, station_modifyStations hothers, if_pos (mem.2 hst), spared st ((congrFun hits st).trans hst)]
    generalize disarmStations others (vacateAll aborting (abortedOf serving s) s) = t at *
    refine ⟨t, ?_, all.frame, ⟨all.stations, all.engine, all.numbers.1, all.slots, all.numbers.2⟩, fun st h => ?_, fun st h => ?_,
      fun st h => ?_⟩
    · have fed : feed t = { t with console := { s.console with supervision := fedSupervision s } } := by
        rw [all.frame]
        rfl
      refine congrArg Host.Outcome.next ((broadcastCommand_of_operational ho hd _).trans ?_)
      rw [effect, fed]
    · rw [disarmed (by rw [h]; rfl), Station.disarm_of_waiting h]
    · rw [disarmed (by rw [h]; rfl), Station.disarm_of_hasTerminal (by rw [h]; rfl)]
    · have idle : (s.station st).state = .unbound ∨ (s.station st).state = .bound ∨ (s.station st).state = .held := by
        simpa using h
      have spare : (s.station st).state.isServing = false ∧ (s.station st).state ≠ .waiting ∧
          (s.station st).state.hasTerminal = false := by
        rcases idle with h | h | h <;> rw [h] <;> exact ⟨rfl, nofun, rfl⟩
      rw [disarmed spare.1, Station.disarm_of_idle spare.2.1 spare.2.2]

end Sys2Proof.Machine

/-! # The second approval and the actions of a ticket (R84, R88 to R94) -/

namespace Sys2Proof.Machine

/-! ## The second approval (R84) -/

theorem lineCount_second : ∀ (m : BitVec 3) (l : Line), lineCount m = 1 → m &&& lineBit l = 0 → 2 ≤ lineCount (m ||| lineBit l) := by
  decide

theorem lineBit_ne_zero : ∀ l : Line, lineBit l ≠ 0 := by decide

theorem numbers_differ {before after : List Ticket} {t : Ticket} (h : ((before ++ t :: after).map (·.number)).Nodup) :
    ∀ x ∈ before ++ after, x.number ≠ t.number := by
  have distinct : (before ++ t :: after).Pairwise fun x y => x.number ≠ y.number := List.pairwise_map.1 h
  obtain ⟨-, later, cross⟩ := List.pairwise_append.1 distinct
  obtain ⟨first, -⟩ := List.pairwise_cons.1 later
  exact List.forall_mem_append.2 ⟨fun x hx => cross x hx t (List.mem_cons_self ..), fun x hx => (first x hx).symm⟩

/-- The state with the second approval in the table. -/
def approvedState (s : State) (before : List Ticket) (t : Ticket) (after : List Ticket) (l : Line) : State :=
  s.setApproval { s.approval with tickets := before ++ t.approvedBy l :: after }

/-- The executed ticket in the table, and its event. -/
def executedState (s : State) (before : List Ticket) (t : Ticket) (after : List Ticket) (l : Line) : State :=
  { s with
    approval :=
      { s.approval with
        tickets := before ++ { t with approvals := t.approvals ||| lineBit l, state := .executed } :: after
        finished := s.approval.finished ++ [t.number] }
    events := { s.events with latched := s.events.latched ||| Event.ticketExecuted.bit } }

/-- An APPROVE on a line that hears it, whose operands are those of an OPEN ticket with one approval of another line. -/
structure SecondApproval (s : State) (l : Line) (before : List Ticket) (t : Ticket) (after : List Ticket) (p : Payload) : Prop where
  hears : s.Hears l
  settled : s.engine.Settled
  ready : ∀ k, s.device ≠ .starting k
  table : s.approval.tickets = before ++ t :: after
  others : ∀ x ∈ before ++ after, x.number ≠ t.number
  isOpen : t.isOpen = true
  one : lineCount t.approvals = 1
  new : t.approvals &&& lineBit l = 0
  operands : ∃ n act slot hi lo : Byte, p = [n, act, slot, hi, lo] ∧ t.number = n.toNat ∧ act = t.action.code ∧
    slot.toNat = t.slot.val ∧ t.amount = (hi ++ lo : BitVec 16)

section
variable {s u : State} {l : Line} {t : Ticket} {before after : List Ticket} {p : Payload}

/-- A second approval takes the ticket to its execution. -/
theorem SecondApproval.carriedOut (h : SecondApproval s l before t after p)
    (hexec : executeTicket (t.approvedBy l) (approvedState s before t after l) = u) (he : u.engine.Settled)
    {before' after' : List Ticket} {t' : Ticket} (hu' : u.approval.tickets = before' ++ t' :: after')
    (ho' : ∀ x ∈ before', x.number ≠ t.number) (hn' : t'.number = t.number) :
    exec (.approve l p) s = .next
      (answeredLine l 0x43 .ok [t'.state.code, t'.state.reasonCode, t'.approvals.setWidth 8] u) := by
  obtain ⟨n, act, slot, hi, lo, rfl, hn, hact, hslot, hamount⟩ := h.operands
  have found : s.approval.find? n.toNat = some t :=
    ApprovalUnit.find?_of_split h.table (fun x hx => hn ▸ h.others x (List.mem_append_left _ hx)) hn
  have taken : takeApproval l t s = u := by
    have put : s.approval.put (t.approvedBy l) = { s.approval with tickets := before ++ t.approvedBy l :: after } :=
      ApprovalUnit.put_of_split h.table h.others rfl rfl
    unfold takeApproval
    dsimp only
    rw [if_pos (show 2 ≤ lineCount (t.approvals ||| lineBit l) from lineCount_second _ _ h.one h.new)]
    refine (congrArg (fun a => settleEngine (executeTicket (t.approvedBy l) (s.setApproval a))) put).trans ?_
    exact (congrArg settleEngine hexec).trans (settleEngine_of_settled he)
  refine exec_approve_of_hears h.hears ?_
  rw [approve_of_open h.ready found h.isOpen, if_neg (not_not.2 ⟨hact, hslot, hamount.symm⟩),
    if_neg (by rw [h.new]; exact (lineBit_ne_zero l).symm), taken, ticketOutcome_of_split hu' ho' hn']
  rfl

theorem executeTicket_of_admitted {k : Ticket} {v : State} (hp : precondition k.action k.slot s = (s, true))
    (hv : applyAction k s = v) :
    executeTicket k s = afterAction k ((v.setApproval (v.approval.finish { k with state := .executed })).latch .ticketExecuted) := by
  subst hv
  unfold executeTicket
  dsimp only
  rw [hp]
  rfl

theorem executeTicket_of_not_admitted {k : Ticket} (hp : precondition k.action k.slot s = (s, false)) :
    executeTicket k s = (s.setApproval (s.approval.finish { k with state := .failed .badState })).latch .ticketFailed := by
  unfold executeTicket
  dsimp only
  rw [hp]
  rfl

/-- The finish of the ticket with both approvals. -/
theorem finish_approved (ho : ∀ x ∈ before ++ after, x.number ≠ t.number) (st : TicketState) :
    (approvedState s before t after l).approval.finish { t.approvedBy l with state := st } =
      { s.approval with
        tickets := before ++ { t with approvals := t.approvals ||| lineBit l, state := st } :: after
        finished := s.approval.finished ++ [t.number] } :=
  ApprovalUnit.finish_of_split (u := (approvedState s before t after l).approval) (t := t.approvedBy l) rfl ho rfl rfl

/-- The execution of an action that leaves the table of tickets alone. -/
theorem executeTicket_approved {v w : State} (ho : ∀ x ∈ before ++ after, x.number ≠ t.number)
    (hp : precondition t.action t.slot (approvedState s before t after l) = (approvedState s before t after l, true))
    (hv : applyAction (t.approvedBy l) (approvedState s before t after l) = v)
    (ha : v.approval = (approvedState s before t after l).approval)
    (hw : { v with
        approval := (executedState s before t after l).approval
        events := { v.events with latched := v.events.latched ||| Event.ticketExecuted.bit } } = w) :
    executeTicket (t.approvedBy l) (approvedState s before t after l) = afterAction (t.approvedBy l) w := by
  rw [executeTicket_of_admitted (k := t.approvedBy l) hp hv, ha, finish_approved ho, ← hw]
  rfl

theorem afterAction_of_other {k : Ticket} (h : k.action ≠ .releaseQuarantined) (s : State) : afterAction k s = s := by
  unfold afterAction
  split
  · next e => exact absurd e h
  · rfl

/-- A second approval whose action is carried out and lets no other ticket fall. -/
theorem SecondApproval.executes (h : SecondApproval s l before t after p) (hother : t.action ≠ .releaseQuarantined) {v w : State}
    (hp : precondition t.action t.slot (approvedState s before t after l) = (approvedState s before t after l, true))
    (hv : applyAction (t.approvedBy l) (approvedState s before t after l) = v)
    (ha : v.approval = (approvedState s before t after l).approval) (he : v.engine.Settled)
    (hw : { v with
        approval := (executedState s before t after l).approval
        events := { v.events with latched := v.events.latched ||| Event.ticketExecuted.bit } } = w) :
    exec (.approve l p) s = .next (answeredLine l 0x43 .ok [1, 0, (t.approvals ||| lineBit l).setWidth 8] w) := by
  have executed := executeTicket_approved h.others hp hv ha hw
  rw [afterAction_of_other (k := t.approvedBy l) hother] at executed
  refine h.carriedOut (after' := after) (t' := { t with approvals := t.approvals ||| lineBit l, state := .executed }) executed ?_ ?_
    (fun x hx => h.others x (List.mem_append_left _ hx)) rfl
  · rw [← hw]
    exact he
  · rw [← hw]
    rfl

theorem precondition_approved (hother : t.action ≠ .clearTamper)
    (hr : (s.slot t.slot).readable = true) {a : Account} (ha : s.account t.slot = some a)
    (had : t.action.admitsRecord (some a) = true) :
    precondition t.action t.slot (approvedState s before t after l) = (approvedState s before t after l, true) := by
  rw [precondition_of_record (s := approvedState s before t after l) hother hr,
    show (approvedState s before t after l).account t.slot = some a from ha, had]

end

/-! ## FORCE_RETIRE of a BASE record (R91, R92, R49) -/

namespace Station

variable {k : Station}

theorem forceUnbound_of_serving (h : k.state.isServing = true) (p : Option Package) :
    { k.stop with package := p }.forceUnbound = abortedStation { k with base := none } := by
  rw [← aborted_of_stopped _ p]
  unfold forceUnbound
  cases hst : k.state <;> simp [stop, silence, hst] <;> rw [hst] at h <;> cases h

theorem forceUnbound_of_idle (h : k.state = .bound ∨ k.state = .waiting) :
    k.forceUnbound =
      { k with
        state := .unbound, base := none, armed := false, disarmAfter := false, identity := none, package := none,
        timer := .stopped, holds := 0 } := by
  rcases h with h | h <;> rw [forceUnbound, h] <;> rfl

theorem forceUnbound_of_departing (h : k.state = .departing ∨ k.state = .held) :
    k.forceUnbound = { k with base := none, armed := false } := by
  rcases h with h | h <;> rw [forceUnbound, h]

/-- FORCE_RETIRE of a base record ends the work of a serving station as ABORT does (R92). -/
theorem forceUnbound_eq (h : k.state.isServing = true) : k.forceUnbound = abortedStation { k with base := none } := by
  have stopped : k.forceUnbound = { k.stop with base := none }.aborted := by
    unfold forceUnbound
    cases hst : k.state with
    | identifying | stalled | preparing | sending | awaitingReceipt => rfl
    | unbound | bound | waiting | departing | held => rw [hst] at h; cases h
  rw [stopped]
  exact aborted_of_stopped { k with base := none } k.package

end Station

section
variable {s : State}

/-- How a station loses its binding: whether its jobs are abandoned, what is left of it, the events it latches. -/
structure Leaving where
  quits : Station → Bool
  left : Station → Station
  latched : Station → BitVec 19

/-- A station loses its binding. -/
def leaveBinding (v : Leaving) (st : StationId) (s : State) : State :=
  { s.setStation st (v.left (s.station st)) with
    engine := s.engine.abandon fun j => v.quits (s.station st) && j.requester == .station st
    events := { s.events with latched := s.events.latched ||| v.latched (s.station st) } }

/-- What is left when several stations have lost their bindings. -/
theorem leaveBinding_all {l : List StationId} (hl : l.Nodup) (v : Leaving) (s : State) :
    let t := l.foldl (fun s st => leaveBinding v st s) s
    t = { s with
        stations := t.stations
        engine := s.engine.abandon fun j => l.any fun st => v.quits (s.station st) && j.requester == .station st
        events := { s.events with latched := l.foldl (fun x st => x ||| v.latched (s.station st)) s.events.latched } } ∧
      ∀ st, t.station st = if st ∈ l then v.left (s.station st) else s.station st := by
  dsimp only
  induction l generalizing s with
  | nil => exact ⟨by simp only [List.foldl_nil, List.any_nil, abandon_nobody], fun st => rfl⟩
  | cons a l ih =>
    obtain ⟨hal, hl⟩ := List.nodup_cons.1 hl
    have other {st : StationId} (h : st ∈ l) : (leaveBinding v a s).station st = s.station st :=
      station_setStation_of_ne _ (fun e : st = a => hal (e ▸ h)) _
    obtain ⟨frame, stations⟩ := ih hl (leaveBinding v a s)
    have latched : l.foldl (fun x st => x ||| v.latched ((leaveBinding v a s).station st)) (leaveBinding v a s).events.latched =
        (a :: l).foldl (fun x st => x ||| v.latched (s.station st)) s.events.latched :=
      List.foldl_ext _ _ _ fun x st h => by rw [other h]
    have quits (j : Job) : (l.any fun st => v.quits ((leaveBinding v a s).station st) && j.requester == .station st) =
        l.any fun st => v.quits (s.station st) && j.requester == .station st := by
      rw [Bool.eq_iff_iff, List.any_eq_true, List.any_eq_true]
      exact exists_congr fun st => and_congr_right fun h => by rw [other h]
    rw [List.foldl_cons]
    generalize l.foldl (fun s st => leaveBinding v st s) (leaveBinding v a s) = t at *
    refine ⟨?_, fun st => ?_⟩
    · rw [latched, show (leaveBinding v a s).engine = s.engine.abandon fun j => v.quits (s.station a) && j.requester == .station a
        from rfl, abandon_abandon] at frame
      simp only [quits] at frame
      exact frame
    · rw [stations]
      by_cases e : st = a
      · subst e
        rw [if_neg hal, if_pos (List.mem_cons_self ..)]
        exact station_setStation_self ..
      · have spared : (leaveBinding v a s).station st = s.station st := station_setStation_of_ne _ e _
        rw [spared]
        simp [e]

/-- What FORCE_RETIRE of a base record leaves of a station. -/
def forceLeaving : Leaving := { quits := fun _ => true, left := Station.forceUnbound, latched := fun _ => 0 }

theorem forceUnbind_eq (st : StationId) (s : State) : forceUnbind st s = leaveBinding forceLeaving st s := by
  unfold leaveBinding
  rw [show forceLeaving.latched (s.station st) = 0 from rfl, latched_or_nothing]
  rfl

/-- The stations that depend on a base record. -/
def Station.issues (k : Station) (i : SlotId) : Bool :=
  k.base == some i || (match k.package with
    | some p => p.base == i
    | none => false)

theorem forceRetireBase_eq (i : SlotId) (s : State) :
    let t := forceRetireBase i s
    t = { s with
        table := (s.modifySlot i Slot.forceRetire).table, stations := t.stations
        engine := s.engine.abandon (ofStations fun st => (s.station st).issues i) } ∧
      ∀ st, t.station st = if (s.station st).issues i then (s.station st).forceUnbound else s.station st := by
  have mem (st : StationId) : st ∈ allStations.filter (fun st => (s.station st).issues i) ↔ (s.station st).issues i = true := by
    simp [mem_allStations]
  obtain ⟨frame, stations⟩ := leaveBinding_all (nodup_allStations.filter fun st => (s.station st).issues i) forceLeaving s
  have start : forceRetireBase i s =
      ((allStations.filter fun st => (s.station st).issues i).foldl (fun s st => leaveBinding forceLeaving st s) s).modifySlot i
        Slot.forceRetire := by
    simp only [← forceUnbind_eq]
    rfl
  have latched (x : BitVec 19) (l : List StationId) : l.foldl (fun x st => x ||| forceLeaving.latched (s.station st)) x = x :=
    List.foldl_fixed' (f := fun x st => x ||| forceLeaving.latched _) (fun _ => latched_or_nothing x) l
  have quits (k : Station) (j : Job) (st : StationId) : (forceLeaving.quits k && j.requester == .station st) =
      (j.requester == .station st) := rfl
  simp only [quits] at frame
  rw [latched, ofStations_of_mem mem] at frame
  dsimp only
  rw [start]
  generalize (allStations.filter fun st => (s.station st).issues i).foldl (fun s st => leaveBinding forceLeaving st s) s = t at *
  refine ⟨?_, fun st => (stations st).trans (if_congr (mem st) rfl rfl)⟩
  rw [frame]
  rfl

/-! ## FORCE_RETIRE of a TRANSPORT record (R93) -/

/-- What a station whose package names a force-retired transport record gives up (R93). -/
def forceVacating : Vacating :=
  { disposal := fun _ => .void, left := fun k => { k.stop with package := none }.forceUnbound, latched := fun _ => 0 }

/-- The station's package names the record as its transport. -/
def Station.uses (k : Station) (i : SlotId) : Bool :=
  match k.package with
  | some p => p.transport == some i
  | none => false

theorem exists_of_uses {k : Station} {i : SlotId} (h : k.uses i = true) : ∃ p, k.package = some p ∧ p.transport = some i := by
  unfold Station.uses at h
  split at h
  · next p hp => exact ⟨p, hp, by simpa using h⟩
  · cases h

theorem mem_usersOf {i : SlotId} {st : StationId} : st ∈ usersOf i s ↔ (s.station st).uses i = true := by
  unfold usersOf Station.uses
  rw [List.mem_filter]
  cases (s.station st).package <;> simp [mem_allStations]

theorem mem_descending_users {i : SlotId} {st : StationId} :
    st ∈ descendingByNumber s (usersOf i s) ↔ (s.station st).uses i = true := by
  rw [mem_descendingByNumber, mem_usersOf]
  refine and_iff_left_of_imp fun h => ?_
  obtain ⟨p, hp, -⟩ := exists_of_uses h
  rw [hp]
  rfl

theorem nodup_usersOf (i : SlotId) (s : State) : (usersOf i s).Nodup := nodup_allStations.filter _

/-- Stations that give up their work one after the other, each as `v` says while nothing disturbs it. -/
theorem foldl_eq_vacateAll {f : StationId → State → State} {v : Vacating} {ok : Station → Prop}
    (hf : ∀ (s : State) st, s.Calm → ok (s.station st) → f st s = vacate v st s) {l : List StationId} (hl : l.Nodup)
    (hs : s.Calm) (hok : ∀ st ∈ l, ok (s.station st)) : l.foldl (fun s st => f st s) s = vacateAll v l s := by
  induction l generalizing s with
  | nil => rfl
  | cons a l ih =>
    obtain ⟨hal, hl⟩ := List.nodup_cons.1 hl
    rw [List.foldl_cons, hf s a hs (hok a (List.mem_cons_self ..))]
    refine ih hl (hs.vacate v a) fun st hst => ?_
    rw [station_vacate, if_neg fun e : st = a => hal (e ▸ hst)]
    exact hok st (List.mem_cons_of_mem _ hst)

theorem forceUser_eq {i : SlotId} {st : StationId} (hs : s.Calm) (hu : (s.station st).uses i = true) :
    forceUser i st s = vacate forceVacating st s := by
  obtain ⟨p, hp, ht⟩ := exists_of_uses hu
  have stopped := station_stopWork s st
  have held : ((stopWork st s).station st).package = some p := by rw [stopped]; exact hp
  unfold forceUser
  rw [hp]
  dsimp only
  rw [if_pos ht, surrender_of_calm (f := (·.forceUnbound)) (stopWork_calm hs st) held, stopped, vacate_of_package hp,
    show forceVacating.latched (s.station st) = 0 from rfl, latched_or_nothing]
  rfl

/-- A record without key material keeps a number's entry whatever becomes of the package. -/
theorem Slot.dispose_of_not_live {sl : Slot} (h : ∀ a, sl.account = some a → ¬ a.state.isLive = true) (d : Disposal) (n : Nat) :
    sl.dispose d n = sl := by
  have settlement {a : Account} (ha : ¬ a.state.isLive = true) (k : Settlement) : a.afterSettlement k n = none := by
    unfold Account.afterSettlement
    split
    · exact if_neg fun both => ha both.1
    · rfl
  unfold Slot.dispose
  split
  · rfl
  · next a ha =>
    have none : a.afterDisposal d n = none := by
      cases d with
      | confirm | void => exact settlement (h a ha) _
      | giveBack =>
        unfold Account.afterDisposal
        dsimp only
        split
        · rw [if_neg fun both => h a ha both.1]
          exact settlement (h a ha) _
        · rfl
    rw [none]

theorem slotAfter_of_not_live {sl : Slot} (h : ∀ a, sl.account = some a → ¬ a.state.isLive = true) (d : StationId → Disposal)
    (order : List StationId) : s.slotAfter d order sl = sl := by
  refine List.foldl_fixed' (fun st => ?_) order
  split
  · exact Slot.dispose_of_not_live h ..
  · rfl

theorem Slot.retire_of_account {sl : Slot} {a : Account} (h : sl.account = some a) :
    sl.retire =
      { account := some { a with state := .retired }, words := recordWords { a with state := .retired } none, waiting := [] } := by
  rw [Slot.retire, h]
  rfl

theorem Slot.forceRetire_of_base {sl : Slot} {a : Account} {iss : Issuance} (h : sl.account = some a) (hp : a.part = .base iss) :
    sl.forceRetire =
      { account := some { a with part := .base iss.voidAll, state := .retired }
        words := recordWords { a with part := .base iss.voidAll, state := .retired } none, waiting := [] } := by
  have voided : a.mapIssuance Issuance.voidAll = { a with part := .base iss.voidAll } := by rw [Account.mapIssuance, hp]
  rw [Slot.forceRetire, h]
  dsimp only
  rw [voided]
  rfl

theorem State.Calm.setSlot (h : s.Calm) {i : SlotId} {x : Slot} (hr : x.readable = true) (hw : x.waiting = []) :
    (s.setSlot i x).Calm := by
  refine ⟨fun j => ?_, fun j => ?_⟩ <;> rw [slot_setSlot]
  · split
    · exact hr
    · exact h.1 j
  · split
    · exact hw
    · exact h.2 j

/-- What is left when the stations whose packages name a record as their transport have given up their work. -/
theorem vacateAll_users (v : Vacating) (i : SlotId) (s : State) :
    let l := descendingByNumber s (usersOf i s)
    let user st := (s.station st).uses i
    let t := vacateAll v l s
    t = { s with
        table := t.table, stations := t.stations, engine := s.engine.abandon (ofStations user)
        events := { s.events with latched := l.foldl (fun x st => x ||| v.latched (s.station st)) s.events.latched } } ∧
      (∀ st, t.station st = if user st then v.left (s.station st) else s.station st) ∧
      ∀ j, ∃ order, s.PackagesInOrder user j order ∧
        t.slot j = s.slotAfter (fun st => v.disposal (s.station st)) order (s.slot j) := by
  intro l user t
  have mem (st : StationId) : st ∈ l ↔ user st = true := mem_descending_users
  obtain ⟨frame, stations, slots⟩ := vacateAll_eq (nodup_descendingByNumber (s := s) (nodup_usersOf i s)) v s
  rw [ofStations_of_mem mem] at frame
  refine ⟨frame, fun st => (stations st).trans (if_congr (mem st) rfl rfl),
    fun j => ⟨_, packagesInOrder_of_descending (nodup_usersOf i s) (fun st h => mem_usersOf.2 h) j, (slots j).trans ?_⟩⟩
  refine congrArg (fun order => s.slotAfter _ order _) (List.filter_congr fun st hst => ?_)
  rw [show (s.station st).uses i = true from (mem st).1 hst, Bool.true_and]
  rfl

/-- FORCE_RETIRE of a transport record, where every record passes its read-check and no station waits on a list. -/
theorem forceRetireTransport_eq {i : SlotId} {a : Account} (hs : s.Calm) (ha : s.account i = some a) :
    let t := forceRetireTransport i s
    let user st := (s.station st).uses i
    t = { s with table := t.table, stations := t.stations, engine := s.engine.abandon (ofStations user) } ∧
      t.slot i = (s.slot i).retire ∧
      (∀ j, j ≠ i → ∃ order, s.PackagesInOrder user j order ∧ t.slot j = s.slotAfter (fun _ => .void) order (s.slot j)) ∧
      ∀ st, t.station st = if user st then forceVacating.left (s.station st) else s.station st := by
  intro t user
  have retired := Slot.retire_of_account (sl := s.slot i) ha
  have calm : (s.modifySlot i Slot.retire).Calm :=
    hs.setSlot (by rw [retired]; simp [Slot.readable, Slot.agrees, recordWords, closeWords, wordSum]) (by rw [retired])
  have start : t = vacateAll forceVacating (descendingByNumber (s.modifySlot i Slot.retire) (usersOf i (s.modifySlot i Slot.retire)))
      (s.modifySlot i Slot.retire) :=
    foldl_eq_vacateAll (ok := fun k => k.uses i = true) (fun s st hs hu => forceUser_eq hs hu)
      (nodup_descendingByNumber (nodup_usersOf ..)) calm fun st hst => mem_descending_users.1 hst
  obtain ⟨frame, stations, slots⟩ := vacateAll_users forceVacating i (s.modifySlot i Slot.retire)
  rw [← start] at frame stations slots
  have latched (x : BitVec 19) (l : List StationId) :
      l.foldl (fun x st => x ||| forceVacating.latched ((s.modifySlot i Slot.retire).station st)) x = x :=
    List.foldl_fixed' (f := fun x st => x ||| forceVacating.latched _) (fun _ => latched_or_nothing x) l
  rw [latched] at frame
  refine ⟨?_, ?_, fun j hj => ?_, stations⟩
  · generalize t = t at frame
    rw [frame]
    rfl
  · obtain ⟨order, -, slot⟩ := slots i
    rw [slot, show (s.modifySlot i Slot.retire).slot i = (s.slot i).retire from slot_setSlot_self .., slotAfter_of_not_live]
    rw [retired]
    rintro b ⟨⟩
    exact nofun
  · obtain ⟨order, inOrder, slot⟩ := slots j
    rw [show (s.modifySlot i Slot.retire).slot j = s.slot j from slot_setSlot_of_ne _ hj _] at slot
    exact ⟨order, inOrder, slot⟩

/-! ## The actions on a record's fields, and CLEAR_TAMPER (R47, R90, R172) -/

theorem mapIssuance_of_base {a : Account} {iss : Issuance} (hp : a.part = .base iss) (f : Issuance → Issuance) :
    a.mapIssuance f = { a with part := .base (f iss) } := by rw [Account.mapIssuance, hp]

end

/-- The operands of an APPROVE that names the ticket. -/
theorem approve_operands {t : Ticket} {n hi lo : Byte} (hn : t.number = n.toNat) (ham : t.amount = (hi ++ lo : BitVec 16)) :
    ∃ n' act slot hi' lo' : Byte, [n, t.action.code, BitVec.ofNat 8 t.slot.val, hi, lo] = [n', act, slot, hi', lo'] ∧
      t.number = n'.toNat ∧ act = t.action.code ∧ slot.toNat = t.slot.val ∧ t.amount = (hi' ++ lo' : BitVec 16) :=
  ⟨_, _, _, _, _, rfl, hn, rfl, toNat_ofNat_slot _, ham⟩

section
variable {s : State} {l : Line} {t : Ticket} {before after : List Ticket} {p : Payload}

theorem executeForceRetire_of_account {i : SlotId} {a : Account} (ha : s.account i = some a) :
    executeForceRetire i s = if a.part.isBase then forceRetireBase i s else forceRetireTransport i s := by
  rw [executeForceRetire, ha]

/-- RELEASE_QUARANTINED: the slot is emptied, and the other OPEN tickets that name it fall (R94, R89). -/
theorem SecondApproval.releases (h : SecondApproval s l before t after p)
    (hd : ((before ++ t :: after).map (·.number)).Nodup) (hact : t.action = .releaseQuarantined)
    (hr : (s.slot t.slot).readable = true) {a : Account} (ha : s.account t.slot = some a) (hq : a.state = .quarantined) :
    let falls (x : Ticket) : Bool := x.isOpen && x.slot == t.slot && x.action != .clearTamper
    let fallen (x : Ticket) : Ticket := if falls x then { x with state := .failed .badState } else x
    let noticed := s.events.latched ||| Event.ticketExecuted.bit
    exec (.approve l p) s = .next
      (answeredLine l 0x43 .ok [1, 0, (t.approvals ||| lineBit l).setWidth 8]
        { s.setSlot t.slot Slot.empty with
          approval :=
            { s.approval with
              tickets :=
                before.map fallen ++ { t with approvals := t.approvals ||| lineBit l, state := .executed } :: after.map fallen
              finished := s.approval.finished ++ t.number :: ((before ++ after).filter falls).map (·.number) }
          events :=
            { s.events with
              latched := if (before ++ after).any falls then noticed ||| Event.ticketFailed.bit else noticed } }) := by
  intro falls fallen noticed
  have admitted : precondition t.action t.slot (approvedState s before t after l) = (approvedState s before t after l, true) :=
    precondition_approved (by rw [hact]; nofun) hr ha
      ((admitsRecord_iff (by rw [hact]; nofun)).2 ⟨a, rfl, .inr (.inr (.inr ⟨hact, hq⟩))⟩)
  have applied : applyAction (t.approvedBy l) (approvedState s before t after l) =
      (approvedState s before t after l).setSlot t.slot Slot.empty := by
    rw [applyAction, show (t.approvedBy l).action = .releaseQuarantined from hact]
    rfl
  let w : State := { (executedState s before t after l).setSlot t.slot Slot.empty with tamper := s.tamper }
  let t' : Ticket := { t with approvals := t.approvals ||| lineBit l, state := .executed }
  have executed : executeTicket (t.approvedBy l) (approvedState s before t after l) = afterAction (t.approvedBy l) w :=
    executeTicket_approved h.others admitted applied rfl rfl
  have after' : afterAction (t.approvedBy l) w = failTicketsOn t.slot w := by
    rw [afterAction, show (t.approvedBy l).action = .releaseQuarantined from hact]
    rfl
  have tickets : w.approval.tickets = before ++ t' :: after := rfl
  have stands : falls t' = false := rfl
  have failed : failTicketsOn t.slot w =
      { w with
        approval :=
          { w.approval with
            tickets := (before ++ t' :: after).map fallen
            finished := (s.approval.finished ++ [t.number]) ++ ((before ++ t' :: after).filter falls).map (·.number) }
        events :=
          { w.events with
            latched := if (before ++ t' :: after).any falls then noticed ||| Event.ticketFailed.bit else noticed } } :=
    failTicketsOn_of_nodup t.slot (s := w) (by rw [tickets]; simpa using hd)
  have map : (before ++ t' :: after).map fallen = before.map fallen ++ t' :: after.map fallen := by
    rw [List.map_append, List.map_cons]
    rfl
  have filter : (before ++ t' :: after).filter falls = (before ++ after).filter falls := by
    rw [List.filter_append, List.filter_cons_of_neg (by rw [stands]; nofun), List.filter_append]
  have any : (before ++ t' :: after).any falls = (before ++ after).any falls := by
    rw [List.any_append, List.any_cons, stands, Bool.false_or, List.any_append]
  rw [map, filter, any, List.append_assoc, List.singleton_append] at failed
  refine h.carriedOut (before' := before.map fallen) (t' := t') (after' := after.map fallen)
    (executed.trans (after'.trans failed)) ?_ rfl ?_ rfl
  · exact h.settled
  · intro x hx
    obtain ⟨y, hy, rfl⟩ := List.mem_map.1 hx
    have number : (fallen y).number = y.number := by
      dsimp only [fallen]
      split <;> rfl
    rw [number]
    exact h.others y (List.mem_append_left _ hy)

end

/-- Settles O37: each action of a second approval by what it does to records and stations. -/
theorem secondApprovalExecutes : Obligations.SecondApprovalExecutes := by
  refine ⟨fun s l t before after n hi lo a hl he hd hu hnodup hopen hn ham hone hnew ha hr => ?_,
    fun s l t n hi lo hl he hu hopen hn ham hone hnew => ⟨fun a iss hact hd hr ha hpart hlive => ?_,
    fun a hact hd hr ha hlive => ?_, fun hact hslot hd h1 h2 h3 => ?_, fun hact hd hr hdead => ?_⟩⟩
  · rw [hu] at hnodup
    have second : SecondApproval s l before t after [n, t.action.code, BitVec.ofNat 8 t.slot.val, hi, lo] :=
      ⟨hl, he, by rw [hd]; nofun, hu, numbers_differ hnodup, hopen, hone, hnew, approve_operands hn ham⟩
    refine ⟨fun hact hq => ?_, fun iss hact hpart hlive => ?_, fun m hact hpart hlive hsound hw => ?_⟩
    · have code : t.action.code = 4 := by rw [hact]; rfl
      rw [code] at second
      exact second.releases hnodup hact hr ha hq
    · have code : t.action.code = 3 := by rw [hact]; rfl
      have admitted : precondition t.action t.slot (approvedState s before t after l) = (approvedState s before t after l, true) :=
        precondition_approved (by rw [hact]; nofun) hr ha
          ((admitsRecord_iff (by rw [hact]; nofun)).2 ⟨a, rfl, .inr (.inr (.inl ⟨hact, hlive⟩))⟩)
      have applied : applyAction (t.approvedBy l) (approvedState s before t after l) =
          forceRetireBase t.slot (approvedState s before t after l) := by
        rw [applyAction, show (t.approvedBy l).action = .forceRetire from hact]
        exact (executeForceRetire_of_account (s := approvedState s before t after l) ha).trans (if_pos (by rw [hpart]; rfl))
      obtain ⟨frame, stations⟩ := forceRetireBase_eq t.slot (approvedState s before t after l)
      rw [code] at second
      generalize forceRetireBase t.slot (approvedState s before t after l) = v at *
      have slot (j : SlotId) : v.slot j = (s.modifySlot t.slot Slot.forceRetire).slot j := by
        rw [frame]
        rfl
      refine ⟨_, second.executes (by rw [hact]; nofun) admitted applied (by rw [frame]) ?_ rfl, ?_, ?_, fun j hj => ?_, fun st => ?_⟩
      · rw [frame]
        exact he.abandon _
      · rw [frame]
        rfl
      · refine (slot t.slot).trans ((slot_setSlot_self ..).trans ?_)
        exact Slot.forceRetire_of_base (sl := s.slot t.slot) (a := a) ha hpart
      · exact (slot j).trans (slot_setSlot_of_ne _ hj _)
      · have station := stations st
        refine ⟨fun hn => station.trans (if_neg ?_), fun hhit => ⟨fun hserve => ?_, fun hidle => ?_, fun hheld => ?_⟩⟩
        · exact fun h : (s.station st).issues t.slot = true => by rw [show (s.station st).issues t.slot = false from hn] at h; cases h
        · exact (station.trans (if_pos hhit)).trans (Station.forceUnbound_eq hserve)
        · exact (station.trans (if_pos hhit)).trans (Station.forceUnbound_of_idle hidle)
        · exact (station.trans (if_pos hhit)).trans (Station.forceUnbound_of_departing hheld)
    · have code : t.action.code = 3 := by rw [hact]; rfl
      have admitted : precondition t.action t.slot (approvedState s before t after l) = (approvedState s before t after l, true) :=
        precondition_approved (by rw [hact]; nofun) hr ha
          ((admitsRecord_iff (by rw [hact]; nofun)).2 ⟨a, rfl, .inr (.inr (.inl ⟨hact, hlive.imp_right .inl⟩))⟩)
      have applied : applyAction (t.approvedBy l) (approvedState s before t after l) =
          forceRetireTransport t.slot (approvedState s before t after l) := by
        rw [applyAction, show (t.approvedBy l).action = .forceRetire from hact]
        exact (executeForceRetire_of_account (s := approvedState s before t after l) ha).trans (if_neg (by rw [hpart]; nofun))
      obtain ⟨frame, own, slots, stations⟩ :=
        forceRetireTransport_eq (s := approvedState s before t after l) (i := t.slot) ⟨hsound, hw⟩ ha
      rw [code] at second
      generalize forceRetireTransport t.slot (approvedState s before t after l) = v at *
      refine ⟨_, second.executes (by rw [hact]; nofun) admitted applied (by rw [frame]) ?_ rfl, ?_, ?_, slots,
        fun st => ⟨fun hn => (stations st).trans (if_neg ?_), fun hhit hserve => (stations st).trans ((if_pos hhit).trans ?_)⟩⟩
      · rw [frame]
        exact he.abandon _
      · rw [frame]
        rfl
      · exact own.trans (Slot.retire_of_account (sl := s.slot t.slot) ha)
      · exact fun h : (s.station st).uses t.slot = true => by rw [show (s.station st).uses t.slot = false from hn] at h; cases h
      · exact Station.forceUnbound_of_serving hserve none
  all_goals
    have second (hd : ∀ k, s.device ≠ .starting k) : SecondApproval s l [] t [] [n, t.action.code, BitVec.ofNat 8 t.slot.val, hi, lo] :=
      ⟨hl, he, hd, hu, fun x hx => absurd hx List.not_mem_nil, hopen, hone, hnew, approve_operands hn ham⟩
  · have code : t.action.code = 1 := by rw [hact]; rfl
    have admitted : precondition t.action t.slot (approvedState s [] t [] l) = (approvedState s [] t [] l, true) :=
      precondition_approved (by rw [hact]; nofun) hr ha
        ((admitsRecord_iff (by rw [hact]; nofun)).2 ⟨a, rfl, .inl ⟨hact, by rw [hpart]; rfl, hlive⟩⟩)
    have applied : applyAction (t.approvedBy l) (approvedState s [] t [] l) =
        (approvedState s [] t [] l).setSlot t.slot
          ((s.slot t.slot).write
            { a with part := .base { iss with allowance := min (iss.allowance + t.amount.toNat) 65535 } }
            (s.slot t.slot).secret) := by
      rw [applyAction, show (t.approvedBy l).action = .grant from hact]
      refine congrArg (State.setSlot _ t.slot) ((Slot.update_of_account (sl := s.slot t.slot) ha _).trans ?_)
      rw [mapIssuance_of_base hpart]
      rfl
    rw [code] at second
    exact (second (by rw [hd]; nofun)).executes (by rw [hact]; nofun) admitted applied rfl he rfl
  · have code : t.action.code = 2 := by rw [hact]; rfl
    have admitted : precondition t.action t.slot (approvedState s [] t [] l) = (approvedState s [] t [] l, true) :=
      precondition_approved (by rw [hact]; nofun) hr ha
        ((admitsRecord_iff (by rw [hact]; nofun)).2 ⟨a, rfl, .inr (.inl ⟨hact, hlive⟩)⟩)
    have applied : applyAction (t.approvedBy l) (approvedState s [] t [] l) =
        (approvedState s [] t [] l).setSlot t.slot
          ((s.slot t.slot).write
            { a with permissions := (a.permissions ||| t.amount.setWidth 4) &&& a.part.validFlags } (s.slot t.slot).secret) := by
      rw [applyAction, show (t.approvedBy l).action = .widen from hact]
      exact congrArg (State.setSlot _ t.slot) (Slot.update_of_account (sl := s.slot t.slot) ha _)
    rw [code] at second
    exact (second (by rw [hd]; nofun)).executes (by rw [hact]; nofun) admitted applied rfl he rfl
  · have code : t.action.code = 5 := by rw [hact]; rfl
    have admitted : precondition t.action t.slot (approvedState s [] t [] l) = (approvedState s [] t [] l, true) := by
      have quiet : s.tamper.anyActive = false := Bool.eq_false_iff.2 fun h => by
        rcases anyActive_iff.1 h with h | h | h
        · rw [h1] at h; cases h
        · rw [h2] at h; cases h
        · exact h3 h
      have open' : (s.device == .tampered && !s.tamper.anyActive) = true := by rw [hd, quiet]; rfl
      rw [hact, precondition_clearTamper]
      exact congrArg (Prod.mk _) open'
    have applied : applyAction (t.approvedBy l) (approvedState s [] t [] l) = executeClearTamper (approvedState s [] t [] l) := by
      rw [applyAction, show (t.approvedBy l).action = .clearTamper from hact]
    rw [code, hslot] at second
    exact (second (by rw [hd]; nofun)).executes (by rw [hact]; nofun) admitted applied rfl he rfl
  · have code : t.action.code = 1 := by rw [hact]; rfl
    have refused : precondition t.action t.slot (approvedState s [] t [] l) = (approvedState s [] t [] l, false) := by
      rw [precondition_of_record (s := approvedState s [] t [] l) (by rw [hact]; nofun) hr]
      refine congrArg (Prod.mk _) (Bool.eq_false_iff.2 fun had => ?_)
      obtain ⟨b, hb, hcase⟩ := (admitsRecord_iff (by rw [hact]; nofun)).1 had
      obtain ⟨na, ns⟩ := hdead b hb
      rcases hcase with ⟨-, -, live⟩ | ⟨other, -⟩ | ⟨other, -⟩ | ⟨other, -⟩
      · exact live.elim na ns
      all_goals rw [hact] at other; cases other
    have failed := executeTicket_of_not_admitted (k := t.approvedBy l) refused
    rw [finish_approved fun x hx => absurd hx List.not_mem_nil] at failed
    rw [code] at second
    exact (second (by rw [hd]; nofun)).carriedOut (before' := []) (after' := [])
      (t' := { t with approvals := t.approvals ||| lineBit l, state := .failed .badState }) failed he rfl
      (fun x hx => absurd hx List.not_mem_nil) rfl

end Sys2Proof.Machine

/-! # The quarantine of a record (R157, R160, R161) -/

namespace Sys2Proof.Machine

section
variable {s : State} {i : SlotId} {a : Account}

/-- No station waits on a list. -/
def State.NoneWaits (s : State) : Prop := ∀ i, (s.slot i).waiting = []

/-! ## The giving up of a package where no station waits on a list -/

theorem openRoom_of_no_list {q : Quarantine} {busy : List SlotId} (h : (s.slot i).waiting = []) (full : Bool) :
    openRoom q busy i full s = s := by
  unfold openRoom
  rw [h]
  exact ite_self _

/-- A package given up within a quarantine on a record that passes its read-check. -/
theorem giveUp_of_calm {q : Quarantine} {busy : List SlotId} {d : Disposal} {st : StationId} {p x : Package} {after : State → State}
    (h : s.Calm) (hp : (s.station st).package = some x) (ha : ∀ u : State, (after u).table = u.table) :
    giveUp q busy d st p after s =
      after ((disposeNumber d p.base p.number s).modifyStation st fun k => { k with package := none }) := by
  have list : ((after ((disposeNumber d p.base p.number s).modifyStation st fun k => { k with package := none })).slot
      p.base).waiting = [] := by
    have slot : (after ((disposeNumber d p.base p.number s).modifyStation st fun k => { k with package := none })).slot p.base =
        (s.slot p.base).dispose d p.number := by
      rw [State.slot, ha]
      exact slot_setSlot_self ..
    rw [slot, Slot.dispose_waiting]
    exact h.2 p.base
  unfold giveUp
  dsimp only
  rw [readCheck_of_readable (h.1 p.base), hp]
  exact openRoom_of_no_list list _

/-! ## The stations that a quarantine reaches (R130, R131) -/

/-- STATION_HELD is latched when INTEGRITY is new (R126). -/
def heldNow (k : Station) : BitVec 19 :=
  if k.holds &&& HoldCondition.integrity.bit == 0 then Event.stationHeld.bit else 0

theorem integrity_bit : ∀ h : BitVec 5, (h &&& HoldCondition.integrity.bit = HoldCondition.integrity.bit) ↔
    ¬ (h &&& HoldCondition.integrity.bit == 0) = true := by decide

/-- What a quarantine leaves of a station bound to the record (R130). -/
def expelledStation (k : Station) : Station :=
  if k.state.isServing then haltedStation none k
  else
    { k with
      state := .held, base := none, holds := k.holds ||| HoldCondition.integrity.bit, timer := .stopped, identity := none,
      package := none, armed := false, disarmAfter := false }

/-- The expulsion of a bound station (R130). -/
def expelling : Leaving := { quits := fun k => k.state.isServing, left := expelledStation, latched := heldNow }

/-- Giving up the package that a quarantined transport record protects (R131). -/
def halting : Vacating :=
  { disposal := fun k => disposalIn k.state, left := fun k => haltedStation k.base k, latched := heldNow }

theorem hold_integrity (st : StationId) (s : State) :
    hold .integrity st s =
      { s.setStation st ((s.station st).hold .integrity) with
        events := { s.events with latched := s.events.latched ||| heldNow (s.station st) } } := by
  unfold hold heldNow
  dsimp only
  by_cases h : (s.station st).holds &&& HoldCondition.integrity.bit = HoldCondition.integrity.bit
  · rw [if_pos h, if_neg ((integrity_bit _).1 h), latched_or_nothing]
    rfl
  · rw [if_neg h, if_pos (not_not.1 fun e => h ((integrity_bit _).2 e))]
    rfl

theorem Station.halted_of_stopped (k : Station) (b : Option SlotId) :
    { { k.stop with package := none }.close .aborted with base := b, package := none }.hold .integrity = haltedStation b k := by
  unfold Station.close Station.stop Station.silence haltedStation Station.hold
  dsimp only
  by_cases h : k.present = true
  · simp only [if_pos h, placeFrame]
  · simp only [if_neg h]

theorem quarantineBound_eq (st : StationId) (s : State) : quarantineBound st s = leaveBinding expelling st s := by
  have modify (u : State) (k : Station) (f : Station → Station) : (u.setStation st k).modifyStation st f = u.setStation st (f k) := by
    rw [State.modifyStation, station_setStation_self, setStation_setStation]
  have held (u : State) (k : Station) : hold .integrity st (u.setStation st k) =
      { u.setStation st (k.hold .integrity) with
        events := { u.events with latched := u.events.latched ||| heldNow k } } := by
    rw [hold_integrity, station_setStation_self, setStation_setStation]
    rfl
  unfold quarantineBound leaveBinding
  dsimp only
  by_cases h : (s.station st).state.isServing = true
  · have now : heldNow { { (s.station st).stop with package := none }.close .aborted with base := none, package := none } =
        heldNow (s.station st) := by
      unfold Station.close
      split <;> rfl
    have left : expelling.left (s.station st) = haltedStation none (s.station st) := if_pos h
    have quits (j : Job) : (expelling.quits (s.station st) && j.requester == .station st) = (j.requester == .station st) := by
      rw [show expelling.quits (s.station st) = true from h, Bool.true_and]
    simp only [quits, left]
    have stop : stopWork st s = (abandonJobs (fun j => j.requester == .station st) s).setStation st (s.station st).stop := rfl
    rw [if_pos h, stop, modify, modify, held, now, Station.halted_of_stopped]
    rfl
  · have left : expelling.left (s.station st) = { s.station st with base := none, package := none }.hold .integrity := if_neg h
    have quits (j : Job) : (expelling.quits (s.station st) && j.requester == .station st) = false := by
      rw [show expelling.quits (s.station st) = false from Bool.eq_false_iff.2 h, Bool.false_and]
    simp only [quits, left, abandon_nobody]
    rw [if_neg h, State.modifyStation, held]
    rfl

theorem quarantineUser_eq {n : Nat} {busy : List SlotId} {st : StationId} (hs : s.Calm) (hu : (s.station st).uses i = true) :
    quarantineUser (quarantineAt n) busy i st s = vacate halting st s := by
  obtain ⟨p, hp, ht⟩ := exists_of_uses hu
  have stopped := station_stopWork s st
  have held : ((stopWork st s).station st).package = some p := by rw [stopped]; exact hp
  have table (u : State) : (hold .integrity st (placeClose .aborted st u)).table = u.table := by
    rw [hold_integrity]
    rfl
  have now : heldNow ({ (s.station st).stop with package := none }.close .aborted) = heldNow (s.station st) := by
    unfold Station.close
    split <;> rfl
  have left : ({ (s.station st).stop with package := none }.close .aborted).hold .integrity = halting.left (s.station st) := by
    refine Eq.trans ?_ (Station.halted_of_stopped (s.station st) (s.station st).base)
    unfold Station.close
    split <;> rfl
  have after (u : State) (k : Station) : hold .integrity st (placeClose .aborted st (u.setStation st k)) =
      { u.setStation st ((k.close .aborted).hold .integrity) with
        events := { u.events with latched := u.events.latched ||| heldNow (k.close .aborted) } } := by
    rw [placeClose, State.modifyStation, station_setStation_self, setStation_setStation, hold_integrity, station_setStation_self,
      setStation_setStation]
    rfl
  unfold quarantineUser
  rw [hp]
  dsimp only
  rw [if_pos ht, giveUp_of_calm (stopWork_calm hs st) held table, State.modifyStation, after, vacate_of_package hp]
  have given : ((disposeNumber (disposalIn (s.station st).state) p.base p.number (stopWork st s)).station st) = (s.station st).stop :=
    stopped
  rw [given, left, now]
  rfl

/-! ## R160 and the first step of R161 -/

theorem condemned_frame (i : SlotId) (a : Account) (s : State) :
    condemned i a s =
      { s with
        table := (condemned i a s).table, lines := (condemned i a s).lines
        engine := s.engine.abandon (Job.names i)
        console :=
          if s.engine.verifies i then { s.console with lastVerify := .abandoned, lastVerifySlot := i, verifyPending := false }
          else s.console
        events :=
          { s.events with
            latched := s.events.latched ||| Event.recordQuarantined.bit |||
              (if s.engine.verifies i then Event.verifyDone.bit else 0) } } := by
  have engine : ((s.modifySlot i Slot.quarantine).latch .recordQuarantined).engine = s.engine := rfl
  unfold condemned
  rw [cancelLines_frame]
  unfold abandonNaming
  dsimp only
  rw [engine]
  by_cases h : s.engine.verifies i = true
  · simp only [if_pos h]
    rfl
  · simp only [if_neg h, latched_or_nothing]
    rfl

theorem quarantined_slot (ha : s.account i = some a) :
    (condemned i a s).slot i =
      { account := some { a with state := .quarantined, assembly := none }
        words := recordWords { a with state := .quarantined, assembly := none } none, waiting := [] } := by
  rw [slot_condemned, if_pos rfl, Slot.quarantine, show (s.slot i).account = some a from ha]
  rfl

theorem condemned_calm (ha : s.account i = some a) (hw : s.NoneWaits) (ho : ∀ j, j ≠ i → (s.slot j).readable = true) :
    (condemned i a s).Calm := by
  have slot (j : SlotId) := slot_condemned i a s j
  refine ⟨fun j => ?_, fun j => ?_⟩
  · by_cases e : j = i
    · rw [e, quarantined_slot ha]
      simp [Slot.readable, Slot.recordState]
    · rw [slot, if_neg e]
      exact ho j e
  · by_cases e : j = i
    · rw [e, quarantined_slot ha]
    · rw [slot, if_neg e]
      exact hw j

/-! ## The whole quarantine where no other record disagrees -/

theorem foldl_or_if {α : Type} (l : List α) (c : α → Bool) (b x : BitVec 19) :
    l.foldl (fun x a => x ||| (if c a then b else 0)) x = x ||| (if l.any c then b else 0) := by
  induction l generalizing x with
  | nil => exact (latched_or_nothing x).symm
  | cons a l ih =>
    rw [List.foldl_cons, ih, List.any_cons, BitVec.or_assoc]
    congr 1
    cases c a <;> cases l.any c <;> simp

theorem expelBound_eq (i : SlotId) (s : State) :
    let t := expelBound i s
    let bound st := (s.station st).base == some i
    t = { s with
        stations := t.stations
        engine := s.engine.abandon (ofStations fun st => bound st && (s.station st).state.isServing)
        events :=
          { s.events with
            latched := s.events.latched |||
              (if (List.finRange 8).any fun st => bound st && (s.station st).holds &&& HoldCondition.integrity.bit == 0 then
                Event.stationHeld.bit else 0) } } ∧
      ∀ st, t.station st = if bound st then expelledStation (s.station st) else s.station st := by
  intro t bound
  have mem (st : StationId) : st ∈ boundTo i s ↔ bound st = true := by simp [mem_boundTo, bound]
  obtain ⟨frame, stations⟩ := leaveBinding_all (nodup_boundTo i s) expelling s
  have same : (boundTo i s).foldl (fun s st => leaveBinding expelling st s) s = t := by
    simp only [← quarantineBound_eq]
    rfl
  rw [same] at frame stations
  have engine : (fun j : Job => (boundTo i s).any fun st => expelling.quits (s.station st) && j.requester == .station st) =
      ofStations fun st => bound st && (s.station st).state.isServing := by
    funext j
    rw [Bool.eq_iff_iff, ofStations, List.any_eq_true, List.any_eq_true]
    simp [mem, expelling, and_assoc]
  have latched : (boundTo i s).foldl (fun x st => x ||| expelling.latched (s.station st)) s.events.latched =
      s.events.latched |||
        (if (List.finRange 8).any fun st => bound st && (s.station st).holds &&& HoldCondition.integrity.bit == 0 then
          Event.stationHeld.bit else 0) := by
    refine (foldl_or_if (boundTo i s) (fun st => (s.station st).holds &&& HoldCondition.integrity.bit == 0) _ _).trans ?_
    refine congrArg (fun c : Bool => s.events.latched ||| (if c then Event.stationHeld.bit else 0)) ?_
    rw [Bool.eq_iff_iff, List.any_eq_true, List.any_eq_true]
    simp [mem]
  rw [engine, latched] at frame
  exact ⟨frame, fun st => (stations st).trans (if_congr (mem st) rfl rfl)⟩

theorem ofStations_or (f g : StationId → Bool) (j : Job) : (ofStations f j || ofStations g j) = ofStations (fun st => f st || g st) j := by
  rw [Bool.eq_iff_iff, Bool.or_eq_true]
  simp only [ofStations, List.any_eq_true, Bool.and_eq_true, Bool.or_eq_true, or_and_right, and_or_left, exists_or]

/-- The order of R125 among stations that two states agree on. -/
theorem packagesInOrder_congr {s t : State} {hit : StationId → Bool} {order : List StationId}
    (h : ∀ st, hit st = true → t.station st = s.station st) (ho : t.PackagesInOrder hit i order) : s.PackagesInOrder hit i order := by
  obtain ⟨mem, sorted⟩ := ho
  have hits {st : StationId} (hst : st ∈ order) : t.station st = s.station st := h st ((mem st).1 hst).1
  refine ⟨fun st => (mem st).trans (and_congr_right fun hst => by rw [h st hst]), sorted.imp_of_mem fun {x y} hx hy => ?_⟩
  rw [hits hx, hits hy]
  exact id

theorem uses_of_no_package {k : Station} (h : k.package = none) (i : SlotId) : k.uses i = false := by rw [Station.uses, h]

theorem expelledStation_package (k : Station) : (expelledStation k).package = none := by
  unfold expelledStation
  split <;> rfl

/-- What the read of a record that disagrees changes, where every other record passes and no station waits on a list. -/
theorem check_of_failing (ha : s.account i = some a) (hbad : (s.slot i).readable = false) (hw : s.NoneWaits)
    (ho : ∀ j, j ≠ i → (s.slot j).readable = true) :
    let t := check i s
    let bound st := (s.station st).base == some i
    let user st := !bound st && (s.station st).uses i
    t = { s with
        table := t.table, stations := t.stations, lines := t.lines
        console :=
          if s.engine.verifies i then { s.console with lastVerify := .abandoned, lastVerifySlot := i, verifyPending := false }
          else s.console
        engine :=
          s.engine.abandon fun j =>
            j.names i || ofStations (fun st => bound st && (s.station st).state.isServing || user st) j
        events :=
          { s.events with
            latched := s.events.latched ||| Event.recordQuarantined.bit ||| (if s.engine.verifies i then Event.verifyDone.bit else 0) |||
              (if (List.finRange 8).any fun st =>
                  (bound st || user st) && (s.station st).holds &&& HoldCondition.integrity.bit == 0 then Event.stationHeld.bit
                else 0) } } ∧
      (∀ l, t.line l = (condemned i a s).line l) ∧
      (∀ st, t.station st =
        if bound st then expelledStation (s.station st)
        else if user st then haltedStation (s.station st).base (s.station st) else s.station st) ∧
      ∀ j, j ≠ i → ∃ order, s.PackagesInOrder user j order ∧
        t.slot j = s.slotAfter (fun st => disposalIn (s.station st).state) order (s.slot j) := by
  intro t bound user
  have condemnedFrame := condemned_frame i a s
  have calm := condemned_calm ha hw ho
  have slots (j : SlotId) (hj : j ≠ i) : (condemned i a s).slot j = s.slot j := (slot_condemned i a s j).trans (if_neg hj)
  have whole : t = (descendingByNumber (expelBound i (condemned i a s)) (usersOf i (expelBound i (condemned i a s)))).foldl
      (fun s st => quarantineUser (quarantineAt Config.nestedDepth) [] i st s) (expelBound i (condemned i a s)) :=
    (check_of_not_readable hbad).trans (quarantine_of_record ha (not_quarantined_of_not_readable hbad ha))
  generalize condemned i a s = c at *
  obtain ⟨expelFrame, expelled⟩ := expelBound_eq i c
  have stations (st : StationId) : c.station st = s.station st := by rw [condemnedFrame]; rfl
  have bounds : (fun st => (c.station st).base == some i) = bound := by
    funext st
    rw [stations]
  simp only [stations] at expelFrame expelled
  have calm' : (expelBound i c).Calm := by rw [expelFrame]; exact calm
  have slots' (j : SlotId) : (expelBound i c).slot j = c.slot j := by rw [expelFrame]; rfl
  generalize expelBound i c = e at *
  have done : t = vacateAll halting (descendingByNumber e (usersOf i e)) e :=
    whole.trans (foldl_eq_vacateAll (ok := fun k => k.uses i = true) (fun s st hs hu => quarantineUser_eq hs hu)
      (nodup_descendingByNumber (nodup_usersOf i e)) calm' fun st hst => mem_descending_users.1 hst)
  obtain ⟨frame, final, numbers⟩ := vacateAll_users halting i e
  rw [← done] at frame final numbers
  have users (st : StationId) : (e.station st).uses i = user st := by
    rw [expelled]
    by_cases hb : bound st = true
    · rw [if_pos hb, uses_of_no_package (expelledStation_package _)]
      simp [user, hb]
    · rw [if_neg hb]
      simp [user, hb]
  have spared (st : StationId) (hu : user st = true) : e.station st = s.station st := by
    rw [expelled, if_neg]
    intro hb
    rw [show user st = (!bound st && (s.station st).uses i) from rfl, show bound st = true from hb] at hu
    cases hu
  simp only [users] at frame final numbers
  have latched : (descendingByNumber e (usersOf i e)).foldl (fun x st => x ||| halting.latched (e.station st)) e.events.latched =
      e.events.latched |||
        (if (List.finRange 8).any fun st => user st && (s.station st).holds &&& HoldCondition.integrity.bit == 0 then
          Event.stationHeld.bit else 0) := by
    refine (foldl_or_if _ (fun st => (e.station st).holds &&& HoldCondition.integrity.bit == 0) _ _).trans ?_
    refine congrArg (fun c : Bool => e.events.latched ||| (if c then Event.stationHeld.bit else 0)) ?_
    rw [Bool.eq_iff_iff, List.any_eq_true, List.any_eq_true]
    refine exists_congr fun st => ?_
    rw [mem_descending_users, users]
    refine ⟨fun ⟨hu, hc⟩ => ⟨List.mem_finRange st, Bool.and_eq_true_iff.2 ⟨hu, spared st hu ▸ hc⟩⟩, fun ⟨_, h⟩ => ?_⟩
    obtain ⟨hu, hc⟩ := Bool.and_eq_true_iff.1 h
    exact ⟨hu, (spared st hu).symm ▸ hc⟩
  have both : ((List.finRange 8).any fun st => (bound st || user st) && (s.station st).holds &&& HoldCondition.integrity.bit == 0) =
      (((List.finRange 8).any fun st => bound st && (s.station st).holds &&& HoldCondition.integrity.bit == 0) ||
        (List.finRange 8).any fun st => user st && (s.station st).holds &&& HoldCondition.integrity.bit == 0) := by
    rw [Bool.eq_iff_iff, Bool.or_eq_true]
    simp only [List.any_eq_true, Bool.and_eq_true, Bool.or_eq_true, or_and_right, and_or_left, exists_or]
  have joined (x : BitVec 19) (p q : Bool) : (x ||| if p then Event.stationHeld.bit else 0) ||| (if q then Event.stationHeld.bit else 0) =
      x ||| if p || q then Event.stationHeld.bit else 0 := by
    cases p <;> cases q <;> simp [BitVec.or_assoc]
  rw [latched] at frame
  refine ⟨?_, fun l => ?_, fun st => ?_, fun j hj => ?_⟩
  · have engine : t.engine = s.engine.abandon fun j =>
        j.names i || ofStations (fun st => bound st && (s.station st).state.isServing || user st) j := by
      rw [frame, expelFrame, condemnedFrame]
      simp only [abandon_abandon, Bool.or_assoc, ofStations_or]
      rfl
    have events : t.events.latched = s.events.latched ||| Event.recordQuarantined.bit |||
        (if s.engine.verifies i then Event.verifyDone.bit else 0) |||
          (if (List.finRange 8).any fun st => (bound st || user st) && (s.station st).holds &&& HoldCondition.integrity.bit == 0 then
            Event.stationHeld.bit else 0) := by
      rw [both, ← joined, frame, expelFrame, condemnedFrame]
    rw [← engine, ← events, frame, expelFrame, condemnedFrame]
  · rw [frame, expelFrame]
    rfl
  · rw [final]
    by_cases hb : bound st = true
    · have hu : user st = false := by rw [show user st = (!bound st && (s.station st).uses i) from rfl, hb]; rfl
      rw [hu, if_neg Bool.false_ne_true, if_pos hb, expelled]
      exact if_pos hb
    · rw [if_neg hb]
      by_cases hu : user st = true
      · rw [if_pos hu, if_pos hu, spared st hu]
        rfl
      · rw [if_neg hu, if_neg hu, expelled]
        exact if_neg hb
  · obtain ⟨order, inOrder, slot⟩ := numbers j
    refine ⟨order, packagesInOrder_congr spared inOrder, ?_⟩
    rw [slot, slots', slots j hj]
    exact slotAfter_congr (fun st hst => by rw [spared st ((inOrder.1 st).1 hst).1]; exact ⟨rfl, rfl⟩) _

end

end Sys2Proof.Machine

/-! # A quarantine that nests (R161) -/

namespace Sys2Proof.Machine

/-! ## What nested quarantines spare where no station waits on a list -/

/-- A station has neither binding nor package. -/
def Station.Loose (k : Station) : Prop := k.base = none ∧ k.package = none

/-- No station waits on a list, no job is added, and the station of `o` is left alone. -/
structure Spares (o : Option StationId) (s t : State) : Prop where
  lists : t.NoneWaits
  jobs : ∀ j ∈ t.engine.heldJobs, j ∈ s.engine.heldJobs
  station : ∀ st ∈ o, t.station st = s.station st

theorem heldJobs_abandon {e : Engine} {p : Job → Bool} {j : Job} : j ∈ (e.abandon p).heldJobs ↔ j ∈ e.heldJobs ∧ p j = false := by
  unfold Engine.heldJobs Engine.abandon
  rw [List.mem_append, List.mem_append, List.mem_filter, or_and_right]
  refine or_congr (and_congr_right fun _ => by simp) ?_
  cases e.service with
  | none => simp
  | some v =>
    cases hd : v.discard <;> cases hp : p v.job
    · simp only [Option.map_some, hp, Bool.false_eq_true, if_false, hd, List.mem_singleton]
      exact ⟨fun e => ⟨e, e ▸ hp⟩, And.left⟩
    · simp only [Option.map_some, hp, if_true, Bool.false_eq_true, if_false, hd, List.mem_singleton, List.not_mem_nil, false_iff]
      rintro ⟨rfl, h⟩
      rw [hp] at h
      cases h
    · simp [hd, hp]
    · simp [hd, hp]

namespace Spares

variable {o : Option StationId} {s t u : State}

theorem refl (h : s.NoneWaits) : Spares o s s := ⟨h, fun _ h => h, fun _ _ => rfl⟩

theorem trans (h : Spares o s t) (k : Spares o t u) : Spares o s u :=
  ⟨k.lists, fun j hj => h.jobs j (k.jobs j hj), fun st hst => (k.station st hst).trans (h.station st hst)⟩

theorem loose (h : Spares o s t) (hl : ∀ st ∈ o, (s.station st).Loose) : ∀ st ∈ o, (t.station st).Loose := fun st hst => by
  rw [h.station st hst]
  exact hl st hst

theorem abandonJobs (h : s.NoneWaits) (p : Job → Bool) : Spares o s (abandonJobs p s) :=
  ⟨h, fun _ hj => (heldJobs_abandon.1 hj).1, fun _ _ => rfl⟩

theorem modifySlot (h : s.NoneWaits) {i : SlotId} {f : Slot → Slot} (hf : (f (s.slot i)).waiting = []) :
    Spares o s (s.modifySlot i f) :=
  ⟨fun j => by
    rw [State.modifySlot, slot_setSlot]
    split
    · exact hf
    · exact h j, fun _ hj => hj, fun _ _ => rfl⟩

theorem condemned (h : s.NoneWaits) (i : SlotId) {a : Account} (ha : s.account i = some a) : Spares o s (condemned i a s) := by
  have slot (j : SlotId) := slot_condemned i a s j
  refine ⟨fun j => ?_, fun j hj => ?_, fun _ _ => by rw [condemned_frame]; rfl⟩
  · by_cases e : j = i
    · rw [e, quarantined_slot ha]
    · rw [slot, if_neg e]
      exact h j
  · rw [engine_condemned] at hj
    exact (heldJobs_abandon.1 hj).1

/-! ### A change of another station -/

section
variable {tt : StationId} (h : s.NoneWaits) (hne : ∀ st ∈ o, st ≠ tt)
include h hne

theorem setStation (k : Station) : Spares o s (s.setStation tt k) :=
  ⟨h, fun _ hj => hj, fun st hst => station_setStation_of_ne _ (hne st hst) _⟩

theorem placeClose (c : CloseCode) : Spares o s (placeClose c tt s) := setStation h hne _

theorem hold (c : HoldCondition) : Spares o s (hold c tt s) := by
  unfold Machine.hold
  dsimp only
  split
  · exact setStation h hne _
  · exact ⟨h, fun _ hj => hj, fun st hst => station_setStation_of_ne _ (hne st hst) _⟩

theorem quarantineBound : Spares o s (quarantineBound tt s) := by
  rw [quarantineBound_eq]
  exact ⟨h, fun _ hj => (heldJobs_abandon.1 hj).1, fun st hst => station_setStation_of_ne _ (hne st hst) _⟩

theorem stopWork : Spares o s (stopWork tt s) :=
  (abandonJobs h _).trans (setStation (s := Machine.abandonJobs _ s) h hne _)

end

theorem foldl {f : StationId → State → State} {l : List StationId} (hl : ∀ st ∈ o, (s.station st).Loose)
    (hf : ∀ (u : State) tt, tt ∈ l → u.NoneWaits → (∀ st ∈ o, (u.station st).Loose) → Spares o u (f tt u)) (hu : Spares o s u) :
    Spares o s (l.foldl (fun s st => f st s) u) := by
  induction l generalizing u with
  | nil => exact hu
  | cons tt l ih =>
    exact ih (fun v x hx => hf v x (List.mem_cons_of_mem _ hx))
      (hu.trans (hf u tt (List.mem_cons_self ..) hu.lists (hu.loose hl)))

/-! ### Within a quarantine -/

section
variable {q : Quarantine}
  (hq : ∀ busy i (u : State), u.NoneWaits → (∀ st ∈ o, (u.station st).Loose) → Spares o u (q busy i u))
include hq

theorem giveUp (h : s.NoneWaits) (hl : ∀ st ∈ o, (s.station st).Loose) {tt : StationId} (hne : ∀ st ∈ o, st ≠ tt)
    (busy : List SlotId) (d : Disposal) (p : Package) :
    Spares o s (giveUp q busy d tt p (fun s => Machine.hold .integrity tt (Machine.placeClose .aborted tt s)) s) := by
  have checked : Spares o s (readCheck q busy p.base s) := by
    unfold readCheck
    split
    · exact refl h
    · exact hq _ _ _ h hl
  unfold Machine.giveUp
  dsimp only
  split
  · exact checked
  · generalize readCheck q busy p.base s = u at checked
    have disposed : Spares o u (disposeNumber d p.base p.number u) :=
      modifySlot checked.lists (by rw [Slot.dispose_waiting]; exact checked.lists _)
    have dropped : Spares o u ((disposeNumber d p.base p.number u).modifyStation tt fun k => { k with package := none }) :=
      disposed.trans (setStation disposed.lists hne _)
    have closed := dropped.trans (placeClose dropped.lists hne .aborted)
    have held := closed.trans (hold closed.lists hne .integrity)
    exact checked.trans (by rw [openRoom_of_no_list (held.lists _)]; exact held)

theorem quarantineUser (h : s.NoneWaits) (hl : ∀ st ∈ o, (s.station st).Loose) (busy : List SlotId) (i : SlotId) (tt : StationId) :
    Spares o s (quarantineUser q busy i tt s) := by
  unfold Machine.quarantineUser
  split
  · exact refl h
  · next p hp =>
    have hne : ∀ st ∈ o, st ≠ tt := by
      rintro st hst rfl
      rw [(hl st hst).2] at hp
      cases hp
    split
    · have stopped : Spares o s (Machine.stopWork tt s) := stopWork h hne
      exact stopped.trans (giveUp hq stopped.lists (stopped.loose hl) hne ..)
    · exact refl h

theorem quarantineStep (h : s.NoneWaits) (hl : ∀ st ∈ o, (s.station st).Loose) (busy : List SlotId) (i : SlotId) :
    Spares o s (quarantineStep q busy i s) := by
  unfold Machine.quarantineStep
  split
  · exact refl h
  · next a ha =>
    split
    · exact refl h
    · have first : Spares o s (Machine.condemned i a s) := condemned h i ha
      refine foldl hl (fun u tt _ hu hl => quarantineUser hq hu hl ..)
        (foldl hl (fun u tt htt hu _ => quarantineBound hu ?_) first)
      rintro st hst rfl
      have bound : ((Machine.condemned i a s).station st).base = some i := mem_boundTo.1 htt
      rw [first.station st hst, (hl st hst).1] at bound
      cases bound

end

theorem quarantineAt (n : Nat) (busy : List SlotId) (i : SlotId) (h : s.NoneWaits) (hl : ∀ st ∈ o, (s.station st).Loose) :
    Spares o s (quarantineAt n busy i s) := by
  induction n generalizing busy i s with
  | zero => exact refl h
  | succ n ih => exact quarantineStep (fun busy i u hu hl => ih busy i hu hl) h hl busy i

end Spares

/-! ## What every quarantine keeps latched -/

theorem keeps_closed : Closed Keeps where
  refl := .refl
  trans := .trans
  setStation s st k := .setStation ..
  latch s e := .latch ..
  abandon s p := .abandonJobs ..
  dispose s d i n := .disposeNumber ..
  leave s i st rest hw := .modifySlot _ _ _ rfl
  take s i st p a iss ha hi hv := .takeNumber _ _ _ _ _ _ (by rw [ha]; rfl)
  condemn s i a ha hbad := ((Keeps.slotQuarantine i s).trans (.latch ..)).trans ((Keeps.abandonNaming ..).trans (.cancelLines ..))

/-- A record that was quarantined stays as the quarantine left it. -/
theorem SlotMoves.of_quarantined {x y : Slot} {a : Account} (h : SlotMoves x y)
    (hx : x =
      { account := some { a with state := .quarantined, assembly := none }
        words := recordWords { a with state := .quarantined, assembly := none } none, waiting := [] }) : y = x := by
  induction h with
  | refl => rfl
  | tail _ move ih =>
    subst ih
    subst hx
    cases move with
    | quarantine => rfl
    | dispose d n => exact Slot.dispose_of_not_live (by rintro b ⟨⟩; exact nofun) d n
    | leave w hw => exact congrArg _ (List.subset_nil.1 hw)
    | take b iss hb hi hv =>
      cases hb
      rw [Account.takeVerdict, if_pos (by simp)] at hv
      cases hv

theorem or_absorbs {x b y : BitVec 19} (h : (x ||| b) &&& y = x ||| b) : y &&& b = b := by
  refine BitVec.eq_of_getLsbD_eq fun n _ => ?_
  have bit := congrArg (·.getLsbD n) h
  simp only [BitVec.getLsbD_and, BitVec.getLsbD_or] at bit ⊢
  revert bit
  cases x.getLsbD n <;> cases b.getLsbD n <;> cases y.getLsbD n <;> decide

/-- What every quarantine of a record leaves, where no station waits on a list. -/
theorem check_reaches {s : State} {i : SlotId} {a : Account} (ha : s.account i = some a) (hbad : (s.slot i).readable = false)
    (hw : s.NoneWaits) :
    (check i s).slot i =
        { account := some { a with state := .quarantined, assembly := none }
          words := recordWords { a with state := .quarantined, assembly := none } none, waiting := [] } ∧
      (check i s).events.latched &&& Event.recordQuarantined.bit = Event.recordQuarantined.bit ∧
      (∀ j ∈ (check i s).engine.heldJobs, j.names i = false) ∧
      ∀ st, (s.station st).base = some i → (check i s).station st = expelledStation (s.station st) := by
  have hq := not_quarantined_of_not_readable hbad ha
  have start : check i s = quarantine [] i s := check_of_not_readable hbad
  have kept : Keeps (condemned i a s) (check i s) := start ▸ keeps_closed.quarantine_tail ha hq
  have moved : SlotMoves ((condemned i a s).slot i) ((check i s).slot i) :=
    (start ▸ (LineKept.closed (l := 0) (i := i)).quarantine_tail ha hq : LineKept 0 i (condemned i a s) (check i s)).table.slot i
  obtain ⟨frame, expelled⟩ := expelBound_eq i (condemned i a s)
  have stations (st : StationId) : (condemned i a s).station st = s.station st := by rw [condemned_frame]; rfl
  have lists : (expelBound i (condemned i a s)).NoneWaits := by
    rw [frame]
    exact (Spares.condemned (o := none) hw i ha).lists
  have spares {o : Option StationId} (hl : ∀ st ∈ o, ((expelBound i (condemned i a s)).station st).Loose) :
      Spares o (expelBound i (condemned i a s)) (check i s) := by
    rw [start, quarantine_of_record ha hq]
    exact Spares.foldl hl
      (fun u tt _ hu hl => Spares.quarantineUser (fun busy i u hu hl => Spares.quarantineAt _ busy i hu hl) hu hl ..) (.refl lists)
  refine ⟨(moved.of_quarantined (quarantined_slot ha)).trans (quarantined_slot ha), ?_, fun j hj => ?_, fun st hb => ?_⟩
  · have latched := kept.latched
    rw [condemned_frame, BitVec.or_assoc, BitVec.or_comm (x := Event.recordQuarantined.bit), ← BitVec.or_assoc] at latched
    exact or_absorbs latched
  · have before := (spares (o := none) nofun).jobs j hj
    rw [frame] at before
    have named := (heldJobs_abandon.1 before).1
    rw [engine_condemned] at named
    exact (heldJobs_abandon.1 named).2
  · have left : (expelBound i (condemned i a s)).station st = expelledStation (s.station st) := by
      rw [expelled, stations]
      refine if_pos ?_
      simp only [stations, hb, BEq.rfl]
    have loose : (expelledStation (s.station st)).Loose := by
      unfold expelledStation
      split <;> exact ⟨rfl, rfl⟩
    refine ((spares (o := some st) ?_).station st rfl).trans left
    rintro tt ⟨⟩
    rw [left]
    exact loose

/-- Settles O32: what every quarantine reaches, and the whole of one that does not nest. -/
theorem failedReadCheckQuarantines : Obligations.FailedReadCheckQuarantines := by
  intro s i a ha hq hsum hw
  have hbad : (s.slot i).readable = false := by
    have used : (s.slot i).account = some a := ha
    simp only [Slot.readable, Slot.agrees, Slot.recordState, used, Option.map_some, Bool.or_eq_false_iff]
    exact ⟨by simpa using hsum, by simpa using hq⟩
  obtain ⟨slot, latched, jobs, stations⟩ := check_reaches ha hbad hw
  refine ⟨slot, by rw [slot]; simp [recordWords, closeWords, wordSum], latched, jobs, fun st hb => ?_, fun ho => ?_⟩
  · rw [stations st hb]
    have new : ∀ h : BitVec 5, (h ||| HoldCondition.integrity.bit) &&& HoldCondition.integrity.bit = HoldCondition.integrity.bit := by
      decide
    unfold expelledStation
    split <;> exact ⟨rfl, rfl, rfl, rfl, new _⟩
  · obtain ⟨frame, lines, final, numbers⟩ := check_of_failing ha hbad hw ho
    refine ⟨frame, fun l => ?_, final, numbers⟩
    rw [lines, line_condemned, CustodianLine.withOutcome]
    exact (ite_and ..).symm

end Sys2Proof.Machine

/-! # The numbers a record owes (R30, R38 to R42)

A number is owed while it stands OUTSTANDING in the window of its record. What a take, a disposal and a bulk void do to the
numbers owed is said once, for the issuance part and then for the slot. -/

namespace Sys2Proof.Machine

namespace Issuance

variable {s : Issuance} {n m : Nat}

/-- Number n stands OUTSTANDING in the window. -/
def Owes (s : Issuance) (n : Nat) : Prop := s.entry? n = some .outstanding

theorem owes_iff : s.Owes n ↔ s.floor ≤ n ∧ s.window[n - s.floor]? = some .outstanding := by
  unfold Owes entry?
  split
  · next h => simp [h]
  · next h => simp [h]

/-- Floor advancement takes settled entries alone out of the window (R39). -/
theorem owes_advance : s.advance.Owes m ↔ s.Owes m := by
  have split := s.window_eq_append_advance
  have floor := s.advance_floor
  have settled : ∀ e ∈ s.window.takeWhile Entry.isSettled, e ≠ .outstanding := fun e he =>
    Entry.isSettled_iff.1 (List.mem_takeWhile_imp he)
  generalize s.window.takeWhile Entry.isSettled = front at split floor settled
  rw [owes_iff, owes_iff, floor, split]
  by_cases h : s.floor + front.length ≤ m
  · rw [List.getElem?_append_right (by omega), show m - s.floor - front.length = m - (s.floor + front.length) by omega]
    exact and_congr_left fun _ => ⟨fun _ => by omega, fun _ => h⟩
  · refine iff_of_false (fun e => h e.1) fun ⟨hle, he⟩ => ?_
    rw [List.getElem?_append_left (by omega)] at he
    exact settled _ (List.mem_of_getElem? he) rfl

theorem owes_settle (k : Settlement) (h : s.Owes n) : (s.settle k n).Owes m ↔ s.Owes m ∧ m ≠ n := by
  obtain ⟨hle, hn⟩ := owes_iff.1 h
  have settled : k.entry ≠ .outstanding := by cases k <;> decide
  refine owes_advance.trans ?_
  rw [owes_iff, owes_iff]
  dsimp only
  rw [List.getElem?_set]
  by_cases e : m = n
  · rw [e]
    simp [settled]
  · refine ⟨fun ⟨hm, hw⟩ => ⟨⟨hm, ?_⟩, e⟩, fun ⟨⟨hm, hw⟩, _⟩ => ⟨hm, ?_⟩⟩
    · rwa [if_neg (by omega)] at hw
    · rwa [if_neg (by omega)]

theorem owes_giveBack (h : s.Lawful) (hn : s.returnable n = true) : (s.giveBack n).Owes m ↔ s.Owes m ∧ m ≠ n := by
  obtain ⟨⟨-, hfn, -, -⟩, -, hlen, -⟩ := h
  obtain ⟨hnext, hback⟩ : n + 1 = s.next ∧ s.window.getLast? = some .outstanding := by
    simpa [Issuance.returnable] using hn
  obtain ⟨w, hw⟩ : ∃ w, s.window = w ++ [.outstanding] := List.getLast?_eq_some_iff.1 hback
  rw [hw, List.length_append, List.length_singleton] at hlen
  rw [owes_iff, owes_iff, hw]
  simp only [giveBack, hw, List.dropLast_concat]
  by_cases hm : m - s.floor < w.length
  · rw [List.getElem?_append_left hm]
    exact ⟨fun h => ⟨h, by omega⟩, And.left⟩
  · refine iff_of_false (fun ⟨_, h⟩ => hm ?_) fun ⟨⟨hle, h⟩, hne⟩ => ?_
    · exact (List.getElem?_eq_some_iff.1 h).1
    · have := (List.getElem?_eq_some_iff.1 h).1
      rw [List.length_append, List.length_singleton] at this
      omega

theorem owes_takeNext (h : s.Lawful) : (s.takeNext).Owes m ↔ s.Owes m ∨ m = s.next := by
  obtain ⟨⟨-, hfn, -, -⟩, -, hlen, -⟩ := h
  rw [owes_iff, owes_iff]
  simp only [takeNext]
  by_cases hm : m - s.floor < s.window.length
  · rw [List.getElem?_append_left hm]
    exact ⟨.inl, fun h => h.resolve_right (by omega)⟩
  · have none : ¬ (s.floor ≤ m ∧ s.window[m - s.floor]? = some .outstanding) := fun h => hm (List.getElem?_eq_some_iff.1 h.2).1
    rw [or_iff_right none, List.getElem?_append_right (by omega)]
    constructor
    · rintro ⟨hle, he⟩
      have := (List.getElem?_eq_some_iff.1 he).1
      rw [List.length_singleton] at this
      omega
    · rintro rfl
      exact ⟨hfn, by rw [hlen, Nat.sub_self]; rfl⟩

theorem not_owes_next (h : s.Lawful) : ¬ s.Owes s.next := fun ho => by
  obtain ⟨⟨-, hfn, -, -⟩, -, hlen, -⟩ := h
  have := (List.getElem?_eq_some_iff.1 (owes_iff.1 ho).2).1
  omega

theorem not_owes_voidAll : ¬ s.voidAll.Owes m := fun h => by
  have := (owes_iff.1 h).2
  simp [voidAll] at this

end Issuance

/-! ## The slot -/

/-- The record in the slot owes number n. -/
def Slot.Owes (sl : Slot) (n : Nat) : Prop := ∃ a iss, sl.account = some a ∧ a.part = .base iss ∧ iss.Owes n

/-- The slot holds a BASE record with its key. -/
def Slot.Issues (sl : Slot) : Prop := ∃ a, sl.account = some a ∧ a.part.isBase = true ∧ a.state.isLive = true

theorem Slot.owes_of_account {sl : Slot} {a : Account} {iss : Issuance} (ha : sl.account = some a) (hp : a.part = .base iss)
    {n : Nat} : sl.Owes n ↔ iss.Owes n := by
  refine ⟨?_, fun h => ⟨a, iss, ha, hp, h⟩⟩
  rintro ⟨b, iss', hb, hp', h⟩
  rw [ha] at hb
  cases hb
  rw [hp] at hp'
  cases hp'
  exact h

theorem Slot.owes_congr {sl x : Slot} (h : x.account = sl.account) {n : Nat} : x.Owes n ↔ sl.Owes n := by
  rw [Slot.Owes, Slot.Owes, h]

theorem Slot.issues_congr {sl x : Slot} (h : x.account = sl.account) : x.Issues ↔ sl.Issues := by
  rw [Slot.Issues, Slot.Issues, h]

theorem Slot.not_owes_of_empty {sl : Slot} (h : sl.account = none) {n : Nat} : ¬ sl.Owes n := by
  rintro ⟨a, -, ha, -⟩
  rw [h] at ha
  cases ha

theorem Slot.Issues.base {sl : Slot} (h : sl.Issues) : ∃ a iss, sl.account = some a ∧ a.part = .base iss ∧ a.state.isLive = true := by
  obtain ⟨a, ha, hb, hl⟩ := h
  cases hp : a.part with
  | transport m => rw [hp] at hb; cases hb
  | base iss => exact ⟨a, iss, ha, hp, hl⟩

/-- A record that issues is in none of the states without key material. -/
theorem Slot.Issues.recordState {sl : Slot} (h : sl.Issues) : ∃ st, sl.recordState = some st ∧ st.isLive = true := by
  obtain ⟨a, ha, -, hl⟩ := h
  exact ⟨a.state, by rw [Slot.recordState, ha]; rfl, hl⟩

theorem Slot.Issues.recordState_ne {sl : Slot} (h : sl.Issues) {st : RecordState} (hst : st.isLive = false) :
    sl.recordState ≠ some st := by
  obtain ⟨x, hx, hl⟩ := h.recordState
  rw [hx]
  rintro ⟨⟩
  rw [hst] at hl
  cases hl

theorem Slot.Issues.not_quarantined {sl : Slot} (h : sl.Issues) : sl.recordState ≠ some .quarantined := h.recordState_ne rfl

/-- What a slot owes is what the model calls outstanding there. -/
theorem State.outstandingAt_iff {s : State} {i : SlotId} {n : Nat} : s.outstandingAt i n ↔ (s.slot i).Owes n := Iff.rfl

/-! ### Disposal -/

theorem Account.afterSettlement_eq {a : Account} {iss : Issuance} (hp : a.part = .base iss) (hl : a.state.isLive = true) {n : Nat}
    (hn : iss.Owes n) (k : Settlement) : a.afterSettlement k n = some { a with part := .base (iss.settle k n) } := by
  unfold afterSettlement
  rw [hp]
  exact if_pos ⟨hl, hn⟩

/-- What every disposal of an OUTSTANDING number leaves of the issuance part and of the state. -/
theorem Account.afterDisposal_eq {a : Account} (h : a.Lawful) {iss : Issuance} (hp : a.part = .base iss) (hl : a.state.isLive = true)
    {n : Nat} (hn : iss.Owes n) (d : Disposal) :
    ∃ iss' st, a.afterDisposal d n = some { a with part := .base iss', state := st } ∧ st.isLive = true ∧
      ∀ m, iss'.Owes m ↔ iss.Owes m ∧ m ≠ n := by
  have settled (k : Settlement) : ∃ iss' st, a.afterSettlement k n = some { a with part := .base iss', state := st } ∧
      st.isLive = true ∧ ∀ m, iss'.Owes m ↔ iss.Owes m ∧ m ≠ n :=
    ⟨iss.settle k n, a.state, afterSettlement_eq hp hl hn k, hl, fun m => Issuance.owes_settle k hn⟩
  cases d with
  | confirm => exact settled .confirm
  | void => exact settled .void
  | giveBack =>
    unfold afterDisposal
    dsimp only
    rw [hp]
    dsimp only
    by_cases hr : iss.returnable n = true
    · rw [if_pos ⟨hl, hr⟩]
      refine ⟨_, _, rfl, ?_, fun m => Issuance.owes_giveBack (h.issuance_lawful hp).1 hr⟩
      split
      · rfl
      · exact hl
    · rw [if_neg fun e => hr e.2]
      exact settled .void

theorem Slot.dispose_of_owed {sl : Slot} (h : sl.Lawful) (hi : sl.Issues) {n : Nat} (hn : sl.Owes n) (d : Disposal) :
    (sl.dispose d n).Issues ∧ ∀ m, (sl.dispose d n).Owes m ↔ sl.Owes m ∧ m ≠ n := by
  obtain ⟨a, iss, ha, hp, hl⟩ := hi.base
  obtain ⟨iss', st, after, live, owes⟩ :=
    Account.afterDisposal_eq ((Slot.lawful_of_account ha).1 h).1 hp hl ((Slot.owes_of_account ha hp).1 hn) d
  have disposed : sl.dispose d n = sl.write { a with part := .base iss', state := st } sl.secret := by
    unfold Slot.dispose
    rw [ha]
    dsimp only
    rw [after]
  rw [disposed]
  refine ⟨⟨_, rfl, rfl, live⟩, fun m => ?_⟩
  rw [Slot.owes_of_account ha hp, Slot.owes_of_account (sl := sl.write _ _) rfl rfl, owes]

/-! ### Taking -/

/-- The record can issue its next number (R33). -/
def Slot.CanTake (sl : Slot) : Prop := ∃ a iss, sl.account = some a ∧ a.part = .base iss ∧ a.takeVerdict iss = .number

theorem Account.takeVerdict_eq_number_iff {a : Account} {s : Issuance} :
    a.takeVerdict s = .number ↔ a.state = .active ∧ a.has .issue = true ∧ s.next ≤ s.last ∧ s.allowance ≠ 0 ∧
      s.windowLength ≠ Config.windowSize := by
  refine ⟨takeVerdict_number, fun ⟨hs, hi, hn, ha, hw⟩ => ?_⟩
  unfold takeVerdict
  rw [if_neg (not_not.2 hs), if_neg (not_not.2 hi), if_neg (by omega), if_neg ha, if_neg hw]

/-- A settlement leaves next where it was and lets floor come no nearer to it than it may. -/
theorem Issuance.settle_frame (s : Issuance) (k : Settlement) (n : Nat) :
    (s.settle k n).next = s.next ∧ (s.settle k n).last = s.last ∧ (s.settle k n).allowance = s.allowance ∧
      s.floor ≤ (s.settle k n).floor :=
  ⟨rfl, rfl, rfl, Nat.le_add_right ..⟩

/-- A disposal never closes a record that could issue. -/
theorem Slot.CanTake.dispose {sl : Slot} (hl : sl.Lawful) (h : sl.CanTake) (d : Disposal) (n : Nat) : (sl.dispose d n).CanTake := by
  obtain ⟨a, iss, ha, hp, hv⟩ := h
  obtain ⟨active, issue, next, allowance, room⟩ := Account.takeVerdict_number hv
  have length : iss.next - iss.floor ≤ 16 := (((Slot.lawful_of_account ha).1 hl).1.issuance_lawful hp).1.2.1
  have short : iss.next - iss.floor < 16 := by
    simp only [Issuance.windowLength, Config.windowSize] at room
    omega
  have wrote {iss' : Issuance} {st : RecordState} (hs : st = .active) (hn : iss'.next ≤ iss.next) (hla : iss'.last = iss.last)
      (hal : iss'.allowance ≠ 0) (hf : iss.floor ≤ iss'.floor) :
      (sl.write { a with part := .base iss', state := st } sl.secret).CanTake := by
    refine ⟨_, iss', rfl, rfl, Account.takeVerdict_eq_number_iff.2 ⟨hs, issue, by omega, hal, ?_⟩⟩
    simp only [Issuance.windowLength, Config.windowSize]
    omega
  have settled (k : Settlement) {b : Account} (hb : a.afterSettlement k n = some b) : (sl.write b sl.secret).CanTake := by
    obtain ⟨hn, hla, hal, hf⟩ := iss.settle_frame k n
    unfold Account.afterSettlement at hb
    rw [hp] at hb
    dsimp only at hb
    split at hb
    · cases hb
      exact wrote active hn.le hla (hal ▸ allowance) hf
    · cases hb
  unfold Slot.dispose
  rw [ha]
  dsimp only
  split
  · exact ⟨a, iss, ha, hp, hv⟩
  · next b hb =>
    cases d with
    | confirm => exact settled .confirm hb
    | void => exact settled .void hb
    | giveBack =>
      unfold Account.afterDisposal at hb
      rw [hp] at hb
      dsimp only at hb
      split at hb
      · next hr =>
        cases hb
        have returned : n + 1 = iss.next := by
          have := hr.2
          simp only [Issuance.returnable, Bool.and_eq_true, beq_iff_eq] at this
          exact this.1
        refine wrote ?_ ?_ rfl ?_ le_rfl
        · rw [active]; rfl
        · show n ≤ iss.next
          omega
        · simp only [Issuance.giveBack, raiseAllowance, Config.maxAllowance]
          omega
      · exact settled .void hb

theorem Slot.owes_write_afterTake {sl : Slot} (hl : sl.Lawful) {a : Account} {iss : Issuance} (ha : sl.account = some a)
    (hp : a.part = .base iss) (k : Option Key) {m : Nat} :
    (sl.write (a.afterTake iss) k).Owes m ↔ sl.Owes m ∨ m = iss.next := by
  rw [Slot.owes_of_account ha hp, Slot.owes_of_account (sl := sl.write _ _) rfl rfl]
  exact Issuance.owes_takeNext (((Slot.lawful_of_account ha).1 hl).1.issuance_lawful hp).1

theorem Slot.issues_write_afterTake {sl : Slot} {a : Account} {iss : Issuance} (hv : a.takeVerdict iss = .number) (k : Option Key) :
    (sl.write (a.afterTake iss) k).Issues := by
  obtain ⟨active, -⟩ := Account.takeVerdict_number hv
  refine ⟨_, rfl, rfl, ?_⟩
  dsimp only [Account.afterTake]
  rw [active]
  split <;> rfl

end Sys2Proof.Machine

/-! # The law of bindings, packages and waiting lists, as it holds inside an event too (R113, R114, R118)

In the middle of an event a station may have lost its timer, or have left a waiting list while it is still STALLED. What holds
even then is said here, with the changes of a slot or of a station that keep it. -/

namespace Sys2Proof.Machine

/-- The law of R118 as far as it holds inside an event. -/
structure State.Linked (s : State) : Prop where
  records : s.RecordsLawful
  based : ∀ st i, (s.station st).base = some i → (s.slot i).Issues
  unbound : ∀ st, (s.station st).state = .unbound → (s.station st).base = none
  once : ∀ i, (s.slot i).waiting.Nodup
  waits : ∀ i st, st ∈ (s.slot i).waiting →
    (s.station st).Shaped ∧ (s.station st).state = .stalled ∧ (s.station st).base = some i
  packaged : ∀ st p, (s.station st).package = some p → (s.station st).base = some p.base ∧ (s.slot p.base).Owes p.number
  own : ∀ st tt i n, (s.station st).claims i n → (s.station tt).claims i n → st = tt
  claimed : s.powered = true → s.device = .operational → ∀ i n, (s.slot i).Owes n →
    (s.slot i).recordState ≠ some .quarantined → ∃ st, (s.station st).claims i n
  nothing : ∀ i n, (s.slot i).recordState = some .assembling ∨ (s.slot i).recordState = some .retired → ¬ (s.slot i).Owes n

theorem Station.claims_congr {k k' : Station} (h : k'.package = k.package) {i : SlotId} {n : Nat} : k'.claims i n ↔ k.claims i n := by
  rw [Station.claims, Station.claims, h]

theorem Station.not_claims {k : Station} (h : k.package = none) {i : SlotId} {n : Nat} : ¬ k.claims i n := by
  rintro ⟨p, hp, -⟩
  rw [h] at hp
  cases hp

namespace State.Linked

variable {s t : State} {st : StationId} {i : SlotId}

theorem not_listed_of_state (h : s.Linked) (hs : (s.station st).state ≠ .stalled) (i : SlotId) : st ∉ (s.slot i).waiting :=
  fun hw => hs (h.waits i st hw).2.1

theorem claims_owes (h : s.Linked) {n : Nat} (hc : (s.station st).claims i n) :
    (s.station st).base = some i ∧ (s.slot i).Owes n := by
  obtain ⟨p, hp, rfl, rfl⟩ := hc
  exact h.packaged st p hp

/-- A station without a binding holds no package and waits on no list. -/
theorem loose_of_unbound (h : s.Linked) (hb : (s.station st).base = none) :
    (s.station st).package = none ∧ ∀ i, st ∉ (s.slot i).waiting := by
  refine ⟨Option.eq_none_iff_forall_ne_some.2 fun p hp => ?_, fun i hw => ?_⟩
  · rw [(h.packaged st p hp).1] at hb
    cases hb
  · rw [(h.waits i st hw).2.2] at hb
    cases hb

/-- Nothing but table, stations, main power and device state matters. -/
theorem congr (h : s.Linked) (slots : ∀ i, t.slot i = s.slot i) (stations : ∀ st, t.station st = s.station st)
    (live : t.powered = true → t.device = .operational → s.powered = true ∧ s.device = .operational) : t.Linked where
  records i := slots i ▸ h.records i
  based st i hb := by
    rw [stations] at hb
    exact slots i ▸ h.based st i hb
  unbound st hu := by
    rw [stations] at hu ⊢
    exact h.unbound st hu
  once i := slots i ▸ h.once i
  waits i st hw := by
    rw [slots] at hw
    rw [stations]
    exact h.waits i st hw
  packaged st p hp := by
    rw [stations] at hp ⊢
    rw [slots]
    exact h.packaged st p hp
  own st tt i n := by
    rw [stations, stations]
    exact h.own st tt i n
  claimed hp hd i n ho hq := by
    rw [slots] at ho hq
    obtain ⟨st, hc⟩ := h.claimed (live hp hd).1 (live hp hd).2 i n ho hq
    exact ⟨st, stations st ▸ hc⟩
  nothing i n := by
    rw [slots]
    exact h.nothing i n

/-- One station changes and keeps the number it holds; if it waits on a list it goes on waiting there. -/
theorem changeStation (h : s.Linked) (slots : ∀ i, t.slot i = s.slot i) (others : ∀ tt, tt ≠ st → t.station tt = s.station tt)
    (live : t.powered = true → t.device = .operational → s.powered = true ∧ s.device = .operational)
    (listed : ∀ i, st ∈ (s.slot i).waiting →
      (t.station st).Shaped ∧ (t.station st).state = .stalled ∧ (t.station st).base = some i)
    (claims : ∀ i n, (t.station st).claims i n ↔ (s.station st).claims i n)
    (base : ∀ i, (t.station st).base = some i → (s.slot i).Issues)
    (binding : (s.station st).package ≠ none → (t.station st).base = (s.station st).base)
    (unbound : (t.station st).state = .unbound → (t.station st).base = none) : t.Linked := by
  have claims' (tt : StationId) (i : SlotId) (n : Nat) : (t.station tt).claims i n ↔ (s.station tt).claims i n := by
    by_cases e : tt = st
    · exact e ▸ claims i n
    · rw [others tt e]
  exact {
    records := fun i => slots i ▸ h.records i
    based := fun tt i hb => by
      rw [slots]
      by_cases e : tt = st
      · subst e
        exact base i hb
      · rw [others tt e] at hb
        exact h.based tt i hb
    unbound := fun tt hu => by
      by_cases e : tt = st
      · subst e
        exact unbound hu
      · rw [others tt e] at hu ⊢
        exact h.unbound tt hu
    once := fun i => slots i ▸ h.once i
    waits := fun i tt hw => by
      rw [slots] at hw
      by_cases e : tt = st
      · subst e
        exact listed i hw
      · rw [others tt e]
        exact h.waits i tt hw
    packaged := fun tt p hp => by
      rw [slots]
      have hc := (claims' tt _ _).1 ⟨p, hp, rfl, rfl⟩
      obtain ⟨hb, ho⟩ := h.claims_owes hc
      refine ⟨?_, ho⟩
      by_cases e : tt = st
      · subst e
        exact (binding fun hn => Station.not_claims hn hc).trans hb
      · rwa [others tt e]
    own := fun tt uu i n => by
      rw [claims', claims']
      exact h.own tt uu i n
    claimed := fun hp hd i n ho hq => by
      rw [slots] at ho hq
      obtain ⟨tt, hc⟩ := h.claimed (live hp hd).1 (live hp hd).2 i n ho hq
      exact ⟨tt, (claims' tt i n).2 hc⟩
    nothing := fun i n => by
      rw [slots]
      exact h.nothing i n }

/-- One slot changes. A record with bound stations goes on issuing and owing what it owed. -/
theorem changeSlot (h : s.Linked) (stations : ∀ st, t.station st = s.station st) (others : ∀ j, j ≠ i → t.slot j = s.slot j)
    (live : t.powered = true → t.device = .operational → s.powered = true ∧ s.device = .operational)
    (lawful : (t.slot i).Lawful) (waiting : (t.slot i).waiting.Sublist (s.slot i).waiting)
    (owes : ∀ n, (t.slot i).Owes n → (s.slot i).Owes n)
    (bound : ∀ st, (s.station st).base = some i → (t.slot i).Issues ∧ ∀ n, (s.slot i).Owes n → (t.slot i).Owes n)
    (quarantined : ∀ n, (t.slot i).Owes n → (s.slot i).recordState = some .quarantined → (t.slot i).recordState = some .quarantined)
    (nothing : ∀ n, (t.slot i).recordState = some .assembling ∨ (t.slot i).recordState = some .retired → ¬ (t.slot i).Owes n) :
    t.Linked where
  records j := by
    by_cases e : j = i
    · subst e
      exact lawful
    · rw [others j e]
      exact h.records j
  based st j hb := by
    rw [stations] at hb
    by_cases e : j = i
    · subst e
      exact (bound st hb).1
    · rw [others j e]
      exact h.based st j hb
  unbound st hu := by
    rw [stations] at hu ⊢
    exact h.unbound st hu
  once j := by
    by_cases e : j = i
    · subst e
      exact waiting.nodup (h.once j)
    · rw [others j e]
      exact h.once j
  waits j st hw := by
    rw [stations]
    refine h.waits j st ?_
    by_cases e : j = i
    · subst e
      exact waiting.subset hw
    · rwa [others j e] at hw
  packaged st p hp := by
    rw [stations] at hp ⊢
    obtain ⟨hb, ho⟩ := h.packaged st p hp
    refine ⟨hb, ?_⟩
    by_cases e : p.base = i
    · rw [e] at ho ⊢
      exact (bound st (e ▸ hb)).2 _ ho
    · rwa [others _ e]
  own st tt j n := by
    rw [stations, stations]
    exact h.own st tt j n
  claimed hp hd j n ho hq := by
    have claimed := h.claimed (live hp hd).1 (live hp hd).2 j n
    simp only [stations]
    by_cases e : j = i
    · subst e
      exact claimed (owes n ho) fun hs => hq (quarantined n ho hs)
    · rw [others j e] at ho hq
      exact claimed ho hq
  nothing j n := by
    by_cases e : j = i
    · subst e
      exact nothing n
    · rw [others j e]
      exact h.nothing j n

/-- A package is given up: its number is disposed of and the station holds it no longer. -/
theorem disposePackage (h : s.Linked) {p : Package} (hp : (s.station st).package = some p) (d : Disposal)
    (slots : ∀ j, t.slot j = if j = p.base then (s.slot j).dispose d p.number else s.slot j)
    (others : ∀ tt, tt ≠ st → t.station tt = s.station tt)
    (gone : t.station st = { s.station st with package := none })
    (live : t.powered = true → t.device = .operational → s.powered = true ∧ s.device = .operational) : t.Linked := by
  obtain ⟨hb, hn⟩ := h.packaged st p hp
  obtain ⟨issues, owes⟩ := Slot.dispose_of_owed (h.records p.base) (h.based st _ hb) hn d
  have away (j : SlotId) (e : j ≠ p.base) : t.slot j = s.slot j := (slots j).trans (if_neg e)
  have there : t.slot p.base = (s.slot p.base).dispose d p.number := (slots _).trans (if_pos rfl)
  have waiting (j : SlotId) : (t.slot j).waiting = (s.slot j).waiting := by
    rw [slots]
    split
    · exact Slot.dispose_waiting ..
    · rfl
  have bases (tt : StationId) : (t.station tt).base = (s.station tt).base := by
    by_cases e : tt = st
    · rw [e, gone]
    · rw [others tt e]
  have claims {tt : StationId} {j : SlotId} {n : Nat} : (t.station tt).claims j n ↔ tt ≠ st ∧ (s.station tt).claims j n := by
    by_cases e : tt = st
    · subst e
      rw [gone]
      exact iff_of_false (Station.not_claims rfl) fun hc => hc.1 rfl
    · rw [others tt e]
      exact (and_iff_right e).symm
  have owed {j : SlotId} {n : Nat} : (t.slot j).Owes n ↔ (s.slot j).Owes n ∧ ¬ (j = p.base ∧ n = p.number) := by
    by_cases e : j = p.base
    · subst e
      rw [there, owes]
      simp
    · rw [away j e]
      simp [e]
  exact {
    records := fun j => by
      rw [slots]
      split
      · exact (h.records j).dispose ..
      · exact h.records j
    based := fun tt j hb => by
      rw [bases] at hb
      by_cases e : j = p.base
      · rw [e, there]
        exact issues
      · rw [away j e]
        exact h.based tt j hb
    unbound := fun tt hu => by
      rw [bases]
      refine h.unbound tt ?_
      by_cases e : tt = st
      · rw [e, gone] at hu
        exact e ▸ hu
      · rwa [others tt e] at hu
    once := fun j => waiting j ▸ h.once j
    waits := fun j tt hw => by
      rw [waiting] at hw
      obtain ⟨shaped, stalled, base⟩ := h.waits j tt hw
      by_cases e : tt = st
      · subst e
        have none : (s.station tt).package = none := by
          obtain ⟨-, -, -, -, -, -, -, -, package, -⟩ := shaped
          rw [hp, stalled] at package
          simp at package
        rw [none] at hp
        cases hp
      · rw [others tt e]
        exact ⟨shaped, stalled, base⟩
    packaged := fun tt r hr => by
      have hc : (t.station tt).claims r.base r.number := ⟨r, hr, rfl, rfl⟩
      obtain ⟨e, hc⟩ := claims.1 hc
      obtain ⟨base, owes⟩ := h.claims_owes hc
      refine ⟨(bases tt).trans base, owed.2 ⟨owes, fun ⟨hj, hn⟩ => e ?_⟩⟩
      exact h.own tt st _ _ hc ⟨p, hp, hj.symm, hn.symm⟩
    own := fun tt uu j n ht hu => h.own tt uu j n (claims.1 ht).2 (claims.1 hu).2
    claimed := fun hpow hdev j n ho hq => by
      obtain ⟨ho, hne⟩ := owed.1 ho
      have before : (s.slot j).recordState ≠ some .quarantined := by
        by_cases e : j = p.base
        · subst e
          exact (h.based st _ hb).not_quarantined
        · rwa [away j e] at hq
      obtain ⟨tt, hc⟩ := h.claimed (live hpow hdev).1 (live hpow hdev).2 j n ho before
      refine ⟨tt, claims.2 ⟨fun e => hne ?_, hc⟩⟩
      subst e
      obtain ⟨r, hr, rfl, rfl⟩ := hc
      rw [hp] at hr
      cases hr
      exact ⟨rfl, rfl⟩
    nothing := fun j n hs => by
      by_cases e : j = p.base
      · subst e
        rw [there] at hs
        rcases hs with hs | hs
        · exact absurd hs (issues.recordState_ne rfl)
        · exact absurd hs (issues.recordState_ne rfl)
      · rw [away j e] at hs ⊢
        exact h.nothing j n hs }

/-- A station without a package takes the next number (R34, R36). -/
theorem takePackage (h : s.Linked) {a : Account} {iss : Issuance} (ha : s.account i = some a) (hp : a.part = .base iss)
    (hv : a.takeVerdict iss = .number) (hb : (s.station st).base = some i) (hn : (s.station st).package = none)
    (off : ∀ j, st ∉ (s.slot j).waiting) (slots : ∀ j, t.slot j = if j = i then (s.slot j).write (a.afterTake iss) (s.slot j).secret else s.slot j)
    (others : ∀ tt, tt ≠ st → t.station tt = s.station tt) {p : Package} (package : (t.station st).package = some p)
    (base : p.base = i) (number : p.number = iss.next) (same : (t.station st).base = some i) (bound : (t.station st).state ≠ .unbound)
    (live : t.powered = true → t.device = .operational → s.powered = true ∧ s.device = .operational) : t.Linked := by
  have away (j : SlotId) (e : j ≠ i) : t.slot j = s.slot j := (slots j).trans (if_neg e)
  have there : t.slot i = (s.slot i).write (a.afterTake iss) (s.slot i).secret := (slots i).trans (if_pos rfl)
  have issues : (t.slot i).Issues := there ▸ Slot.issues_write_afterTake hv _
  have owed {j : SlotId} {n : Nat} : (t.slot j).Owes n ↔ (s.slot j).Owes n ∨ (j = i ∧ n = iss.next) := by
    by_cases e : j = i
    · subst e
      rw [there, Slot.owes_write_afterTake (h.records j) ha hp]
      simp
    · rw [away j e]
      simp [e]
  have fresh : ¬ (s.slot i).Owes iss.next := fun ho =>
    Issuance.not_owes_next (((Slot.lawful_of_account ha).1 (h.records i)).1.issuance_lawful hp).1 ((Slot.owes_of_account ha hp).1 ho)
  have claims {tt : StationId} {j : SlotId} {n : Nat} :
      (t.station tt).claims j n ↔ (s.station tt).claims j n ∨ (tt = st ∧ j = i ∧ n = iss.next) := by
    by_cases e : tt = st
    · subst e
      rw [or_iff_right (Station.not_claims hn), Station.claims, package]
      refine ⟨?_, fun ⟨_, hj, hm⟩ => ⟨p, rfl, base.trans hj.symm, number.trans hm.symm⟩⟩
      rintro ⟨r, hr, rfl, rfl⟩
      cases hr
      exact ⟨rfl, base, number⟩
    · rw [others tt e]
      simp [e]
  have waiting (j : SlotId) : (t.slot j).waiting = (s.slot j).waiting := by
    rw [slots]
    split <;> rfl
  exact {
    records := fun j => by
      rw [slots]
      split
      · next e =>
        subst e
        exact (h.records j).move (.take _ a iss ha (Account.issuance_eq_some.2 hp) hv)
      · exact h.records j
    based := fun tt j hj => by
      by_cases e : j = i
      · exact e ▸ issues
      · rw [away j e]
        refine h.based tt j ?_
        by_cases ht : tt = st
        · rw [ht, same] at hj
          exact absurd (Option.some.inj hj).symm e
        · rwa [others tt ht] at hj
    unbound := fun tt hu => by
      by_cases e : tt = st
      · exact absurd hu (e ▸ bound)
      · rw [others tt e] at hu ⊢
        exact h.unbound tt hu
    once := fun j => waiting j ▸ h.once j
    waits := fun j tt hw => by
      rw [waiting] at hw
      have e : tt ≠ st := fun e => off j (e ▸ hw)
      rw [others tt e]
      exact h.waits j tt hw
    packaged := fun tt r hr => by
      have hc : (t.station tt).claims r.base r.number := ⟨r, hr, rfl, rfl⟩
      rcases claims.1 hc with hc | ⟨rfl, hj, hm⟩
      · obtain ⟨base', owes⟩ := h.claims_owes hc
        have e : tt ≠ st := fun e => Station.not_claims (e ▸ hn) hc
        exact ⟨(congrArg Station.base (others tt e)).trans base', owed.2 (.inl owes)⟩
      · exact ⟨by rw [same, hj], owed.2 (.inr ⟨hj, hm⟩)⟩
    own := fun tt uu j n ht hu => by
      rcases claims.1 ht with ht | ⟨rfl, rfl, rfl⟩ <;> rcases claims.1 hu with hu | ⟨rfl, hj, hm⟩
      · exact h.own tt uu j n ht hu
      · subst hj hm
        exact absurd (h.claims_owes ht).2 fresh
      · exact absurd (h.claims_owes hu).2 fresh
      · rfl
    claimed := fun hpow hdev j n ho hq => by
      rcases owed.1 ho with ho | ⟨rfl, rfl⟩
      · have before : (s.slot j).recordState ≠ some .quarantined := by
          by_cases e : j = i
          · subst e
            exact (h.based st j hb).not_quarantined
          · rwa [away j e] at hq
        obtain ⟨tt, hc⟩ := h.claimed (live hpow hdev).1 (live hpow hdev).2 j n ho before
        exact ⟨tt, claims.2 (.inl hc)⟩
      · exact ⟨st, claims.2 (.inr ⟨rfl, rfl, rfl⟩)⟩
    nothing := fun j n hs => by
      by_cases e : j = i
      · subst e
        rcases hs with hs | hs
        · exact absurd hs (issues.recordState_ne rfl)
        · exact absurd hs (issues.recordState_ne rfl)
      · rw [away j e] at hs ⊢
        exact h.nothing j n hs }

/-- Every station bound to a record gives up binding and package, while the record loses its list, and whatever it still owes
needs no station to name it. -/
theorem clearSlot (h : s.Linked) (lawful : (t.slot i).Lawful) (list : (t.slot i).waiting = [])
    (owes : ∀ n, (t.slot i).Owes n → (t.slot i).recordState = some .quarantined) (away : ∀ j, j ≠ i → t.slot j = s.slot j)
    (gone : ∀ st, (s.station st).base = some i → (t.station st).base = none ∧ (t.station st).package = none)
    (kept : ∀ st, (s.station st).base ≠ some i → t.station st = s.station st)
    (live : t.powered = true → t.device = .operational → s.powered = true ∧ s.device = .operational) : t.Linked := by
  have claims {st : StationId} {j : SlotId} {n : Nat} (hc : (t.station st).claims j n) :
      (s.station st).base ≠ some i ∧ (s.station st).claims j n := by
    by_cases hb : (s.station st).base = some i
    · exact absurd hc (Station.not_claims (gone st hb).2)
    · exact ⟨hb, kept st hb ▸ hc⟩
  exact {
    records := fun j => by
      by_cases e : j = i
      · exact e ▸ lawful
      · rw [away j e]
        exact h.records j
    based := fun st j hj => by
      by_cases hb : (s.station st).base = some i
      · rw [(gone st hb).1] at hj
        cases hj
      · rw [kept st hb] at hj
        rw [away j fun e => hb (e ▸ hj)]
        exact h.based st j hj
    unbound := fun st hu => by
      by_cases hb : (s.station st).base = some i
      · exact (gone st hb).1
      · rw [kept st hb] at hu ⊢
        exact h.unbound st hu
    once := fun j => by
      by_cases e : j = i
      · rw [e, list]
        exact List.nodup_nil
      · rw [away j e]
        exact h.once j
    waits := fun j st hw => by
      have e : j ≠ i := by
        rintro rfl
        rw [list] at hw
        exact absurd hw List.not_mem_nil
      rw [away j e] at hw
      obtain ⟨shaped, stalled, base⟩ := h.waits j st hw
      rw [kept st fun hb => e (Option.some.inj (base.symm.trans hb))]
      exact ⟨shaped, stalled, base⟩
    packaged := fun st p hp => by
      obtain ⟨hb, hc⟩ := claims ⟨p, hp, rfl, rfl⟩
      obtain ⟨base, owes⟩ := h.claims_owes hc
      rw [kept st hb, away p.base fun e => hb (e ▸ base)]
      exact ⟨base, owes⟩
    own := fun st tt j n hs ht => h.own st tt j n (claims hs).2 (claims ht).2
    claimed := fun hp hd j n ho hq => by
      by_cases e : j = i
      · subst e
        exact absurd (owes n ho) hq
      · rw [away j e] at ho hq
        obtain ⟨st, hc⟩ := h.claimed (live hp hd).1 (live hp hd).2 j n ho hq
        exact ⟨st, by rw [kept st fun hb => e (Option.some.inj ((h.claims_owes hc).1.symm.trans hb))]; exact hc⟩
    nothing := fun j n hs ho => by
      by_cases e : j = i
      · subst e
        rw [owes n ho] at hs
        rcases hs with hs | hs <;> cases hs
      · rw [away j e] at hs ho
        exact h.nothing j n hs ho }

/-- A record becomes QUARANTINED and every station bound to it is expelled (R130, R160). -/
theorem expelBound (h : s.Linked) (slot : t.slot i = (s.slot i).quarantine) (away : ∀ j, j ≠ i → t.slot j = s.slot j)
    (stations : ∀ st, t.station st =
      if (s.station st).base == some i then expelledStation (s.station st) else s.station st)
    (live : t.powered = true → t.device = .operational → s.powered = true ∧ s.device = .operational) : t.Linked := by
  refine h.clearSlot (slot ▸ (h.records i).quarantine) ?_ (fun n ho => ?_) away (fun st hb => ?_) (fun st hb => ?_) live
  · rw [slot]
    unfold Slot.quarantine
    split
    · next ha => exact ((Slot.lawful_of_empty ha).1 (h.records i)).2
    · rfl
  · rw [slot] at ho ⊢
    unfold Slot.quarantine at ho ⊢
    split
    · next ha =>
      rw [ha] at ho
      exact absurd ho (Slot.not_owes_of_empty ha)
    · rfl
  · rw [stations, if_pos (by simpa using hb)]
    unfold expelledStation
    split <;> exact ⟨rfl, rfl⟩
  · exact (stations st).trans (if_neg (by simpa using hb))

end State.Linked

end Sys2Proof.Machine

/-! # What a shared operation does to the stations

A read-check, a search, a disposal, the serving of a list: whatever these set off, a station either stays as it is, with its
place on the waiting lists, or it is parked: held, or served with a package. Only a station that has something at stake can be
parked: one bound to a record that may be quarantined, one with a package, one on a waiting list. -/

namespace Sys2Proof.Machine

/-! ## A change of one station -/

/-- Only the station changes, as far as the law of the stations looks. -/
structure Alters (st : StationId) (k : Station) (s t : State) : Prop where
  table : t.table = s.table
  self : t.station st = k
  others : ∀ tt, tt ≠ st → t.station tt = s.station tt
  powered : t.powered = s.powered
  device : t.device = s.device

namespace Alters

variable {st : StationId} {k k' : Station} {s t u : State}

theorem refl (st : StationId) (s : State) : Alters st (s.station st) s s := ⟨rfl, rfl, fun _ _ => rfl, rfl, rfl⟩

theorem trans (h : Alters st k s t) (h' : Alters st k' t u) : Alters st k' s u :=
  ⟨h'.table.trans h.table, h'.self, fun tt e => (h'.others tt e).trans (h.others tt e), h'.powered.trans h.powered,
    h'.device.trans h.device⟩

theorem slot (h : Alters st k s t) (i : SlotId) : t.slot i = s.slot i := by rw [State.slot, State.slot, h.table]

theorem setStation (st : StationId) (k : Station) (s : State) : Alters st k s (s.setStation st k) :=
  ⟨rfl, station_setStation_self .., fun _ e => station_setStation_of_ne _ e _, rfl, rfl⟩

theorem modifyStation (st : StationId) (f : Station → Station) (s : State) :
    Alters st (f (s.station st)) s (s.modifyStation st f) := setStation ..

theorem latch (h : Alters st k s t) (e : Event) : Alters st k s (t.latch e) :=
  ⟨h.table, h.self, h.others, h.powered, h.device⟩

theorem setEngine (h : Alters st k s t) (e : Engine) : Alters st k s (t.setEngine e) :=
  ⟨h.table, h.self, h.others, h.powered, h.device⟩

theorem hold (c : HoldCondition) (st : StationId) (s : State) : Alters st ((s.station st).hold c) s (hold c st s) := by
  unfold Machine.hold
  dsimp only
  split
  · exact setStation ..
  · exact (setStation ..).latch _

theorem placeClose (c : CloseCode) (st : StationId) (s : State) : Alters st ((s.station st).close c) s (placeClose c st s) :=
  modifyStation ..

theorem closeAndHold (e : CloseCode) (c : HoldCondition) (st : StationId) (s : State) :
    Alters st (((s.station st).close e).hold c) s (Machine.hold c st (Machine.placeClose e st s)) := by
  have closed := placeClose e st s
  have held := hold c st (Machine.placeClose e st s)
  rw [closed.self] at held
  exact closed.trans held

theorem stopWork (st : StationId) (s : State) : Alters st (s.station st).stop s (stopWork st s) :=
  ⟨rfl, station_setStation_self .., fun _ e => station_setStation_of_ne _ e _, rfl, rfl⟩

/-- A station that waits on no list changes and keeps its package. -/
theorem linked (h : s.Linked) (a : Alters st k s t) (off : ∀ i, st ∉ (s.slot i).waiting)
    (package : k.package = (s.station st).package)
    (base : k.base = (s.station st).base ∨ k.base = none ∧ (s.station st).package = none)
    (unbound : k.state = .unbound → k.base = none) : t.Linked := by
  refine h.changeStation a.slot a.others (fun hp hd => ⟨a.powered ▸ hp, a.device ▸ hd⟩) (fun i hw => absurd hw (off i))
    (fun i n => by rw [a.self]; exact Station.claims_congr package) (fun i hb => ?_) (fun hp => ?_) (by rw [a.self]; exact unbound)
  · rw [a.self] at hb
    rcases base with same | ⟨none, -⟩
    · exact h.based st i (same ▸ hb)
    · rw [none] at hb
      cases hb
  · rw [a.self]
    exact base.resolve_right fun e => hp e.2

end Alters

/-! ## Shapes of the stations that an operation leaves behind -/

theorem Station.shaped_hold (k : Station) (c : HoldCondition) : (k.hold c).Shaped := by
  have held : c.bit ≠ 0#5 := by cases c <;> decide
  simp [Station.Shaped, Station.hold, StationState.hasTerminal, StationState.isServing, held]

@[simp] theorem Station.hold_base (k : Station) (c : HoldCondition) : (k.hold c).base = k.base := rfl
@[simp] theorem Station.hold_package (k : Station) (c : HoldCondition) : (k.hold c).package = none := rfl

@[simp] theorem Station.close_base (k : Station) (c : CloseCode) : (k.close c).base = k.base := by
  unfold Station.close
  split <;> rfl

theorem Station.Shaped.package_of_stalled {k : Station} (h : k.Shaped) (hs : k.state = .stalled) :
    k.package = none ∧ k.identity.isSome = true := by
  obtain ⟨-, -, -, -, -, -, -, identity, package, -⟩ := h
  rw [hs] at package identity
  refine ⟨?_, identity (by simp)⟩
  cases hp : k.package with
  | none => rfl
  | some p => rw [hp] at package; simp at package

theorem expelledStation_held (k : Station) :
    (expelledStation k).Shaped ∧ (expelledStation k).state = .held ∧ (expelledStation k).base = none := by
  have held : HoldCondition.integrity.bit ≠ 0#5 := by decide
  unfold expelledStation haltedStation
  split <;> simp [Station.Shaped, StationState.hasTerminal, StationState.isServing, held]

/-! ## The ripple of an operation -/

/-- The station has something at stake: its record may be quarantined, it holds a package, or it waits on a list. -/
def State.Exposed (s : State) (Q : SlotId → Prop) (st : StationId) : Prop :=
  (∃ i, (s.station st).base = some i ∧ Q i) ∨ (s.station st).package.isSome = true ∨ ∃ i, st ∈ (s.slot i).waiting

/-- The station has been held or served. -/
def Parked (k k' : Station) : Prop :=
  k'.Shaped ∧ (k'.state = .held ∨ k'.state = .preparing) ∧ (k'.base = none ∨ k'.base = k.base)

/-- What an operation does that quarantines no record outside `Q`: to the stations, that of `o` apart, and to the records
whose lists are being served. -/
structure Ripple (Q : SlotId → Prop) (busy : List SlotId) (o : Option StationId) (s t : State) : Prop where
  linked : t.Linked
  table : TableMoves s t
  powered : t.powered = s.powered
  device : t.device = s.device
  canTake : ∀ j ∈ busy, ¬ Q j → (s.slot j).CanTake → (t.slot j).CanTake
  stations : ∀ st, st ∉ o →
    (t.station st = s.station st ∧ ∀ j, st ∈ (t.slot j).waiting ↔ st ∈ (s.slot j).waiting) ∨
      s.Exposed Q st ∧ Parked (s.station st) (t.station st)

namespace Ripple

variable {Q : SlotId → Prop} {busy : List SlotId} {o : Option StationId} {s t u : State} {st : StationId}

theorem live (h : Ripple Q busy o s t) : t.powered = true → t.device = .operational → s.powered = true ∧ s.device = .operational :=
  fun hp hd => ⟨h.powered ▸ hp, h.device ▸ hd⟩

theorem refl (h : s.Linked) : Ripple Q busy o s s :=
  ⟨h, .refl s, rfl, rfl, fun _ _ _ h => h, fun _ _ => .inl ⟨rfl, fun _ => Iff.rfl⟩⟩

theorem trans (h : Ripple Q busy o s t) (k : Ripple Q busy o t u) : Ripple Q busy o s u := by
  refine ⟨k.linked, h.table.trans k.table, k.powered.trans h.powered, k.device.trans h.device,
    fun j hj hq hc => k.canTake j hj hq (h.canTake j hj hq hc), fun st hst => ?_⟩
  rcases h.stations st hst with ⟨same, lists⟩ | ⟨exposed, shaped, state, base⟩
  · rcases k.stations st hst with ⟨same', lists'⟩ | ⟨exposed', parked⟩
    · exact .inl ⟨same'.trans same, fun j => (lists' j).trans (lists j)⟩
    · rw [same] at parked
      refine .inr ⟨?_, parked⟩
      simpa only [State.Exposed, same, lists] using exposed'
  · refine .inr ⟨exposed, ?_⟩
    rcases k.stations st hst with ⟨same', -⟩ | ⟨-, shaped', state', base'⟩
    · rw [same']
      exact ⟨shaped, state, base⟩
    · refine ⟨shaped', state', ?_⟩
      rcases base' with base' | base'
      · exact .inl base'
      · exact base'.symm ▸ base

theorem mono {Q' : SlotId → Prop} {busy' : List SlotId} (h : Ripple Q' busy' o s t) (hq : ∀ j, Q' j → Q j)
    (hb : ∀ j ∈ busy, j ∈ busy') : Ripple Q busy o s t := by
  refine ⟨h.linked, h.table, h.powered, h.device, fun j hj hn => h.canTake j (hb j hj) fun e => hn (hq j e), fun st hst => ?_⟩
  refine (h.stations st hst).imp_right (And.imp_left ?_)
  exact .imp_left fun ⟨i, hi, hx⟩ => ⟨i, hi, hq i hx⟩

/-- One station may be left out of account. -/
theorem except (h : Ripple Q busy none s t) (o : Option StationId) : Ripple Q busy o s t :=
  ⟨h.linked, h.table, h.powered, h.device, h.canTake, fun st _ => h.stations st nofun⟩

/-- The station left out of account was exposed and has been parked. -/
theorem park (h : Ripple Q busy (some st) s t) (exposed : s.Exposed Q st) (parked : Parked (s.station st) (t.station st)) :
    Ripple Q busy none s t := by
  refine ⟨h.linked, h.table, h.powered, h.device, h.canTake, fun tt _ => ?_⟩
  by_cases e : tt = st
  · exact .inr (e ▸ ⟨exposed, parked⟩)
  · exact h.stations tt fun e' => e (Option.some.inj e').symm

/-- An operation that touches neither table nor stations. -/
theorem of_frame (h : s.Linked) (table : t.table = s.table) (stations : t.stations = s.stations) (powered : t.powered = s.powered)
    (device : t.device = s.device) : Ripple Q busy o s t := by
  have slot (j : SlotId) : t.slot j = s.slot j := by rw [State.slot, State.slot, table]
  have station (st : StationId) : t.station st = s.station st := by rw [State.station, State.station, stations]
  exact ⟨h.congr slot station fun hp hd => ⟨powered ▸ hp, device ▸ hd⟩, .of_table table, powered, device,
    fun j _ _ hc => slot j ▸ hc, fun st _ => .inl ⟨station st, fun j => by rw [slot]⟩⟩

/-- An operation that touches one station alone. -/
theorem of_alters {k : Station} (h : t.Linked) (a : Alters st k s t) : Ripple Q busy (some st) s t :=
  ⟨h, .of_table a.table, a.powered, a.device, fun j _ _ hc => a.slot j ▸ hc, fun tt htt =>
    .inl ⟨a.others tt fun e => htt (e ▸ rfl), fun j => by rw [a.slot]⟩⟩

end Ripple

/-! ## The records that a nested quarantine may still meet -/

/-- The records that disagree. -/
def State.failing (s : State) : Finset SlotId := Finset.univ.filter fun j => (s.slot j).readable = false

theorem State.mem_failing {s : State} {j : SlotId} : j ∈ s.failing ↔ (s.slot j).readable = false := by simp [State.failing]

/-- At most n records disagree, none outside `Q`. -/
structure State.Within (s : State) (Q : SlotId → Prop) (n : Nat) : Prop where
  linked : s.Linked
  inside : ∀ j, (s.slot j).readable = false → Q j
  few : s.failing.card ≤ n

theorem TableMoves.failing_subset {s t : State} (h : TableMoves s t) : t.failing ⊆ s.failing := fun j hj => by
  rw [State.mem_failing] at hj ⊢
  by_contra good
  rw [(h.slot j).readable (Bool.not_eq_false _ ▸ good)] at hj
  cases hj

theorem State.Within.ripple {s t : State} {Q P : SlotId → Prop} {n : Nat} {busy : List SlotId} {o : Option StationId} (h : s.Within Q n)
    (r : Ripple P busy o s t) : t.Within Q n :=
  ⟨r.linked, fun j hj => h.inside j (State.mem_failing.1 (r.table.failing_subset (State.mem_failing.2 hj))),
    (Finset.card_le_card r.table.failing_subset).trans h.few⟩

/-- A quarantine procedure that serves while at most n records besides its own disagree. -/
def Quarantine.Ripples (q : Quarantine) (n : Nat) : Prop :=
  ∀ (Q : SlotId → Prop) (busy : List SlotId) (i : SlotId) (s : State), s.Linked → (∀ j, (s.slot j).readable = false → Q j) → Q i →
    (s.failing.erase i).card < n → Ripple Q busy none s (q busy i s) ∧ ¬ ((q busy i s).slot i).Issues

end Sys2Proof.Machine

/-! # The ripple of a quarantine (R43, R46, R157, R160, R161)

By induction on the depth of nesting: each quarantine leaves fewer records that disagree, so the depth is never used up. -/

namespace Sys2Proof.Machine

variable {Q : SlotId → Prop} {busy : List SlotId} {s t : State} {st : StationId} {i : SlotId}

theorem State.Linked.not_listed_of_package (h : s.Linked) {p : Package} (hp : (s.station st).package = some p) (j : SlotId) :
    st ∉ (s.slot j).waiting := fun hw => by
  obtain ⟨shaped, stalled, -⟩ := h.waits j st hw
  rw [(shaped.package_of_stalled stalled).1] at hp
  cases hp

/-- A station that is exposed to nothing stays as it is. -/
theorem Ripple.spares {o : Option StationId} (r : Ripple Q busy o s t) (ho : st ∉ o) (base : ∀ i, (s.station st).base = some i → ¬ Q i)
    (package : (s.station st).package = none) (off : ∀ j, st ∉ (s.slot j).waiting) : t.station st = s.station st := by
  rcases r.stations st ho with ⟨same, -⟩ | ⟨exposed, -⟩
  · exact same
  · rcases exposed with ⟨j, hj, hq⟩ | hp | ⟨j, hj⟩
    · exact absurd hq (base j hj)
    · rw [package] at hp
      cases hp
    · exact absurd hj (off j)

/-! ## Stations leave a waiting list -/

theorem State.Linked.leaveList (h : s.Linked) {w : List StationId} (hw : w.Sublist (s.slot i).waiting) :
    (s.modifySlot i fun sl => { sl with waiting := w }).Linked := by
  have slot : (s.modifySlot i fun sl => { sl with waiting := w }).slot i = { s.slot i with waiting := w } :=
    slot_modifySlot_self ..
  have owes {n : Nat} : Slot.Owes { s.slot i with waiting := w } n ↔ (s.slot i).Owes n := Slot.owes_congr rfl
  refine h.changeSlot (i := i) (fun _ => rfl) (fun j e => (slot_modifySlot ..).trans (if_neg e)) (fun hp hd => ⟨hp, hd⟩) ?_ ?_
    (fun n => ?_) (fun st hb => ?_) (fun n _ => ?_) fun n => ?_
  · rw [slot]
    exact (h.records i).withWaiting fun hne => .inl fun e => hne (List.sublist_nil.1 (e ▸ hw))
  · rw [slot]
    exact hw
  · rw [slot]
    exact owes.1
  · rw [slot]
    exact ⟨(Slot.issues_congr rfl).2 (h.based st i hb), fun n => owes.2⟩
  · rw [slot]
    exact id
  · rw [slot, owes]
    exact h.nothing i n

/-- The front of a list leaves it. -/
theorem Ripple.pop (h : s.Linked) {rest : List StationId} (hw : (s.slot i).waiting = st :: rest) :
    Ripple Q busy (some st) s (s.modifySlot i fun sl => { sl with waiting := rest }) := by
  have slot (j : SlotId) : (s.modifySlot i fun sl => { sl with waiting := rest }).slot j =
      if j = i then { s.slot i with waiting := rest } else s.slot j := slot_modifySlot ..
  refine ⟨h.leaveList (hw ▸ List.sublist_cons_self ..), .modifySlot (.leave _ _ (hw ▸ List.subset_cons_self ..)), rfl, rfl,
    fun j _ _ hc => ?_, fun tt htt => .inl ⟨rfl, fun j => ?_⟩⟩
  · rw [slot]
    split
    · next e =>
      subst e
      exact hc
    · exact hc
  · rw [slot]
    split
    · next e =>
      have ne : tt ≠ st := fun e => htt (e ▸ rfl)
      rw [e, hw, List.mem_cons, or_iff_right ne]
    · rfl

/-! ## Serving -/

theorem takeVerdict_eq_number {a : Account} {iss : Issuance} (h : a.takeVerdict iss ≠ .noNumber)
    (hr : iss.windowLength < Config.windowSize) : a.takeVerdict iss = .number := by
  unfold Account.takeVerdict at h ⊢
  split at h
  · exact absurd rfl h
  split at h
  · exact absurd rfl h
  split at h
  · exact absurd rfl h
  split at h
  · exact absurd rfl h
  · rw [if_neg ‹_›, if_neg ‹_›, if_neg ‹_›, if_neg ‹_›, if_neg hr.ne]

/-- The station that has been given the next number (R36, R142). -/
def Station.given (k : Station) (i : SlotId) (iss : Issuance) (p : Protection) : Station :=
  { k with
    state := .preparing, timer := .stopped
    package := some { base := i, number := iss.next, ksi := ksiOf iss.issuer iss.next, transport := p.slot, expected := none } }

/-- A served station (R34, R36, R142). -/
theorem Ripple.take (h : s.Linked) {a : Account} {iss : Issuance} {x : TerminalId} (ha : s.account i = some a)
    (hp : a.part = .base iss) (hv : a.takeVerdict iss = .number)
    (mark : (s.station st).disarmAfter = true → (s.station st).mode = .line) (zero : (s.station st).holds = 0) (hx : (s.station st).identity = some x)
    (hn : (s.station st).package = none) (hb : (s.station st).base = some i) (off : ∀ j, st ∉ (s.slot j).waiting) (hi : i ∉ busy)
    (p : Protection) :
    Ripple Q busy (some st) s (takeNumber i st p a iss s) ∧
      Parked (s.station st) ((takeNumber i st p a iss s).station st) := by
  have moves : TableMoves s (takeNumber i st p a iss s) := .takeNumber ha (Account.issuance_eq_some.2 hp) hv st p
  have ht := takeNumber_eq (i := i) (p := p) (a := a) (iss := iss) hx
  generalize takeNumber i st p a iss s = t at moves ht ⊢
  have slot (j : SlotId) : t.slot j = if j = i then (s.slot j).write (a.afterTake iss) (s.slot j).secret else s.slot j := by
    subst ht
    refine (slot_setSlot s i j _).trans ?_
    split
    · next e => rw [e]
    · rfl
  have self : t.station st = (s.station st).given i iss p := by
    subst ht
    exact station_setStation_self ..
  have others (tt : StationId) (e : tt ≠ st) : t.station tt = s.station tt := by
    subst ht
    exact station_setStation_of_ne _ e _
  have powered : t.powered = s.powered := by
    subst ht
    rfl
  have device : t.device = s.device := by
    subst ht
    rfl
  have linked : t.Linked := h.takePackage ha hp hv hb hn off slot others (congrArg Station.package self) rfl rfl
    ((congrArg Station.base self).trans hb) (by rw [self]; exact nofun) fun hpw hd => ⟨powered ▸ hpw, device ▸ hd⟩
  refine ⟨⟨linked, moves, powered, device, fun j hj _ hc => ?_, fun tt htt => .inl ⟨others tt fun e => htt (e ▸ rfl), fun j => ?_⟩⟩, ?_⟩
  · have e : j ≠ i := fun e => hi (e ▸ hj)
    rw [slot, if_neg e]
    exact hc
  · rw [slot]
    split <;> rfl
  · rw [self, Station.given]
    exact ⟨⟨nofun, fun _ => by simp [hb], by simp, nofun, nofun, fun hm => ⟨mark hm, rfl⟩, by simp, fun _ => by simp [hx],
      .inl ⟨rfl, rfl⟩, iff_of_false (fun hne => hne zero) nofun, by simp⟩, .inr rfl, .inr rfl⟩

/-- A station that is not served (R142). -/
theorem Ripple.refuse (h : s.Linked) (off : ∀ j, st ∉ (s.slot j).waiting) (hn : (s.station st).package = none) (c : HoldCondition) :
    Ripple Q busy (some st) s (refuseService c st s) ∧ Parked (s.station st) ((refuseService c st s).station st) := by
  have alters : Alters st _ s (refuseService c st s) := Alters.closeAndHold .notServed c st s
  exact ⟨.of_alters (alters.linked h off (by simp [hn]) (.inl (by simp)) nofun) alters,
    by rw [alters.self]; exact ⟨Station.shaped_hold .., .inl rfl, .inr (by simp)⟩⟩

/-! ## Under a quarantine procedure that serves -/

section
variable {q : Quarantine} {n : Nat} (hq : q.Ripples n)
include hq

theorem readCheck_ripple (h : s.Within Q n) (busy : List SlotId) (i : SlotId) :
    Ripple Q busy none s (readCheck q busy i s) ∧
      ((s.slot i).readable = true ∧ readCheck q busy i s = s ∨ ¬ ((readCheck q busy i s).slot i).Issues) := by
  by_cases good : (s.slot i).readable = true
  · rw [readCheck_of_readable good]
    exact ⟨.refl h.linked, .inl ⟨good, rfl⟩⟩
  · have bad := Bool.eq_false_iff.2 good
    have quarantined : readCheck q busy i s = q busy i s := by
      unfold readCheck
      refine if_neg fun e => good ?_
      simpa [Slot.readable] using e
    rw [quarantined]
    have fewer := Finset.card_erase_lt_of_mem (State.mem_failing.2 bad)
    obtain ⟨ripple, gone⟩ := hq Q busy i s h.linked h.inside (h.inside i bad) (fewer.trans_le h.few)
    exact ⟨ripple, .inr gone⟩

theorem searchIn_ripple (h : s.Within Q n) (busy : List SlotId) (found : Account → Bool) (l : List SlotId) :
    Ripple Q busy none s (searchIn q busy found l s).1 := by
  induction l generalizing s with
  | nil => exact .refl h.linked
  | cons i l ih =>
    obtain ⟨checked, -⟩ := readCheck_ripple hq h busy i
    have rest := checked.trans (ih (h.ripple checked))
    unfold searchIn
    dsimp only
    split
    · exact rest
    · split
      · exact checked
      · exact rest

theorem transportLookup_ripple (h : s.Within Q n) (busy : List SlotId) (b : SlotId) (x : TerminalId) :
    Ripple Q busy none s (transportLookup q busy b x s).1 := searchIn_ripple hq h ..

/-- A station taken off the list of a record that passes its read-check and has room (R46, R143). -/
theorem serveStation_ripple (h : s.Within Q n) (good : (s.slot i).readable = true) (hi : i ∉ busy) (hk : (s.station st).Shaped)
    (hs : (s.station st).state = .stalled) (hb : (s.station st).base = some i) (off : ∀ j, st ∉ (s.slot j).waiting)
    (room : windowLength i s < Config.windowSize) :
    Ripple Q busy (some st) s (serveStation q busy i st s) ∧
      Parked (s.station st) ((serveStation q busy i st s).station st) := by
  obtain ⟨hn, identity⟩ := hk.package_of_stalled hs
  obtain ⟨x, hx⟩ := Option.isSome_iff_exists.1 identity
  obtain ⟨a, iss, ha, hp, -⟩ := (h.linked.based st i hb).base
  have ha' : s.account i = some a := ha
  have issuance : a.issuance = some iss := Account.issuance_eq_some.2 hp
  rw [windowLength_of_base ha' hp] at room
  unfold serveStation
  rw [ha', hx]
  dsimp only
  rw [issuance]
  dsimp only
  split
  · exact Ripple.refuse h.linked off hn _
  · next hv =>
    have number := takeVerdict_eq_number hv room
    have within : s.Within (fun j => (s.slot j).readable = false) n := ⟨h.linked, fun _ => id, h.few⟩
    have looked := transportLookup_ripple hq within (i :: busy) i x
    have same : ((transportLookup q (i :: busy) i x s).1).station st = s.station st :=
      looked.spares nofun (fun j hj e => by rw [← Option.some.inj (hb.symm.trans hj), good] at e; cases e) hn off
    have takes := looked.canTake i List.mem_cons_self (by simp [good]) ⟨a, iss, ha, hp, number⟩
    have begun : Ripple Q busy (some st) s (transportLookup q (i :: busy) i x s).1 :=
      (looked.mono h.inside fun j => List.mem_cons_of_mem i).except _
    have off' : ∀ j, st ∉ (((transportLookup q (i :: busy) i x s).1).slot j).waiting := fun j hj => by
      rcases looked.stations st nofun with ⟨-, lists⟩ | ⟨-, -, state, -⟩
      · exact off j ((lists j).1 hj)
      · rw [same, hs] at state
        rcases state with e | e <;> cases e
    generalize transportLookup q (i :: busy) i x s = r at *
    rw [← same] at hn hx hk hb hs
    have refused (c : HoldCondition) := Ripple.refuse (Q := Q) (busy := busy) begun.linked off' hn c
    split
    · rw [← same]
      exact ⟨begun.trans (refused _).1, (refused _).2⟩
    · obtain ⟨b, iss', hb', hp', hv'⟩ := takes
      rw [show r.1.account i = some b from hb']
      dsimp only
      rw [Account.issuance_eq_some.2 hp']
      dsimp only
      rw [if_pos hv', ← same]
      obtain ⟨-, -, -, -, -, mark, -, -, -, holds, -⟩ := hk
      obtain ⟨took, parked⟩ := Ripple.take (Q := Q) begun.linked hb' hp' hv' (fun hm => (mark hm).1)
        (not_not.1 fun e => by rw [holds.1 e] at hs; cases hs) hx hn hb off' hi r.2
      exact ⟨begun.trans took, parked⟩

theorem serveList_ripple (h : s.Within Q n) (good : (s.slot i).readable = true) (hi : i ∉ busy) (k : Nat) :
    Ripple Q busy none s (serveList q busy i k s) := by
  induction k generalizing s with
  | zero => exact .refl h.linked
  | succ k ih =>
    unfold serveList
    split
    · exact .refl h.linked
    · next st rest hw =>
      split
      · next room =>
        have listed : st ∈ (s.slot i).waiting := hw ▸ List.mem_cons_self
        obtain ⟨shaped, stalled, base⟩ := h.linked.waits i st listed
        have popped : Ripple Q busy (some st) s (s.modifySlot i fun sl => { sl with waiting := rest }) := .pop h.linked hw
        have off (j : SlotId) : st ∉ ((s.modifySlot i fun sl => { sl with waiting := rest }).slot j).waiting := by
          rw [slot_modifySlot]
          split
          · have := h.linked.once i
            rw [hw, List.nodup_cons] at this
            exact this.1
          · next e =>
            exact fun hj => e (Option.some.inj ((h.linked.waits j st hj).2.2.symm.trans base))
        have room' : windowLength i (s.modifySlot i fun sl => { sl with waiting := rest }) < Config.windowSize := by
          have account : (s.modifySlot i fun sl => { sl with waiting := rest }).account i = s.account i := by
            rw [State.account, slot_modifySlot_self]
            rfl
          rwa [windowLength, account]
        have good' := (popped.table.slot i).readable good
        obtain ⟨served, parked⟩ := serveStation_ripple hq (h.ripple popped) good' hi shaped stalled base off room'
        have one : Ripple Q busy none s _ := (popped.trans served).park (.inr (.inr ⟨i, listed⟩)) parked
        exact one.trans (ih (h.ripple one) ((one.table.slot i).readable good))
      · exact .refl h.linked

theorem openRoom_ripple (h : s.Within Q n) (good : (s.slot i).readable = true) (busy : List SlotId) (full : Bool) :
    Ripple Q busy none s (openRoom q busy i full s) := by
  unfold openRoom
  split
  · next hc => exact serveList_ripple hq h good hc.2.2 _
  · exact .refl h.linked

/-- A package given up: the station ends parked by a quarantine of its base record, or as `after` leaves it (R43, R152). -/
theorem giveUp_ripple (h : s.Within Q n) (busy : List SlotId) (d : Disposal) {p : Package} (hp : (s.station st).package = some p)
    {after : State → State} {f : Station → Station} (ha : ∀ u, Alters st (f (u.station st)) u (after u))
    (package : (f { s.station st with package := none }).package = none)
    (base : (f { s.station st with package := none }).base = (s.station st).base ∨ (f { s.station st with package := none }).base = none)
    (unbound : (f { s.station st with package := none }).state = .unbound → (f { s.station st with package := none }).base = none) :
    Ripple Q busy (some st) s (giveUp q busy d st p after s) ∧
      (Parked (s.station st) ((giveUp q busy d st p after s).station st) ∨
        (giveUp q busy d st p after s).station st = f { s.station st with package := none }) := by
  obtain ⟨hb, -⟩ := h.linked.packaged st p hp
  have off := h.linked.not_listed_of_package hp
  obtain ⟨checked, ⟨good, same⟩ | gone⟩ := readCheck_ripple hq h busy p.base
  · have slot (j : SlotId) : (disposeNumber d p.base p.number s).slot j =
        if j = p.base then (s.slot j).dispose d p.number else s.slot j := by
      refine (slot_modifySlot ..).trans ?_
      split
      · next e => rw [e]
      · rfl
    have unfolded : giveUp q busy d st p after s = openRoom q busy p.base (windowFull p.base s)
        (after ((disposeNumber d p.base p.number s).modifyStation st fun k => { k with package := none })) := by
      unfold giveUp
      dsimp only
      rw [same, hp]
    have dropped := Alters.modifyStation st (fun k => { k with package := none }) (disposeNumber d p.base p.number s)
    have linked := h.linked.disposePackage (t := (disposeNumber d p.base p.number s).modifyStation st fun k => { k with package := none })
      hp d (fun j => (dropped.slot j).trans (slot j)) dropped.others dropped.self fun hp hd => ⟨hp, hd⟩
    have waiting (j : SlotId) : (((disposeNumber d p.base p.number s).modifyStation st
        fun k => { k with package := none }).slot j).waiting = (s.slot j).waiting := by
      rw [dropped.slot, slot]
      split
      · exact Slot.dispose_waiting ..
      · rfl
    have given : Ripple Q busy (some st) s ((disposeNumber d p.base p.number s).modifyStation st fun k => { k with package := none }) := by
      refine ⟨linked, (TableMoves.disposeNumber ..).trans (.modifyStation ..), rfl, rfl, fun j _ _ hc => ?_, fun tt htt =>
        .inl ⟨dropped.others tt fun e => htt (e ▸ rfl), fun j => by rw [waiting]⟩⟩
      rw [dropped.slot, slot]
      split
      · exact hc.dispose (h.linked.records j) ..
      · exact hc
    have self : ((disposeNumber d p.base p.number s).modifyStation st fun k => { k with package := none }).station st =
        { s.station st with package := none } := dropped.self
    rw [unfolded]
    generalize (disposeNumber d p.base p.number s).modifyStation st (fun k => { k with package := none }) = u at *
    have alters := ha u
    rw [self] at alters
    have off' : ∀ j, st ∉ (u.slot j).waiting := fun j => waiting j ▸ off j
    have linked' : (after u).Linked :=
      alters.linked linked off' (by rw [package, self]) (by rw [self]; exact base.imp_right fun e => ⟨e, rfl⟩) unbound
    have changed : Ripple Q busy (some st) s (after u) := given.trans (.of_alters linked' alters)
    have good' := (changed.table.slot p.base).readable good
    have within := h.ripple changed
    have opened := openRoom_ripple hq (Q := fun j => ((after u).slot j).readable = false) ⟨linked', fun _ => id, within.few⟩ good' busy
      (windowFull p.base s)
    refine ⟨changed.trans ((opened.mono within.inside fun _ => id).except _), .inr ?_⟩
    refine (opened.spares nofun (fun j hj e => ?_) (by rw [alters.self]; exact package) fun j => by rw [alters.slot]; exact off' j).trans
      alters.self
    rw [alters.self] at hj
    rcases base with base | base
    · rw [base, hb] at hj
      rw [← Option.some.inj hj, good'] at e
      cases e
    · rw [base] at hj
      cases hj
  · have parked : Parked (s.station st) ((readCheck q busy p.base s).station st) := by
      rcases checked.stations st nofun with ⟨same, -⟩ | ⟨-, parked⟩
      · exact absurd (checked.linked.based st p.base (by rw [same]; exact hb)) gone
      · exact parked
    have none : ((readCheck q busy p.base s).station st).package = none := by
      refine Option.eq_none_iff_forall_ne_some.2 fun r hr => gone ?_
      have bound := (checked.linked.packaged st r hr).1
      refine checked.linked.based st p.base ?_
      obtain ⟨-, -, base'⟩ := parked
      rcases base' with base' | base'
      · rw [base'] at bound
        cases bound
      · exact base'.trans hb
    have stopped : giveUp q busy d st p after s = readCheck q busy p.base s := by
      unfold giveUp
      dsimp only
      rw [none]
    rw [stopped]
    exact ⟨checked.except _, .inl parked⟩

end

end Sys2Proof.Machine

/-! # The ripple of everything an event sets off -/

namespace Sys2Proof.Machine

variable {Q : SlotId → Prop} {busy : List SlotId} {s t : State} {st : StationId} {i : SlotId}

theorem Ripple.foldl {n : Nat} {α : Type} {f : α → State → State} (hf : ∀ (u : State) a, u.Within Q n → Ripple Q busy none u (f a u))
    (h : s.Within Q n) (l : List α) : Ripple Q busy none s (l.foldl (fun s a => f a s) s) := by
  induction l generalizing s with
  | nil => exact .refl h.linked
  | cons a l ih => exact (hf s a h).trans (ih (h.ripple (hf s a h)))

/-! ## The stations that a quarantine reaches (R130, R131) -/

/-- The work of a station is stopped. -/
theorem stopWork_linked (h : s.Linked) (off : ∀ j, st ∉ (s.slot j).waiting) : (stopWork st s).Linked :=
  (Alters.stopWork st s).linked h off rfl (.inl rfl) fun hu => h.unbound st hu

theorem quarantineUser_ripple {q : Quarantine} {n : Nat} (hq : q.Ripples n) (h : s.Within Q n) (busy : List SlotId) (i : SlotId)
    (st : StationId) : Ripple Q busy none s (quarantineUser q busy i st s) := by
  unfold quarantineUser
  split
  · exact .refl h.linked
  · next p hp =>
    split
    · have alters := Alters.stopWork st s
      have stopped : Ripple Q busy (some st) s (stopWork st s) :=
        .of_alters (stopWork_linked h.linked (h.linked.not_listed_of_package hp)) alters
      have hp' : ((stopWork st s).station st).package = some p := (congrArg Station.package alters.self).trans hp
      obtain ⟨given, parked⟩ := giveUp_ripple hq (h.ripple stopped) busy (disposalIn (s.station st).state) hp'
        (f := fun k => (k.close .aborted).hold .integrity) (fun u => Alters.closeAndHold .aborted .integrity st u) rfl (.inl (by simp)) nofun
      rw [alters.self] at parked
      refine (stopped.trans given).park (.inr (.inl (by rw [hp]; rfl))) ?_
      rcases parked with parked | held
      · exact parked
      · rw [held]
        exact ⟨Station.shaped_hold .., .inl rfl, .inr (by simp [Station.stop, Station.silence])⟩
    · exact .refl h.linked

/-- The record is quarantined and the stations bound to it expelled (R160, R130). -/
theorem Ripple.expelBound (h : s.Linked) {a : Account} (ha : s.account i = some a) (hi : Q i) :
    Ripple Q busy none s (expelBound i (condemned i a s)) ∧
      (Machine.expelBound i (condemned i a s)).slot i =
        { account := some { a with state := .quarantined, assembly := none }
          words := recordWords { a with state := .quarantined, assembly := none } none, waiting := [] } ∧
      ∀ j, j ≠ i → (Machine.expelBound i (condemned i a s)).slot j = s.slot j := by
  have frame := condemned_frame i a s
  have slots := slot_condemned i a s
  have first := quarantined_slot ha
  have moved : TableMoves s (condemned i a s) :=
    ((TableMoves.modifySlot (.quarantine _)).trans (.latch ..)).trans ((TableMoves.abandonNaming ..).trans (.cancelLines ..))
  generalize condemned i a s = c at *
  obtain ⟨expelFrame, expelled⟩ := expelBound_eq i c
  have station (st : StationId) : c.station st = s.station st := by rw [frame]; rfl
  generalize Machine.expelBound i c = u at *
  have slot (j : SlotId) : u.slot j = if j = i then (s.slot i).quarantine else s.slot j := by
    rw [← slots, expelFrame]
    rfl
  have away (j : SlotId) (e : j ≠ i) : u.slot j = s.slot j := (slot j).trans (if_neg e)
  have there : u.slot i = (s.slot i).quarantine := (slot i).trans (if_pos rfl)
  have powered : u.powered = s.powered := by
    have before : c.powered = s.powered := by rw [frame]
    rw [← before, expelFrame]
  have device : u.device = s.device := by
    have before : c.device = s.device := by rw [frame]
    rw [← before, expelFrame]
  have stations (st : StationId) : u.station st =
      if (s.station st).base == some i then expelledStation (s.station st) else s.station st := by
    simp only [expelled, station]
  have closed : u.slot i = c.slot i := there.trans ((slots i).trans (if_pos rfl)).symm
  refine ⟨⟨h.expelBound there away stations fun hp hd => ⟨powered ▸ hp, device ▸ hd⟩, ?_, powered, device, fun j _ hq hc => ?_,
    fun st _ => ?_⟩, closed.trans first, away⟩
  · exact moved.trans (.of_table (by rw [expelFrame]))
  · rw [away j fun e => hq (e ▸ hi)]
    exact hc
  · by_cases hb : (s.station st).base = some i
    · obtain ⟨shaped, held, base⟩ := expelledStation_held (s.station st)
      rw [stations, if_pos (by simpa using hb)]
      exact .inr ⟨.inl ⟨i, hb, hi⟩, shaped, .inl held, .inl base⟩
    · refine .inl ⟨(stations st).trans (if_neg (by simpa using hb)), fun j => ?_⟩
      by_cases e : j = i
      · subst e
        rw [closed, first]
        exact iff_of_false List.not_mem_nil fun hw => hb (h.waits j st hw).2.2
      · rw [away j e]

theorem quarantineStep_ripples {q : Quarantine} {n : Nat} (hq : q.Ripples n) : (quarantineStep q).Ripples (n + 1) := by
  intro Q busy i s h inside hi few
  cases ha : s.account i with
  | none =>
    have same : quarantineStep q busy i s = s := by
      unfold quarantineStep
      rw [ha]
    rw [same]
    refine ⟨.refl h, fun issues => ?_⟩
    obtain ⟨a, ha', -⟩ := issues
    rw [show (s.slot i).account = none from ha] at ha'
    cases ha'
  | some a =>
    by_cases hs : a.state = .quarantined
    · have same : quarantineStep q busy i s = s := by
        unfold quarantineStep
        rw [ha]
        exact if_pos hs
      rw [same]
      refine ⟨.refl h, fun issues => issues.not_quarantined ?_⟩
      rw [Slot.recordState, show (s.slot i).account = some a from ha, ← hs]
      rfl
    · have whole : quarantineStep q busy i s =
          (descendingByNumber (expelBound i (condemned i a s)) (usersOf i (expelBound i (condemned i a s)))).foldl
            (fun s st => quarantineUser q busy i st s) (expelBound i (condemned i a s)) := by
        unfold quarantineStep
        rw [ha]
        exact if_neg hs
      obtain ⟨expelled, slot, away⟩ := Ripple.expelBound (Q := Q) (busy := busy) h ha hi
      rw [whole]
      generalize expelBound i (condemned i a s) = u at *
      have rest : u.failing ⊆ s.failing.erase i := fun j hj => by
        refine Finset.mem_erase.2 ⟨?_, expelled.table.failing_subset hj⟩
        rintro rfl
        have bad := State.mem_failing.1 hj
        rw [slot] at bad
        simp [Slot.readable, Slot.recordState] at bad
      have within : u.Within Q n := by
        refine ⟨expelled.linked, fun j hj => inside j ?_, (Finset.card_le_card rest).trans (Nat.lt_succ_iff.1 few)⟩
        exact State.mem_failing.1 (Finset.mem_of_mem_erase (rest (State.mem_failing.2 hj)))
      have users := Ripple.foldl (f := fun st s => quarantineUser q busy i st s) (busy := busy)
        (fun v st hv => quarantineUser_ripple hq hv busy i st) within (descendingByNumber u (usersOf i u))
      refine ⟨expelled.trans users, fun issues => issues.not_quarantined ?_⟩
      rw [(users.table.slot i).of_quarantined slot, slot]
      rfl

theorem quarantineAt_ripples (n : Nat) : (quarantineAt n).Ripples n := by
  induction n with
  | zero =>
    intro Q busy i s h inside hi few
    exact absurd few (Nat.not_lt_zero _)
  | succ n ih => exact quarantineStep_ripples ih

/-! ## The operations of an event -/

/-- What an event's own operations do: any record may be quarantined. -/
abbrev Ripples (o : Option StationId) (s t : State) : Prop := Ripple (fun _ => True) [] o s t

theorem State.Linked.within (h : s.Linked) : s.Within (fun _ => True) Config.quarantineDepth :=
  ⟨h, fun _ _ => trivial, (Finset.card_le_univ _).trans (Fintype.card_fin 192).le⟩

theorem quarantine_ripples (h : s.Linked) (i : SlotId) : Ripples none s (quarantine [] i s) := by
  refine (quarantineAt_ripples Config.quarantineDepth (fun _ => True) [] i s h (fun _ _ => trivial) trivial ?_).1
  calc (s.failing.erase i).card ≤ (Finset.univ.erase i).card := Finset.card_le_card (Finset.erase_subset_erase _ (Finset.subset_univ _))
    _ < (Finset.univ : Finset SlotId).card := Finset.card_erase_lt_of_mem (Finset.mem_univ i)
    _ = Config.quarantineDepth := Fintype.card_fin 192

theorem check_ripples (h : s.Linked) (i : SlotId) : Ripples none s (check i s) :=
  (readCheck_ripple (quarantineAt_ripples _) h.within [] i).1

theorem search_ripples (h : s.Linked) (found : Account → Bool) : Ripples none s (search found s).1 :=
  searchIn_ripple (quarantineAt_ripples _) h.within ..

/-- A station that is still bound to the record after its read-check was left alone, and the record passes. -/
theorem check_of_bound (h : s.Linked) (hb : ((check i s).station st).base = some i) : check i s = s ∧ (s.slot i).readable = true := by
  obtain ⟨ripple, ⟨good, same⟩ | gone⟩ := readCheck_ripple (quarantineAt_ripples Config.quarantineDepth) h.within [] i
  · exact ⟨same, good⟩
  · exact absurd (ripple.linked.based st i hb) gone

theorem surrender_ripples (h : s.Linked) (d : Disposal) {p : Package} (hp : (s.station st).package = some p)
    {after : State → State} {f : Station → Station} (ha : ∀ u, Alters st (f (u.station st)) u (after u))
    (package : (f { s.station st with package := none }).package = none)
    (base : (f { s.station st with package := none }).base = (s.station st).base ∨ (f { s.station st with package := none }).base = none)
    (unbound : (f { s.station st with package := none }).state = .unbound → (f { s.station st with package := none }).base = none) :
    Ripples (some st) s (surrender d st p after s) ∧
      (Parked (s.station st) ((surrender d st p after s).station st) ∨
        (surrender d st p after s).station st = f { s.station st with package := none }) :=
  giveUp_ripple (quarantineAt_ripples _) h.within [] d hp ha package base unbound

/-! ## The engine chooses (R103, R105) -/

namespace Ripples

theorem setEngine (h : s.Linked) (e : Engine) : Ripples none s (s.setEngine e) := .of_frame h rfl rfl rfl rfl

theorem readForService (h : s.Linked) {go : State → State} (hg : ∀ u : State, u.Linked → Ripples none u (go u)) (i : SlotId) :
    Ripples none s (readForService i go s) := by
  have checked := check_ripples h i
  unfold Machine.readForService
  dsimp only
  split
  · exact checked.trans (setEngine checked.linked _)
  · exact checked.trans (hg _ checked.linked)

theorem endVerify (h : s.Linked) (o : VerifyOutcome) (i : SlotId) : Ripples none s (endVerify o i s) := .of_frame h rfl rfl rfl rfl

theorem startService (h : s.Linked) (j : Job) : Ripples none s (startService j s) := by
  have begun (c : Copies) : Ripples none s (inService j c s) := setEngine h _
  cases j with
  | componentCheck => exact begun _
  | keyCheck l i =>
    refine (begun _).trans (readForService (begun _).linked (fun u hu => ?_) i)
    unfold startKeyCheck
    split <;> exact setEngine hu _
  | package st b n ksi serial x =>
    refine (begun _).trans (readForService (begun _).linked (fun u hu => ?_) b)
    unfold startPackage
    split
    · split
      · exact setEngine hu _
      · refine readForService hu (fun v hv => ?_) _
        unfold startWrapped
        split <;> exact setEngine hv _
    · exact setEngine hu _
  | verify i =>
    refine (begun _).trans (readForService (begun _).linked (fun u hu => ?_) i)
    unfold startVerify
    split
    · exact setEngine hu _
    · exact (setEngine hu _).trans (endVerify (setEngine hu _).linked ..)

theorem settleEngine (h : s.Linked) : Ripples none s (settleEngine s) := by
  unfold Machine.settleEngine
  generalize choiceBound s = n
  induction n generalizing s with
  | zero => exact .refl h
  | succ n ih =>
    unfold chooseJobs
    split
    · exact .refl h
    · split
      · exact .refl h
      · next j e _ =>
        have started := (setEngine h e).trans (startService (setEngine h e).linked j)
        exact started.trans (ih started.linked)

end Ripples

end Sys2Proof.Machine

/-! # The laws of the stations between events (R113, R114, R118) -/

namespace Sys2Proof.Machine

variable {s t : State} {st : StationId} {i : SlotId}

/-- The device is OPERATIONAL under main power. -/
def State.Live (s : State) : Prop := s.powered = true ∧ s.device = .operational

/-- The station has its shape, and waits on its record's list while it is STALLED. -/
def State.Placed (s : State) (st : StationId) : Prop :=
  (s.station st).Shaped ∧
    ∀ i, (s.station st).state = .stalled → (s.station st).base = some i → st ∈ (s.slot i).waiting

/-- The laws of the stations between events. -/
structure State.Orderly (s : State) : Prop where
  linked : s.Linked
  placed : ∀ st, s.Placed st
  idle : ¬ s.Live → ∀ st, (s.station st).state = .unbound

/-- The laws of the stations as the model states them. -/
theorem State.stationsLawful_iff (hr : s.RecordsLawful) : s.StationsLawful ↔ s.Orderly := by
  have state {i : SlotId} {r : RecordState} : (s.slot i).recordState = some r ↔ ∃ a, s.account i = some a ∧ a.state = r :=
    Option.map_eq_some_iff
  constructor
  · rintro ⟨shaped, based, lists, packaged, own, claimed, nothing, idle⟩
    have linked : s.Linked := {
      records := hr
      based := based
      unbound := fun st => (shaped st).1
      once := fun i => (lists i).1
      waits := fun i st hw => ⟨shaped st, ((lists i).2 st).1 hw⟩
      packaged := packaged
      own := own
      claimed := claimed
      nothing := fun i n hs => by
        rcases hs with hs | hs <;> obtain ⟨a, ha, hs⟩ := state.1 hs
        · exact nothing i n a ha (.inl hs)
        · exact nothing i n a ha (.inr hs) }
    exact ⟨linked, fun st => ⟨shaped st, fun i hs hb => ((lists i).2 st).2 ⟨hs, hb⟩⟩, idle⟩
  · rintro ⟨linked, placed, idle⟩
    refine ⟨fun st => (placed st).1, linked.based, fun i => ⟨linked.once i, fun st => ⟨fun hw => (linked.waits i st hw).2, fun hs =>
      (placed st).2 i hs.1 hs.2⟩⟩, linked.packaged, linked.own, linked.claimed, fun i n a ha hs => ?_, idle⟩
    exact linked.nothing i n (hs.imp (fun e => state.2 ⟨a, ha, e⟩) fun e => state.2 ⟨a, ha, e⟩)

theorem Parked.placed (h : Parked (s.station st) (t.station st)) : t.Placed st := by
  obtain ⟨shaped, state, -⟩ := h
  refine ⟨shaped, fun i hs => ?_⟩
  rw [hs] at state
  rcases state with e | e <;> cases e

theorem State.Placed.congr (h : s.Placed st) (same : t.station st = s.station st)
    (lists : ∀ i, st ∈ (s.slot i).waiting → st ∈ (t.slot i).waiting) : t.Placed st := by
  unfold State.Placed
  rw [same]
  exact ⟨h.1, fun i hs hb => lists i (h.2 i hs hb)⟩

theorem Ripple.placed {Q : SlotId → Prop} {busy : List SlotId} {o : Option StationId} (r : Ripple Q busy o s t) (ho : st ∉ o)
    (h : s.Placed st) : t.Placed st := by
  rcases r.stations st ho with ⟨same, lists⟩ | ⟨-, parked⟩
  · exact h.congr same fun i => (lists i).2
  · exact parked.placed

namespace State.Orderly

/-- A station of a device that is not OPERATIONAL has nothing at stake. -/
theorem base_of_idle (h : s.Orderly) (hl : ¬ s.Live) (st : StationId) : (s.station st).base = none :=
  h.linked.unbound st (h.idle hl st)

theorem ripple {Q : SlotId → Prop} {busy : List SlotId} (h : s.Orderly) (r : Ripple Q busy none s t) : t.Orderly := by
  refine ⟨r.linked, fun st => r.placed nofun (h.placed st), fun hl st => ?_⟩
  have hl' : ¬ s.Live := fun ⟨hp, hd⟩ => hl ⟨r.powered.trans hp, r.device.trans hd⟩
  have loose := h.base_of_idle hl' st
  obtain ⟨package, off⟩ := h.linked.loose_of_unbound loose
  rw [r.spares nofun (fun i hi => by rw [loose] at hi; cases hi) package off]
  exact h.idle hl' st

/-- One station may have been out of its place on the way. -/
theorem ripple_but {Q : SlotId → Prop} {busy : List SlotId} (h : s.Orderly) (r : Ripple Q busy (some st) s t) (live : s.Live)
    (placed : t.Placed st) : t.Orderly := by
  refine ⟨r.linked, fun tt => ?_, fun hl => absurd ⟨r.powered.trans live.1, r.device.trans live.2⟩ hl⟩
  by_cases e : tt = st
  · exact e ▸ placed
  · exact r.placed (fun e' => e (Option.some.inj e').symm) (h.placed tt)

/-- A change elsewhere. -/
theorem frame (h : s.Orderly) (table : t.table = s.table) (stations : t.stations = s.stations) (powered : t.powered = s.powered)
    (device : t.device = s.device) : t.Orderly :=
  h.ripple (Q := fun _ => False) (busy := []) (.of_frame h.linked table stations powered device)

theorem latch (h : s.Orderly) (e : Event) : (s.latch e).Orderly := h.frame rfl rfl rfl rfl
theorem setConsole (h : s.Orderly) (c : ConsoleLink) : (s.setConsole c).Orderly := h.frame rfl rfl rfl rfl
theorem setApproval (h : s.Orderly) (u : ApprovalUnit) : (s.setApproval u).Orderly := h.frame rfl rfl rfl rfl
theorem setEngine (h : s.Orderly) (e : Engine) : (s.setEngine e).Orderly := h.frame rfl rfl rfl rfl
theorem setLine (h : s.Orderly) (l : Line) (k : CustodianLine) : (s.setLine l k).Orderly := h.frame rfl rfl rfl rfl
theorem setChecker (h : s.Orderly) (c : IntegrityChecker) : (s.setChecker c).Orderly := h.frame rfl rfl rfl rfl
theorem feed (h : s.Orderly) : (feed s).Orderly := h.setConsole _
theorem deliver {kind : Byte} {r : Reply} (h : r.state.Orderly) : (deliver kind r).Orderly := h.feed.setConsole _
theorem placeJob (h : s.Orderly) (j : Job) : (placeJob j s).Orderly := h.setEngine _
theorem endVerify (h : s.Orderly) (o : VerifyOutcome) (i : SlotId) : (endVerify o i s).Orderly := (h.setConsole _).latch _

theorem setOutcome (h : s.Orderly) (l : Line) (i : SlotId) (o : LineOutcome) (c : Option (BitVec 24)) :
    (setOutcome l i o c s).Orderly := by
  unfold Machine.setOutcome
  split
  · exact h.setLine ..
  · exact h

theorem cancelLines (h : s.Orderly) (m : BitVec 3) (i : SlotId) : (cancelLines m i s).Orderly :=
  foldl_state (P := State.Orderly) (fun s l hs => by
    split
    · exact hs.setOutcome ..
    · exact hs) _ h

theorem check (h : s.Orderly) (i : SlotId) : (check i s).Orderly := h.ripple (check_ripples h.linked i)
theorem settle (h : s.Orderly) : (settleEngine s).Orderly := h.ripple (Ripples.settleEngine h.linked)

theorem search (h : s.Orderly) (found : Account → Bool) : (search found s).1.Orderly := h.ripple (search_ripples h.linked found)

/-! ### One station changes -/

/-- The stations stay where they were, with bindings and packages. -/
theorem touchAll (h : s.Orderly) (slots : ∀ i, t.slot i = s.slot i) (powered : t.powered = s.powered) (device : t.device = s.device)
    (same : ∀ st, (t.station st).state = (s.station st).state ∧ (t.station st).base = (s.station st).base ∧
      (t.station st).package = (s.station st).package ∧ ((s.station st).Shaped → (t.station st).Shaped)) : t.Orderly := by
  have placed (st : StationId) (hp : s.Placed st) : t.Placed st := by
    obtain ⟨state, base, -, shaped⟩ := same st
    unfold Placed
    rw [state, base]
    exact ⟨shaped hp.1, fun i hs hb => (slots i).symm ▸ hp.2 i hs hb⟩
  have claims (st : StationId) (i : SlotId) (n : Nat) : (t.station st).claims i n ↔ (s.station st).claims i n :=
    Station.claims_congr (same st).2.2.1
  have linked : t.Linked := {
    records := fun i => slots i ▸ h.linked.records i
    based := fun st i hb => by
      rw [(same st).2.1] at hb
      exact slots i ▸ h.linked.based st i hb
    unbound := fun st hu => by
      rw [(same st).1] at hu
      exact (same st).2.1.trans (h.linked.unbound st hu)
    once := fun i => slots i ▸ h.linked.once i
    waits := fun i st hw => by
      rw [slots] at hw
      obtain ⟨hk, hs, hb⟩ := h.linked.waits i st hw
      obtain ⟨state, base, -, shaped⟩ := same st
      exact ⟨shaped hk, state.trans hs, base.trans hb⟩
    packaged := fun st p hp => by
      obtain ⟨-, base, package, -⟩ := same st
      rw [package] at hp
      rw [base, slots]
      exact h.linked.packaged st p hp
    own := fun st tt i n => by
      rw [claims, claims]
      exact h.linked.own st tt i n
    claimed := fun hp hd i n ho hq => by
      rw [slots] at ho hq
      obtain ⟨st, hc⟩ := h.linked.claimed (powered ▸ hp) (device ▸ hd) i n ho hq
      exact ⟨st, (claims st i n).2 hc⟩
    nothing := fun i n => by
      rw [slots]
      exact h.linked.nothing i n }
  refine ⟨linked, fun st => placed st (h.placed st), fun hl st => ?_⟩
  rw [(same st).1]
  exact h.idle (fun hl' => hl ⟨powered.trans hl'.1, device.trans hl'.2⟩) st

/-- A field of the station changes that does not move it: it stays where it was, with binding and package. -/
theorem touch {k : Station} (h : s.Orderly) (a : Alters st k s t) (state : k.state = (s.station st).state)
    (base : k.base = (s.station st).base) (package : k.package = (s.station st).package)
    (shaped : (s.station st).Shaped → k.Shaped) : t.Orderly := by
  refine h.touchAll a.slot a.powered a.device fun tt => ?_
  by_cases e : tt = st
  · subst e
    rw [a.self]
    exact ⟨state, base, package, shaped⟩
  · rw [a.others tt e]
    exact ⟨rfl, rfl, rfl, id⟩

/-- A station that does not wait moves to another place, keeping its package. -/
theorem move {k : Station} (h : s.Orderly) (a : Alters st k s t) (bound : (s.station st).state ≠ .unbound)
    (off : (s.station st).state ≠ .stalled) (package : k.package = (s.station st).package) (base : k.base = (s.station st).base ∨ k.base = none ∧ (s.station st).package = none)
    (shaped : k.Shaped) (state : k.state ≠ .stalled) : t.Orderly := by
  have live : s.Live := not_not.1 fun hl => bound (h.idle hl st)
  have linked : t.Linked := a.linked h.linked (h.linked.not_listed_of_state off) package base shaped.1
  refine h.ripple_but (Q := fun _ => False) (busy := []) (.of_alters linked a) live ?_
  rw [Placed, a.self]
  exact ⟨shaped, fun _ hs => absurd hs state⟩

/-- A station without a package is bound to a record that issues. -/
theorem bindStation {k : Station} (h : s.Orderly) (live : s.Live) (a : Alters st k s t) (off : (s.station st).state ≠ .stalled)
    (package : k.package = none) (none : (s.station st).package = none) (base : k.base = some i) (issues : (s.slot i).Issues)
    (shaped : k.Shaped) (state : k.state ≠ .stalled) : t.Orderly := by
  have linked : t.Linked := by
    refine h.linked.changeStation a.slot a.others (fun hp hd => ⟨a.powered ▸ hp, a.device ▸ hd⟩)
      (fun i hw => absurd hw (h.linked.not_listed_of_state off i))
      (fun i n => by rw [a.self]; exact Station.claims_congr (package.trans none.symm)) (fun j hb => ?_) (fun hp => absurd none hp)
      (by rw [a.self]; exact shaped.1)
    rw [a.self, base] at hb
    exact Option.some.inj hb ▸ issues
  refine h.ripple_but (Q := fun _ => False) (busy := []) (.of_alters linked a) live ?_
  rw [Placed, a.self]
  exact ⟨shaped, fun _ hs => absurd hs state⟩

end State.Orderly

/-! ## One record changes -/

/-- A change of a record that keeps what it owes and whether it issues. -/
structure Slot.Steady (sl x : Slot) : Prop where
  lawful : x.Lawful
  waiting : x.waiting = sl.waiting
  owes : ∀ n, x.Owes n ↔ sl.Owes n
  issues : sl.Issues → x.Issues
  quarantined : sl.recordState = some .quarantined → x.recordState = some .quarantined
  nothing : ∀ n, x.recordState = some .assembling ∨ x.recordState = some .retired → ¬ x.Owes n

namespace State.Orderly

theorem steady (h : s.Orderly) {x : Slot} (k : (s.slot i).Steady x) : (s.setSlot i x).Orderly := by
  have self : (s.setSlot i x).slot i = x := slot_setSlot_self ..
  have away (j : SlotId) (e : j ≠ i) : (s.setSlot i x).slot j = s.slot j := slot_setSlot_of_ne _ e _
  have waiting (j : SlotId) : ((s.setSlot i x).slot j).waiting = (s.slot j).waiting := by
    by_cases e : j = i
    · rw [e, self, k.waiting]
    · rw [away j e]
  have linked : (s.setSlot i x).Linked := by
    refine h.linked.changeSlot (i := i) (fun _ => rfl) away (fun hp hd => ⟨hp, hd⟩) (self.symm ▸ k.lawful) (by rw [waiting]) ?_ ?_ ?_ ?_
    all_goals rw [self]
    · exact fun n => (k.owes n).1
    · exact fun st hb => ⟨k.issues (h.linked.based st i hb), fun n => (k.owes n).2⟩
    · exact fun n _ => k.quarantined
    · exact k.nothing
  exact ⟨linked, fun st => (h.placed st).congr rfl fun j => by rw [waiting]; exact id, h.idle⟩

/-- A record on which no station depends is replaced by one that owes nothing. -/
theorem replace (h : s.Orderly) (free : ∀ st, (s.station st).base ≠ some i) {x : Slot} (lawful : x.Lawful) (list : x.waiting = [])
    (owes : ∀ n, ¬ x.Owes n) : (s.setSlot i x).Orderly := by
  have self : (s.setSlot i x).slot i = x := slot_setSlot_self ..
  have away (j : SlotId) (e : j ≠ i) : (s.setSlot i x).slot j = s.slot j := slot_setSlot_of_ne _ e _
  have linked : (s.setSlot i x).Linked := by
    refine h.linked.clearSlot (i := i) (self.symm ▸ lawful) (by rw [self, list]) (fun n ho => ?_) away (fun st hb => absurd hb (free st))
      (fun _ _ => rfl) fun hp hd => ⟨hp, hd⟩
    rw [self] at ho
    exact absurd ho (owes n)
  refine ⟨linked, fun st => (h.placed st).congr rfl fun j hw => ?_, h.idle⟩
  by_cases e : j = i
  · exact absurd (e ▸ (h.linked.waits j st hw).2.2) (free st)
  · rw [away j e]
    exact hw

theorem free_of_not_issues (h : s.Orderly) (hn : ¬ (s.slot i).Issues) (st : StationId) : (s.station st).base ≠ some i :=
  fun hb => hn (h.linked.based st i hb)

theorem empty (h : s.Orderly) (hn : ¬ (s.slot i).Issues) : (s.setSlot i Slot.empty).Orderly :=
  h.replace (h.free_of_not_issues hn) ⟨rfl, rfl⟩ rfl fun _ => Slot.not_owes_of_empty rfl

end State.Orderly

/-- An account that keeps its class, what it owes, and its place among the states that matter to a station. -/
theorem Slot.Steady.of_account {sl x : Slot} {a b : Account} (ha : sl.account = some a) (hb : x.account = some b)
    (hn : ∀ n, sl.recordState = some .assembling ∨ sl.recordState = some .retired → ¬ sl.Owes n) (lawful : x.Lawful)
    (waiting : x.waiting = sl.waiting) (owes : ∀ n, x.Owes n ↔ sl.Owes n) (base : b.part.isBase = a.part.isBase)
    (state : b.state = a.state ∨ b.state.isLive = true ∧ a.state ≠ .quarantined) : sl.Steady x := by
  have before : sl.recordState = some a.state := by rw [Slot.recordState, ha]; rfl
  have after : x.recordState = some b.state := by rw [Slot.recordState, hb]; rfl
  refine ⟨lawful, waiting, owes, fun ⟨c, hc, hbase, hl⟩ => ⟨b, hb, ?_, ?_⟩, fun hq => ?_, fun n hs => ?_⟩
  · rw [ha] at hc
    cases hc
    exact base.trans hbase
  · rw [ha] at hc
    cases hc
    rcases state with e | e
    · exact e ▸ hl
    · exact e.1
  · rw [before] at hq
    rcases state with e | e
    · rw [after, e, hq]
    · exact absurd (Option.some.inj hq) e.2
  · rw [owes]
    rw [after] at hs
    rcases state with e | e
    · exact hn n (by rwa [before, ← e])
    · have live := e.1
      rcases hs with hs | hs <;> rw [Option.some.inj hs] at live <;> cases live

end Sys2Proof.Machine

/-! # The shapes that the events of a station leave (R113, R114) -/

namespace Sys2Proof.Machine

namespace Station

variable {k : Station}

theorem Shaped.holds_eq_zero (h : k.Shaped) (hs : k.state ≠ .held) : k.holds = 0 := by
  obtain ⟨-, -, -, -, -, -, -, -, -, holds, -⟩ := h
  exact not_not.1 fun e => hs (holds.1 e)

theorem Shaped.package_eq_none (h : k.Shaped) (hs : k.state ∉ [StationState.preparing, .sending, .awaitingReceipt]) :
    k.package = none := by
  obtain ⟨-, -, -, -, -, -, -, -, package, -⟩ := h
  cases hp : k.package with
  | none => rfl
  | some p =>
    rw [hp] at package
    rcases package with ⟨e, -⟩ | ⟨e | e, -⟩ <;> simp [e] at hs

theorem Shaped.base_isSome (h : k.Shaped) (hs : k.state ∉ [StationState.unbound, .departing, .held]) : k.base.isSome = true := h.2.1 hs

/-- The mark stands for a LINE-mode station with a terminal alone (R116). -/
theorem Shaped.mark (h : k.Shaped) (hm : k.disarmAfter = true) : k.mode = .line ∧ k.state.hasTerminal = true := by
  obtain ⟨-, -, -, -, -, mark, -⟩ := h
  exact mark hm

theorem Shaped.identity_eq_none (h : k.Shaped) (hs : k.state ∈ [StationState.unbound, .bound, .waiting, .identifying, .held]) :
    k.identity = none := by
  obtain ⟨-, -, -, -, -, -, identity, -⟩ := h
  exact identity hs

/-- BOUND or UNBOUND, whatever the station was before. -/
theorem shaped_rest (k : Station) : k.rest.Shaped := by
  unfold rest Shaped
  cases hb : k.base <;> simp [StationState.hasTerminal, StationState.isServing]

theorem rest_state (k : Station) : k.rest.state ≠ .stalled ∧ k.rest.package = none ∧ k.rest.base = k.base := by
  unfold rest
  cases hb : k.base <;> exact ⟨nofun, rfl, rfl⟩

/-- Only transmitter, receiver and presence differ. -/
theorem Shaped.congr {k' : Station} (h : k.Shaped)
    (same : { k' with transmitter := k.transmitter, receiver := k.receiver, present := k.present } = k) : k'.Shaped := by
  rw [← same] at h
  exact h

theorem Shaped.close (h : k.Shaped) (c : CloseCode) : (k.close c).Shaped := by
  unfold Station.close
  split
  · exact h.congr rfl
  · exact h

theorem shaped_depart (hh : k.holds = 0) (hm : k.disarmAfter = true → k.mode = .line) : k.depart.Shaped := by
  unfold depart Shaped
  refine ⟨nofun, by simp, by simp, nofun, fun _ hs => ?_, fun h => ⟨hm h, rfl⟩, by simp, by simp, by simp, ?_, by simp⟩
  · rw [hs]
  · exact iff_of_false (fun h => h hh) nofun

/-- The end of a terminal (R117). -/
theorem shaped_endTerminal (hh : k.holds = 0) : k.endTerminal.Shaped := by
  unfold endTerminal
  split
  · exact shaped_rest k
  · next hc =>
    simp only [not_or, Bool.not_eq_false, Bool.not_eq_true] at hc
    obtain ⟨hb, ha, -⟩ := hc
    unfold Shaped
    simp [hh, ha, Option.isSome_iff_ne_none, hb]

theorem endTerminal_state (k : Station) :
    k.endTerminal.state ≠ .stalled ∧ k.endTerminal.package = none ∧ k.endTerminal.base = k.base := by
  unfold endTerminal
  split
  · exact rest_state k
  · exact ⟨nofun, rfl, rfl⟩

/-- A WAITING station greets its terminal, or a BOUND one that is armed (R122, R138). -/
theorem shaped_greet (hb : k.base.isSome = true) (hh : k.holds = 0) (hi : k.identity = none) (hp : k.package = none)
    (hm : k.disarmAfter = true → k.mode = .line) (timeout : Nat) : (k.greet timeout).Shaped := by
  unfold greet Shaped
  simp [hb, hh, hi, hp, StationState.hasTerminal, StationState.isServing]
  exact hm

/-- A station that is armed and waits for a terminal (R122). -/
theorem shaped_await (hb : k.base.isSome = true) (hh : k.holds = 0) (hi : k.identity = none) (hp : k.package = none)
    (ht : k.timer = .stopped) : ({ k with armed := true, state := .waiting, disarmAfter := false } : Station).Shaped := by
  unfold Shaped
  simp [hb, hh, hi, hp, ht]

theorem Shaped.timer_stopped (h : k.Shaped) (hi : k.state ≠ .identifying) (ha : k.state ≠ .awaitingReceipt) : k.timer = .stopped := by
  obtain ⟨-, -, -, -, -, -, -, -, -, -, timer⟩ := h
  cases ht : k.timer with
  | stopped => rfl
  | identity n => rw [ht] at timer; exact absurd timer hi
  | receipt n => rw [ht] at timer; exact absurd timer ha

/-- DISARM of a station with a terminal (R123). -/
theorem Shaped.disarmed (h : k.Shaped) (ht : k.state.hasTerminal = true) : ({ k with armed := false } : Station).Shaped := by
  obtain ⟨h1, h2, -, -, -, h6, h7, h8, h9, h10, h11⟩ := h
  refine ⟨h1, h2, fun _ => rfl, fun hw => ?_, fun _ _ => rfl, h6, h7, h8, h9, h10, h11⟩
  rw [show k.state = .waiting from hw] at ht
  cases ht

/-- A LINE-mode station with a terminal is marked (R18, R132). -/
theorem Shaped.marked (h : k.Shaped) (hl : k.mode = .line) (ht : k.state.hasTerminal = true) :
    ({ k with disarmAfter := true } : Station).Shaped := by
  obtain ⟨h1, h2, h3, h4, h5, -, h7, h8, h9, h10, h11⟩ := h
  exact ⟨h1, h2, h3, h4, h5, fun _ => ⟨hl, ht⟩, h7, h8, h9, h10, h11⟩

/-- A HELD station keeps one condition at least (R127). -/
theorem Shaped.withHolds (h : k.Shaped) (hs : k.state = .held) {x : BitVec 5} (hx : x ≠ 0) : ({ k with holds := x } : Station).Shaped := by
  obtain ⟨h1, h2, h3, h4, h5, h6, h7, h8, h9, -, h11⟩ := h
  exact ⟨h1, h2, h3, h4, h5, h6, h7, h8, h9, iff_of_true hx hs, h11⟩

end Station

end Sys2Proof.Machine

/-! # Commands to stations keep their laws (section 6.4, 6.5, 6.7) -/

namespace Sys2Proof.Machine

variable {s t : State} {st : StationId} {i : SlotId}

namespace State.Orderly

theorem live_of_state (h : s.Orderly) (hs : (s.station st).state ≠ .unbound) : s.Live := not_not.1 fun hl => hs (h.idle hl st)

/-- A treatment that leaves the station as it is. -/
theorem keep (h : s.Orderly) {f : Station → Station} (hf : f (s.station st) = s.station st) : (s.modifyStation st f).Orderly := by
  rw [State.modifyStation, hf, setStation_station]
  exact h

/-- A station without a package goes to BOUND, or UNBOUND without a binding. -/
theorem rest (h : s.Orderly) (bound : (s.station st).state ∈ [StationState.bound, .waiting, .held]) (a : Alters st (s.station st).rest s t) :
    t.Orderly := by
  obtain ⟨state, package, base⟩ := (s.station st).rest_state
  have none := (h.placed st).1.package_eq_none (by
    simp only [List.mem_cons, List.not_mem_nil, or_false] at bound
    rcases bound with e | e | e <;> rw [e] <;> decide)
  have other (x : StationState) (hx : x ∉ [StationState.bound, .waiting, .held]) : (s.station st).state ≠ x := fun e => hx (e ▸ bound)
  exact h.move a (other _ (by decide)) (other _ (by decide)) (package.trans none.symm) (.inl base) (Station.shaped_rest _) state

/-- The treatment of a LINE-mode station by NARROW and by the lapse (R18, R132). -/
theorem stopLine (h : s.Orderly) (st : StationId) : (s.modifyStation st (·.stopLine)).Orderly := by
  have shaped := (h.placed st).1
  have alters := Alters.modifyStation st (·.stopLine) s
  cases hm : (s.station st).mode with
  | single => exact h.keep (Station.stopLine_of_single hm)
  | line =>
    by_cases hw : (s.station st).state = .waiting
    · rw [Station.stopLine_of_waiting hm hw] at alters
      exact h.rest (by simp [hw]) alters
    · by_cases ht : (s.station st).state.hasTerminal = true
      · rw [Station.stopLine_of_hasTerminal hm ht] at alters
        exact h.touch alters rfl rfl rfl fun k => k.marked hm ht
      · exact h.keep (Station.stopLine_of_idle hw (Bool.not_eq_true _ ▸ ht))

/-- DISARM of a station (R123). -/
theorem disarm (h : s.Orderly) (st : StationId) : (s.modifyStation st (·.disarm)).Orderly := by
  have alters := Alters.modifyStation st (·.disarm) s
  unfold Station.disarm at alters ⊢
  by_cases hw : (s.station st).state = .waiting
  · rw [if_pos hw] at alters
    exact h.rest (by simp [hw]) alters
  · by_cases ht : (s.station st).state.hasTerminal = true
    · rw [if_neg hw, if_pos ht] at alters
      exact h.touch alters rfl rfl rfl fun k => k.disarmed ht
    · exact h.keep (by rw [if_neg hw, if_neg ht])

theorem clearHoldStation (h : s.Orderly) (conditions : BitVec 5) (st : StationId) :
    (s.modifyStation st (·.clearHold conditions)).Orderly := by
  have alters := Alters.modifyStation st (·.clearHold conditions) s
  by_cases hs : (s.station st).state = .held
  · by_cases left : (s.station st).holds &&& ~~~conditions = 0
    · rw [Station.clearHold_of_none_left hs left] at alters
      exact h.rest (by simp [hs]) alters
    · rw [Station.clearHold_of_left hs left] at alters
      exact h.touch alters rfl rfl rfl fun k => k.withHolds hs left
  · exact h.keep (Station.clearHold_of_not_held hs)

theorem treatEach {treat : StationId → State → State × AnswerCode} (ht : ∀ st (u : State), u.Orderly → (treat st u).1.Orderly)
    (h : s.Orderly) (group : List StationId) : (treatEach treat group s).1.Orderly := treatEach_state (P := State.Orderly) ht group h

theorem disarmStations (h : s.Orderly) (group : List StationId) : (disarmStations group s).Orderly :=
  foldl_state (P := State.Orderly) (fun _ st hu => hu.disarm st) group h

theorem lapse (h : s.Orderly) : (lapse s).Orderly :=
  foldl_state (P := State.Orderly) (fun _ st hu => hu.stopLine st) _ ((h.setConsole _).latch _)

/-! ## BIND and UNBIND (R120, R121) -/

theorem bindMember (h : s.Orderly) (live : s.Live) (issues : (s.slot i).Issues) (m : Mode) (st : StationId) :
    (bindMember i m st s).1.Orderly := by
  have bound (hs : (s.station st).state = .unbound ∨ (s.station st).state = .bound) :
      (s.setStation st { s.station st with base := some i, mode := m }.rest).Orderly := by
    have alters := Alters.setStation st { s.station st with base := some i, mode := m }.rest s
    have none := (h.placed st).1.package_eq_none (by rcases hs with e | e <;> rw [e] <;> decide)
    exact h.bindStation live alters (by rcases hs with e | e <;> rw [e] <;> exact nofun) rfl none rfl issues (Station.shaped_rest _) nofun
  unfold Machine.bindMember
  dsimp only
  split
  · next hs => exact bound (.inl hs)
  · next hs => exact bound (.inr hs)
  · exact h
  · exact h

theorem bindMember_frame (i : SlotId) (m : Mode) (st : StationId) (s : State) :
    (Machine.bindMember i m st s).1.table = s.table ∧ (Machine.bindMember i m st s).1.powered = s.powered ∧
      (Machine.bindMember i m st s).1.device = s.device := by
  unfold Machine.bindMember
  dsimp only
  split <;> exact ⟨rfl, rfl, rfl⟩

theorem bindEach (h : s.Orderly) (live : s.Live) (issues : (s.slot i).Issues) (m : Mode) (group : List StationId) :
    (Machine.treatEach (Machine.bindMember i m) group s).1.Orderly := by
  refine (treatEach_state (P := fun u => u.Orderly ∧ u.Live ∧ (u.slot i).Issues) (fun st u ⟨hu, lu, iu⟩ => ?_) group ⟨h, live, issues⟩).1
  obtain ⟨table, powered, device⟩ := bindMember_frame i m st u
  refine ⟨hu.bindMember lu iu m st, ⟨powered.trans lu.1, device.trans lu.2⟩, ?_⟩
  rw [State.slot, table]
  exact iu

theorem bind (h : s.Orderly) (live : s.Live) (set slot mode : Byte) : (Machine.bind set slot mode s).state.Orderly := by
  refine withStations_state (P := State.Orderly) h fun group => withSlot_state (P := State.Orderly) h fun i => ?_
  split
  · exact h
  · next m _ =>
    have checked := h.check i
    have ripple := check_ripples h.linked i
    dsimp only [reply]
    split
    · dsimp only
      exact checked.settle
    · next hr =>
      rw [memberReply_state]
      refine (checked.bindEach ⟨ripple.powered.trans live.1, ripple.device.trans live.2⟩ ?_ m group).settle
      unfold bindRefusal at hr
      split at hr
      · cases hr
      · next a ha =>
        split at hr
        · cases hr
        · next hb =>
          obtain ⟨base, active⟩ := not_not.1 hb
          exact ⟨a, ha, base, by rw [active]; rfl⟩

theorem unbindMember (h : s.Orderly) (st : StationId) : (unbindMember st s).1.Orderly := by
  unfold Machine.unbindMember
  dsimp only
  split
  · next hs =>
    have package := (h.placed st).1.package_eq_none (by rw [hs]; decide)
    exact h.move (Alters.setStation st { s.station st with base := none }.rest s) (by rw [hs]; exact nofun) (by rw [hs]; exact nofun)
      package.symm (.inr ⟨rfl, package⟩) (Station.shaped_rest _) (Station.rest_state _).1
  · exact h
  · exact h

theorem unbind (h : s.Orderly) (set : Byte) : (Machine.unbind set s).state.Orderly :=
  withStations_state (P := State.Orderly) h fun group => h.treatEach (fun st _ hu => hu.unbindMember st) group

/-! ## ARM and DISARM (R122, R123) -/

theorem armBound (h : s.Orderly) (a : Option Account) (hs : (s.station st).state = .bound) : (armBound a st s).1.Orderly := by
  unfold Machine.armBound
  extract_lets k lacksLine armed
  split
  · exact h
  · have shaped := (h.placed st).1
    have none : (s.station st).package = none := shaped.package_eq_none (by rw [hs]; decide)
    have base : (s.station st).base.isSome = true := shaped.base_isSome (by rw [hs]; decide)
    have zero : (s.station st).holds = 0 := shaped.holds_eq_zero (by rw [hs]; exact nofun)
    have identity : (s.station st).identity = .none := shaped.identity_eq_none (by rw [hs]; decide)
    have timer : (s.station st).timer = .stopped := shaped.timer_stopped (by rw [hs]; exact nofun) (by rw [hs]; exact nofun)
    have moved (k' : Station) (package : k'.package = (s.station st).package) (same : k'.base = (s.station st).base) (shaped' : k'.Shaped)
        (state : k'.state ≠ .stalled) : (s.setStation st k').Orderly :=
      h.move (.setStation st k' s) (by rw [hs]; exact nofun) (by rw [hs]; exact nofun) package (.inl same) shaped' state
    dsimp only
    split
    · exact moved _ rfl rfl (Station.shaped_greet (k := armed) base zero identity none (fun hm => (shaped.mark hm).1) _) nofun
    · exact moved _ rfl rfl (Station.shaped_await (k := armed) base zero identity none timer) nofun

theorem armMember (h : s.Orderly) (st : StationId) : (armMember st s).1.Orderly := by
  rw [armMember_eq]
  split
  · split
    · split
      · next hs => exact (h.check _).armBound _ hs
      · exact h.check _
    · exact h
  all_goals exact h

theorem arm (h : s.Orderly) (set : Byte) : (Machine.arm set s).state.Orderly := by
  refine withStations_state (P := State.Orderly) h fun group => ?_
  rw [memberReply_state]
  exact (h.treatEach (fun st _ hu => hu.armMember st) group).settle

theorem disarmCommand (h : s.Orderly) (set : Byte) : (Machine.disarm set s).state.Orderly := by
  refine withStations_state (P := State.Orderly) h fun group => h.treatEach (fun st u hu => ?_) group
  unfold disarmMember
  split
  · exact hu
  · exact hu.disarm st

theorem clearHold (h : s.Orderly) (set conditions : Byte) : (Machine.clearHold set conditions s).state.Orderly := by
  refine withStations_state (P := State.Orderly) h fun group => ?_
  split
  · exact h
  · refine h.treatEach (fun st u hu => ?_) group
    rw [clearHoldMember_eq]
    exact hu.clearHoldStation _ st

theorem readStations (h : s.Orderly) (set : Byte) : (Machine.readStations set s).state.Orderly := by
  refine withStations_state (P := State.Orderly) h fun group => ?_
  split <;> exact h

end State.Orderly

/-! ## ABORT (R124, R125) -/

/-- The laws of the stations while the stations of a group are STALLED without waiting on a list. -/
structure State.Loosened (s : State) (group : List StationId) : Prop where
  linked : s.Linked
  live : s.Live
  shaped : ∀ st, (s.station st).Shaped
  placed : ∀ st, st ∉ group → s.Placed st
  off : ∀ st, st ∈ group → ∀ i, st ∉ (s.slot i).waiting

namespace State.Loosened

variable {group : List StationId}

theorem orderly (h : s.Loosened []) : s.Orderly := ⟨h.linked, fun st => h.placed st List.not_mem_nil, fun hl => absurd h.live hl⟩

/-- A member of the group is treated. -/
theorem treated (h : s.Loosened (st :: group)) (r : Ripples (some st) s t) (shaped : (t.station st).Shaped)
    (state : (t.station st).state ≠ .stalled) : t.Loosened group := by
  have placed : t.Placed st := ⟨shaped, fun _ hs => absurd hs state⟩
  have other (tt : StationId) (e : tt ≠ st) : tt ∉ some st := fun e' => e (Option.some.inj e').symm
  refine ⟨r.linked, ⟨r.powered.trans h.live.1, r.device.trans h.live.2⟩, fun tt => ?_, fun tt htt => ?_, fun tt htt j hw => ?_⟩
  · by_cases e : tt = st
    · exact e ▸ shaped
    · rcases r.stations tt (other tt e) with ⟨same, -⟩ | ⟨-, parked⟩
      · exact same ▸ h.shaped tt
      · exact parked.1
  · by_cases e : tt = st
    · exact e ▸ placed
    · exact r.placed (other tt e) (h.placed tt fun hm => (List.mem_cons.1 hm).elim e htt)
  · by_cases e : tt = st
    · subst e
      exact state (r.linked.waits j tt hw).2.1
    · rcases r.stations tt (other tt e) with ⟨-, lists⟩ | ⟨-, -, hs, -⟩
      · exact h.off tt (List.mem_cons_of_mem _ htt) j ((lists j).1 hw)
      · rw [(r.linked.waits j tt hw).2.1] at hs
        rcases hs with e | e <;> cases e

theorem leave (h : s.Loosened group) (st : StationId) (hs : (s.station st).state = .stalled) :
    (leaveWaitingList st s).Loosened (st :: group) := by
  obtain ⟨j, hb⟩ := Option.isSome_iff_exists.1 ((h.shaped st).base_isSome (by rw [hs]; decide))
  have left : leaveWaitingList st s = s.modifySlot j fun sl => { sl with waiting := sl.waiting.filter (· ≠ st) } := by
    unfold leaveWaitingList
    rw [hb]
  have slot (l : SlotId) : (s.modifySlot j fun sl => { sl with waiting := sl.waiting.filter (· ≠ st) }).slot l =
      if l = j then { s.slot j with waiting := (s.slot j).waiting.filter (· ≠ st) } else s.slot l := slot_modifySlot ..
  have mem {tt : StationId} {l : SlotId} :
      tt ∈ ((s.modifySlot j fun sl => { sl with waiting := sl.waiting.filter (· ≠ st) }).slot l).waiting ↔
        tt ∈ (s.slot l).waiting ∧ tt ≠ st := by
    rw [slot]
    split
    · next e =>
      rw [e, List.mem_filter, decide_eq_true_iff]
    · next e =>
      refine (and_iff_left_of_imp fun hw => ?_).symm
      rintro rfl
      exact e (Option.some.inj ((h.linked.waits l tt hw).2.2.symm.trans hb))
  rw [left]
  refine ⟨h.linked.leaveList List.filter_sublist, h.live, h.shaped, fun tt htt => ?_, fun tt htt l hw => ?_⟩
  · obtain ⟨ne, out⟩ := not_or.1 (fun e => htt (List.mem_cons.2 e))
    exact (h.placed tt out).congr rfl fun l hw => mem.2 ⟨hw, ne⟩
  · obtain ⟨hw, ne⟩ := mem.1 hw
    exact h.off tt ((List.mem_cons.1 htt).resolve_left ne) l hw

/-- One more station belongs to the group; it waits on no list. -/
theorem extend (h : s.Loosened group) (hs : (s.station st).state ≠ .stalled) : s.Loosened (st :: group) :=
  ⟨h.linked, h.live, h.shaped, fun tt htt => h.placed tt fun hm => htt (List.mem_cons_of_mem _ hm), fun tt htt => by
    rcases List.mem_cons.1 htt with rfl | hm
    · exact h.linked.not_listed_of_state hs
    · exact h.off tt hm⟩

theorem mono {l : List StationId} (h : s.Loosened group) (hl : ∀ st, st ∈ l ↔ st ∈ group) : s.Loosened l :=
  ⟨h.linked, h.live, h.shaped, fun st hst => h.placed st fun hm => hst ((hl st).2 hm), fun st hst => h.off st ((hl st).1 hst)⟩

/-- The STALLED members leave their lists (R125 step 1). -/
theorem stalledLeave (h : s.Loosened group) (l : List StationId) : (stalledLeave l s).Loosened (l.reverse ++ group) := by
  induction l generalizing s group with
  | nil => exact h
  | cons st l ih =>
    have first : (if (s.station st).state = .stalled then leaveWaitingList st s else s).Loosened (st :: group) := by
      split
      · next hs => exact h.leave st hs
      · next hs => exact h.extend hs
    rw [List.reverse_cons, List.append_assoc]
    exact ih first

end State.Loosened

theorem State.Orderly.loosened (h : s.Orderly) (live : s.Live) : s.Loosened [] :=
  ⟨h.linked, live, fun st => (h.placed st).1, fun st _ => h.placed st, fun _ hm => absurd hm List.not_mem_nil⟩

theorem Station.aborted_state (k : Station) :
    k.aborted.state ≠ .stalled ∧ k.aborted.package = none ∧ k.aborted.base = k.base := by
  unfold Station.aborted
  dsimp only
  split
  · exact ⟨nofun, rfl, Station.close_base ..⟩
  · obtain ⟨state, package, base⟩ :=
      Station.rest_state { k.close .aborted with armed := false, disarmAfter := false, identity := none, package := none }
    exact ⟨state, package, base.trans (Station.close_base ..)⟩

theorem Station.shaped_aborted {k : Station} (hh : k.holds = 0) : k.aborted.Shaped := by
  have holds : (k.close .aborted).holds = 0 := by
    unfold Station.close
    split <;> exact hh
  unfold Station.aborted
  dsimp only
  split
  · exact Station.shaped_depart holds nofun
  · exact Station.shaped_rest _

namespace State.Loosened

variable {group : List StationId}

theorem abortStation (h : s.Loosened (st :: group)) (hs : (s.station st).state.isServing = true) :
    (abortStation st s).Loosened group := by
  have shaped := h.shaped st
  have zero : (s.station st).holds = 0 := shaped.holds_eq_zero fun e => by rw [e] at hs; cases hs
  have stopped := Alters.stopWork st s
  have linked := stopWork_linked h.linked (h.off st List.mem_cons_self)
  have ripple : Ripples (some st) s (stopWork st s) := .of_alters linked stopped
  unfold Machine.abortStation
  dsimp only
  split
  · next p hp =>
    have hp' : ((stopWork st s).station st).package = some p := (congrArg Station.package stopped.self).trans hp
    obtain ⟨state, package, base⟩ := Station.aborted_state { (s.station st).stop with package := none }
    have shaped' : ({ (s.station st).stop with package := none } : Station).aborted.Shaped := Station.shaped_aborted zero
    obtain ⟨given, result⟩ := surrender_ripples (f := (·.aborted)) linked (disposalIn (s.station st).state) hp'
      (fun u => Alters.modifyStation st (·.aborted) u) (by rw [stopped.self]; exact package) (.inl (by rw [stopped.self]; exact base))
      (by rw [stopped.self]; exact shaped'.1)
    rw [stopped.self] at result
    refine h.treated (ripple.trans given) ?_ ?_
    · rcases result with parked | e
      · exact parked.1
      · rw [e]
        exact Station.shaped_aborted zero
    · rcases result with ⟨-, e | e, -⟩ | e
      · rw [e]
        exact nofun
      · rw [e]
        exact nofun
      · rw [e]
        exact state
  · next hn =>
    have alters := Alters.modifyStation st (·.aborted) (stopWork st s)
    rw [stopped.self] at alters
    obtain ⟨state, package, base⟩ := Station.aborted_state (s.station st).stop
    have shaped' : (s.station st).stop.aborted.Shaped := Station.shaped_aborted zero
    have linked' := alters.linked linked (fun j => by rw [stopped.slot]; exact h.off st List.mem_cons_self j)
      (by rw [stopped.self, package]; exact hn.symm) (.inl (by rw [stopped.self]; exact base)) shaped'.1
    refine h.treated (ripple.trans (.of_alters linked' alters)) ?_ ?_
    · rw [alters.self]
      exact shaped'
    · rw [alters.self]
      exact state

theorem abortMember (h : s.Loosened (st :: group)) : (abortMember st s).1.Loosened group := by
  unfold Machine.abortMember
  split
  · next hs => exact h.abortStation hs
  · next hs =>
    refine h.treated (.refl h.linked) (h.shaped st) fun e => hs ?_
    rw [e]
    rfl

theorem abortEach (h : s.Loosened group) : (treatEach Machine.abortMember group s).1.Orderly := by
  induction group generalizing s with
  | nil => exact h.orderly
  | cons st group ih => exact ih h.abortMember

end State.Loosened

namespace State.Orderly

theorem abortGroup (h : s.Orderly) (live : s.Live) (group : List StationId) : (abortGroup group s).1.Orderly := by
  have left := (h.loosened live).stalledLeave group
  rw [List.append_nil] at left
  unfold Machine.abortGroup
  dsimp only
  generalize Machine.stalledLeave group s = u at left ⊢
  refine (left.mono fun st => ?_).abortEach
  rw [abortOrder, List.mem_append, mem_descendingByNumber, List.mem_filter, List.mem_reverse, ← and_or_left]
  refine and_iff_left ?_
  cases (u.station st).package <;> simp

theorem abort (h : s.Orderly) (live : s.Live) (set : Byte) : (Machine.abort set s).state.Orderly := by
  refine withStations_state (P := State.Orderly) h fun group => ?_
  rw [memberReply_state]
  exact (h.abortGroup live group).settle

theorem abortAll (h : s.Orderly) (live : s.Live) : (abortAll s).Orderly := by
  unfold Machine.abortAll
  dsimp only
  exact ((h.abortGroup live _).disarmStations _).settle

end State.Orderly

end Sys2Proof.Machine

/-! # The dialogue with a terminal keeps the laws of the stations (chapter 7) -/

namespace Sys2Proof.Machine

variable {s t u : State} {st : StationId} {i : SlotId}

namespace State.Orderly

/-! ## Packages given up (R146 to R148, R150) -/

/-- A station gives up its package in an event of its own. -/
theorem surrender (h : s.Orderly) {k : Station} (a : Alters st k s u) {p : Package} (hp : k.package = some p)
    (package : k.package = (s.station st).package) (base : k.base = (s.station st).base) (bound : k.state ≠ .unbound)
    (d : Disposal) {after : State → State} {f : Station → Station} (ha : ∀ v, Alters st (f (v.station st)) v (after v))
    (fp : (f { k with package := none }).package = none)
    (fb : (f { k with package := none }).base = k.base ∨ (f { k with package := none }).base = none)
    (fs : (f { k with package := none }).Shaped) (fn : (f { k with package := none }).state ≠ .stalled) :
    (surrender d st p after u).Orderly := by
  have hp' : (s.station st).package = some p := package ▸ hp
  have live : s.Live := h.live_of_state fun e => by
    have none := (h.placed st).1.package_eq_none (by rw [e]; decide)
    rw [none] at hp'
    cases hp'
  have linked := a.linked h.linked (h.linked.not_listed_of_package hp') package (.inl base) fun e => absurd e bound
  obtain ⟨given, result⟩ := surrender_ripples (f := f) linked d (by rw [a.self]; exact hp) ha (by rw [a.self]; exact fp)
    (by rw [a.self]; exact fb) (by rw [a.self]; exact fs.1)
  have ripple : Ripples (some st) s u := .of_alters linked a
  refine h.ripple_but (ripple.trans given) live ?_
  rw [a.self] at result
  rcases result with parked | e
  · exact (show Parked (u.station st) _ from a.self ▸ parked).placed
  · unfold State.Placed
    rw [e]
    exact ⟨fs, fun _ hs => absurd hs fn⟩

/-- A station in a state with a package holds it. -/
theorem package_of_state (h : s.Orderly) (hs : (s.station st).state ∈ [StationState.preparing, .sending, .awaitingReceipt]) :
    ∃ p, (s.station st).package = some p := by
  obtain ⟨-, -, -, -, -, -, -, -, package, -⟩ := (h.placed st).1
  cases hp : (s.station st).package with
  | none => rw [hp] at package; exact absurd hs package
  | some p => exact ⟨p, rfl⟩

theorem removePackage (h : s.Orderly) (hs : (s.station st).state ∈ [StationState.preparing, .sending, .awaitingReceipt]) :
    (removePackage st s).Orderly := by
  obtain ⟨p, hp⟩ := h.package_of_state hs
  have zero : (s.station st).holds = 0 := (h.placed st).1.holds_eq_zero fun e => by rw [e] at hs; revert hs; decide
  obtain ⟨state, package, base⟩ := Station.endTerminal_state { (s.station st).stop with package := none }
  unfold Machine.removePackage
  dsimp only
  rw [hp]
  exact (h.surrender (Alters.stopWork st s) hp rfl rfl (fun e => by
    rw [show (s.station st).state = .unbound from e] at hs; revert hs; decide) _ (f := (·.endTerminal))
    (fun v => Alters.modifyStation st (·.endTerminal) v) package (.inl base) (Station.shaped_endTerminal zero) state).settle

theorem stopTimer_alters (st : StationId) (s : State) :
    Alters st { s.station st with timer := .stopped } s (stopTimer st s) :=
  Alters.modifyStation st (fun k => { k with timer := .stopped }) s

/-- The end of a dialogue in AWAITING_RECEIPT that holds the station. -/
theorem voidAndHold (h : s.Orderly) {p : Package} (hp : (s.station st).package = some p) (c : HoldCondition) :
    (Machine.surrender .void st p (voidAndHold c st) (stopTimer st s)).Orderly := by
  have bound : (s.station st).state ≠ .unbound := fun e => by
    rw [(h.placed st).1.package_eq_none (by rw [e]; decide)] at hp
    cases hp
  exact h.surrender (stopTimer_alters st s) hp rfl rfl bound _ (f := fun k => (k.close .voided).hold c)
    (fun v => Alters.closeAndHold .voided c st v) rfl (.inl (by simp)) (Station.shaped_hold ..) nofun

/-- The end of a dialogue in AWAITING_RECEIPT after which the terminal leaves. -/
theorem closeAndDepart (h : s.Orderly) {p : Package} (hp : (s.station st).package = some p) (d : Disposal) (c : CloseCode)
    {after : State → State} (ha : ∀ v, Alters st (((v.station st).close c).depart) v (after v)) :
    (Machine.surrender d st p after (stopTimer st s)).Orderly := by
  have shaped := (h.placed st).1
  have bound : (s.station st).state ∉ [StationState.unbound, .held] := fun e => by
    rw [shaped.package_eq_none (by
      simp only [List.mem_cons, List.not_mem_nil, or_false] at e
      rcases e with e | e <;> rw [e] <;> decide)] at hp
    cases hp
  have zero : (s.station st).holds = 0 := shaped.holds_eq_zero fun e => bound (by rw [e]; decide)
  refine h.surrender (stopTimer_alters st s) hp rfl rfl (fun e => bound (by rw [show (s.station st).state = .unbound from e]; decide)) d
    (f := fun k => (k.close c).depart) ha rfl (.inl (Station.close_base ..)) (Station.shaped_depart ?_ ?_) nofun
  · unfold Station.close
    split <;> exact zero
  · unfold Station.close
    split <;> exact fun hm => (shaped.mark hm).1

theorem takeReceipt (h : s.Orderly) (hs : (s.station st).state = .awaitingReceipt) (r : BitVec 64 × BitVec 24) :
    (takeReceipt st r s).Orderly := by
  obtain ⟨p, hp⟩ := h.package_of_state (by rw [hs]; decide)
  unfold Machine.takeReceipt
  dsimp only
  rw [hp]
  dsimp only
  split
  · exact (h.closeAndDepart hp _ .accepted fun v => Alters.modifyStation st (fun k => (k.close .accepted).depart) v).settle
  · exact (h.voidAndHold hp _).settle

theorem takeRefusal (h : s.Orderly) (hs : (s.station st).state = .awaitingReceipt) : (takeRefusal st s).Orderly := by
  obtain ⟨p, hp⟩ := h.package_of_state (by rw [hs]; decide)
  unfold Machine.takeRefusal
  dsimp only
  rw [hp]
  exact (h.closeAndDepart hp _ .voided fun v =>
    (Alters.modifyStation st (fun k => (k.close .voided).depart) v).latch .terminalRefused).settle

theorem expireReceipt (h : s.Orderly) (hs : (s.station st).state = .awaitingReceipt) : (expireReceipt st s).Orderly := by
  obtain ⟨p, hp⟩ := h.package_of_state (by rw [hs]; decide)
  unfold Machine.expireReceipt
  dsimp only
  rw [hp]
  exact (h.voidAndHold hp _).settle

/-! ## Presence (R135, R138, R150) -/

/-- A field that no law mentions. -/
theorem fields (h : s.Orderly) {k : Station} (a : Alters st k s t)
    (same : { k with
      transmitter := (s.station st).transmitter, receiver := (s.station st).receiver, present := (s.station st).present } = s.station st) :
    t.Orderly :=
  h.touch a (congrArg Station.state same :) (congrArg Station.base same :) (congrArg Station.package same :) fun hk => hk.congr same

theorem present (h : s.Orderly) (timeout : Nat) (c : Prop) [Decidable c] :
    (s.modifyStation st fun k =>
      let k := { k with present := true }
      if c ∧ k.state = .waiting then k.greet timeout else k).Orderly := by
  have alters := Alters.modifyStation st (fun k =>
      let k := { k with present := true }
      if c ∧ k.state = .waiting then k.greet timeout else k) s
  dsimp only at alters ⊢
  by_cases hw : (s.station st).state = .waiting
  · by_cases hc : c
    · rw [if_pos ⟨hc, hw⟩] at alters
      have shaped := (h.placed st).1
      exact h.move alters (by rw [hw]; exact nofun) (by rw [hw]; exact nofun) rfl (.inl rfl)
        (Station.shaped_greet (k := { s.station st with present := true }) (shaped.base_isSome (by rw [hw]; decide))
          (shaped.holds_eq_zero (by rw [hw]; exact nofun)) (shaped.identity_eq_none (by rw [hw]; decide))
          (shaped.package_eq_none (by rw [hw]; decide)) (fun hm => (shaped.mark hm).1) _) nofun
    · rw [if_neg fun e => hc e.1] at alters
      exact h.fields alters rfl
  · rw [if_neg fun e => hw e.2] at alters
    exact h.fields alters rfl

/-- A station with a terminal but no package loses its terminal. -/
theorem endTerminal (h : s.Orderly) (hs : (s.station st).state = .identifying ∨ (s.station st).state = .departing) :
    (s.modifyStation st fun k => k.silence.endTerminal).Orderly := by
  have shaped := (h.placed st).1
  have other (x : StationState) (hi : x ≠ .identifying) (hd : x ≠ .departing) : (s.station st).state ≠ x := fun e => by
    rcases hs with e' | e'
    · exact hi (e.symm.trans e')
    · exact hd (e.symm.trans e')
  have zero : (s.station st).holds = 0 := shaped.holds_eq_zero (other _ nofun nofun)
  have none := shaped.package_eq_none (by rcases hs with e | e <;> rw [e] <;> decide)
  obtain ⟨state, package, base⟩ := Station.endTerminal_state (s.station st).silence
  exact h.move (.modifyStation st (fun k => k.silence.endTerminal) s) (other _ nofun nofun) (other _ nofun nofun)
    (package.trans none.symm) (.inl base) (Station.shaped_endTerminal zero) state

theorem endStalled (h : s.Orderly) (hs : (s.station st).state = .stalled) :
    ((leaveWaitingList st s).modifyStation st (·.endTerminal)).Orderly := by
  have left := (h.loosened (h.live_of_state (by rw [hs]; exact nofun))).leave st hs
  have same : (leaveWaitingList st s).station st = s.station st := by
    unfold leaveWaitingList
    split <;> rfl
  have alters := Alters.modifyStation st (·.endTerminal) (leaveWaitingList st s)
  have shaped := left.shaped st
  have zero := shaped.holds_eq_zero (by rw [same, hs]; exact nofun)
  have none := shaped.package_eq_none (by rw [same, hs]; decide)
  obtain ⟨state, package, base⟩ := Station.endTerminal_state ((leaveWaitingList st s).station st)
  have shaped' := Station.shaped_endTerminal zero
  have linked := alters.linked left.linked (left.off st List.mem_cons_self) (package.trans none.symm) (.inl base) shaped'.1
  exact (left.treated (.of_alters linked alters) (alters.self ▸ shaped') (alters.self ▸ state)).orderly

theorem removeTerminal (h : s.Orderly) (st : StationId) : (removeTerminal st s).Orderly := by
  unfold Machine.removeTerminal
  split
  · exact h
  · exact h
  · exact h
  · next hs => exact h.endTerminal (.inl hs)
  · next hs => exact h.endStalled hs
  · next hs => exact h.removePackage (by rw [hs]; decide)
  · next hs => exact h.removePackage (by rw [hs]; decide)
  · next hs => exact h.removePackage (by rw [hs]; decide)
  · next hs => exact h.endTerminal (.inr hs)
  · exact h.fields (.modifyStation st (·.silence) s) rfl

/-! ## Timers and transmissions (R136, R139, R145) -/

theorem dismissTerminal (h : s.Orderly) (hs : (s.station st).state = .identifying) (e : Event) :
    (dismissTerminal e st s).Orderly := by
  have shaped := (h.placed st).1
  have none := shaped.package_eq_none (by rw [hs]; decide)
  have zero := shaped.holds_eq_zero (by rw [hs]; exact nofun)
  refine h.move ((Alters.modifyStation st (fun k => (k.close .notServed).depart) s).latch e) (by rw [hs]; exact nofun)
    (by rw [hs]; exact nofun) none.symm (.inl (Station.close_base ..)) (Station.shaped_depart ?_ ?_) nofun
  · unfold Station.close
    split <;> exact zero
  · unfold Station.close
    split <;> exact fun hm => (shaped.mark hm).1

theorem packageSent (h : s.Orderly) (timeout : Nat) (st : StationId) : (s.modifyStation st (packageSent timeout)).Orderly := by
  have alters := Alters.modifyStation st (Machine.packageSent timeout) s
  have shaped := (h.placed st).1
  unfold Machine.packageSent at alters ⊢
  split at alters
  · next hs _ =>
    obtain ⟨h1, h2, h3, h4, h5, h6, h7, h8, h9, h10, h11⟩ := shaped
    refine h.move alters (by rw [hs]; exact nofun) (by rw [hs]; exact nofun) rfl (.inl rfl) ?_ nofun
    refine ⟨nofun, fun _ => h2 (by rw [hs]; decide), fun e => by simp at e, nofun, nofun,
      fun hm => ⟨(h6 hm).1, rfl⟩, fun e => by simp at e, fun _ => h8 (by rw [hs]; decide), ?_, ?_, rfl⟩
    · cases hp : (s.station st).package with
      | none =>
        rw [hp] at h9
        exact absurd hs fun e => h9 (by rw [e]; decide)
      | some p =>
        rw [hp] at h9
        refine .inr ⟨.inr rfl, ?_⟩
        rcases h9 with ⟨e, -⟩ | ⟨-, expected⟩
        · rw [hs] at e
          cases e
        · exact expected
    · refine iff_of_false (fun hz => ?_) nofun
      have := h10.1 hz
      rw [hs] at this
      cases this
  · next hne =>
    refine h.keep ?_
    split
    · next hs ht => exact (hne _ _ _ _ _ hs ht).elim
    · rfl

theorem frameSent (h : s.Orderly) (st : StationId) : (s.modifyStation st frameSent).Orderly := by
  refine h.fields (.modifyStation st Machine.frameSent s) ?_
  unfold Machine.frameSent
  split <;> rfl

end State.Orderly

end Sys2Proof.Machine

/-! # IDENTITY and the completions of jobs keep the laws of the stations (R140 to R144, chapters 3 and 5) -/

namespace Sys2Proof.Machine

variable {s t u : State} {st : StationId} {i : SlotId}

/-! ## A stall (R44) -/

/-- A station that was identified joins the back of its record's list. -/
theorem stallStation_orderly (h : u.Linked) (live : u.Live) (others : ∀ tt, tt ≠ st → u.Placed tt)
    (shaped : ({ u.station st with state := .stalled } : Station).Shaped) (hn : (u.station st).package = none)
    (hb : (u.station st).base = some i) (off : ∀ j, st ∉ (u.slot j).waiting) : (stallStation i st u).Orderly := by
  have slot (j : SlotId) : (stallStation i st u).slot j =
      if j = i then { u.slot i with waiting := (u.slot i).waiting ++ [st] } else u.slot j :=
    slot_modifySlot u i j fun sl => { sl with waiting := sl.waiting ++ [st] }
  have self : (stallStation i st u).station st = { u.station st with state := .stalled } := station_setStation_self ..
  have other (tt : StationId) (e : tt ≠ st) : (stallStation i st u).station tt = u.station tt := station_setStation_of_ne _ e _
  have powered : (stallStation i st u).powered = u.powered := rfl
  have device : (stallStation i st u).device = u.device := rfl
  have issues := h.based st i hb
  generalize stallStation i st u = v at *
  have account (j : SlotId) : (v.slot j).account = (u.slot j).account := by
    rw [slot]
    split
    · next e => rw [e]
    · rfl
  have mem {tt : StationId} {j : SlotId} : tt ∈ (v.slot j).waiting ↔ tt ∈ (u.slot j).waiting ∨ tt = st ∧ j = i := by
    rw [slot]
    split
    · next e =>
      rw [e, List.mem_append, List.mem_singleton]
      simp
    · next e => simp [e]
  have base (tt : StationId) : (v.station tt).base = (u.station tt).base := by
    by_cases e : tt = st
    · rw [e, self]
    · rw [other tt e]
  have package (tt : StationId) : (v.station tt).package = (u.station tt).package := by
    by_cases e : tt = st
    · rw [e, self]
    · rw [other tt e]
  have claims (tt : StationId) (j : SlotId) (n : Nat) : (v.station tt).claims j n ↔ (u.station tt).claims j n :=
    Station.claims_congr (package tt)
  have owes (j : SlotId) (n : Nat) : (v.slot j).Owes n ↔ (u.slot j).Owes n := Slot.owes_congr (account j)
  have state (j : SlotId) : (v.slot j).recordState = (u.slot j).recordState := congrArg (Option.map _) (account j)
  have linked : v.Linked := {
    records := fun j => by
      rw [slot]
      split
      · exact (h.records i).withWaiting fun _ => .inr issues
      · exact h.records j
    based := fun tt j hj => by
      rw [base] at hj
      exact (Slot.issues_congr (account j)).2 (h.based tt j hj)
    unbound := fun tt hu => by
      by_cases e : tt = st
      · rw [e, self] at hu
        cases hu
      · rw [other tt e] at hu ⊢
        exact h.unbound tt hu
    once := fun j => by
      rw [slot]
      split
      · exact (h.once i).append (List.nodup_singleton st) (List.disjoint_singleton.2 (off i))
      · exact h.once j
    waits := fun j tt hw => by
      rcases mem.1 hw with hw | ⟨rfl, rfl⟩
      · have e : tt ≠ st := fun e => off j (e ▸ hw)
        rw [other tt e]
        exact h.waits j tt hw
      · rw [self]
        exact ⟨shaped, rfl, hb⟩
    packaged := fun tt p hp => by
      rw [package] at hp
      rw [base, owes]
      exact h.packaged tt p hp
    own := fun tt uu j n => by
      rw [claims, claims]
      exact h.own tt uu j n
    claimed := fun hp hd j n ho hq => by
      rw [owes] at ho
      rw [state] at hq
      obtain ⟨tt, hc⟩ := h.claimed (powered ▸ hp) (device ▸ hd) j n ho hq
      exact ⟨tt, (claims tt j n).2 hc⟩
    nothing := fun j n => by
      rw [state, owes]
      exact h.nothing j n }
  refine ⟨linked, fun tt => ?_, fun hl => absurd ⟨powered.trans live.1, device.trans live.2⟩ hl⟩
  by_cases e : tt = st
  · subst e
    refine ⟨self ▸ shaped, fun j _ hj => mem.2 (.inr ⟨rfl, ?_⟩)⟩
    rw [base, hb] at hj
    exact (Option.some.inj hj).symm
  · exact (others tt e).congr (other tt e) fun j hw => mem.2 (.inl hw)

namespace State.Orderly

/-! ## IDENTITY (R140 to R142) -/

/-- The station after its terminal's IDENTITY, before it is served. -/
structure Identified (s u : State) (st : StationId) (i : SlotId) (x : TerminalId) : Prop where
  ripple : Ripples (some st) s u
  station : u.station st = { s.station st with timer := .stopped, identity := some x }
  base : (s.station st).base = some i
  state : (s.station st).state = .identifying

namespace Identified

variable {x : TerminalId}

theorem facts (h : s.Orderly) (k : Identified s u st i x) :
    (u.station st).base = some i ∧ (u.station st).package = none ∧ (u.station st).holds = 0 ∧ (u.slot i).Issues ∧
      ∀ j, st ∉ (u.slot j).waiting := by
  have shaped := (h.placed st).1
  have base : (u.station st).base = some i := (congrArg Station.base k.station).trans k.base
  refine ⟨base, ?_, ?_, k.ripple.linked.based st i base, k.ripple.linked.not_listed_of_state ?_⟩
  · rw [k.station]
    exact shaped.package_eq_none (by rw [k.state]; decide)
  · rw [k.station]
    exact shaped.holds_eq_zero (by rw [k.state]; exact nofun)
  · rw [k.station]
    exact fun e => by cases k.state.symm.trans e

theorem live (h : s.Orderly) (k : Identified s u st i x) : s.Live := h.live_of_state (by rw [k.state]; exact nofun)

/-- The station is served or held. -/
theorem parked (h : s.Orderly) (k : Identified s u st i x) (r : Ripples (some st) u t ∧ Parked (u.station st) (t.station st)) :
    t.Orderly := h.ripple_but (k.ripple.trans r.1) (k.live h) r.2.placed

theorem dismiss (h : s.Orderly) (k : Identified s u st i x) (e : Event) : (Machine.dismissTerminal e st u).Orderly := by
  obtain ⟨base, none, zero, -, off⟩ := k.facts h
  have alters := (Alters.modifyStation st (fun k => (k.close .notServed).depart) u).latch e
  have shaped : ((u.station st).close .notServed).depart.Shaped := by
    refine Station.shaped_depart ?_ ?_
    · unfold Station.close
      split <;> exact zero
    · have mark : (u.station st).disarmAfter = true → (u.station st).mode = .line := by
        rw [k.station]
        exact fun hm => ((h.placed st).1.mark hm).1
      unfold Station.close
      split <;> exact mark
  have linked := alters.linked k.ripple.linked off none.symm (.inl (Station.close_base ..)) shaped.1
  refine h.ripple_but (k.ripple.trans (.of_alters linked alters)) (k.live h) ?_
  have self : (Machine.dismissTerminal e st u).station st = ((u.station st).close .notServed).depart := alters.self
  unfold State.Placed
  rw [self]
  exact ⟨shaped, nofun⟩

theorem shaped_stalled (h : s.Orderly) (k : Identified s u st i x) : ({ u.station st with state := .stalled } : Station).Shaped := by
  obtain ⟨base, none, zero, -, -⟩ := k.facts h
  have mark := (h.placed st).1.mark
  rw [k.station] at base none zero ⊢
  unfold Station.Shaped
  simp only at base none zero ⊢
  simp [base, none, zero, StationState.hasTerminal, StationState.isServing]
  exact fun hm => (mark hm).1

theorem take (h : s.Orderly) (k : Identified s u st i x) (p : Protection) : (takeAtIdentity i st p u).Orderly := by
  obtain ⟨base, none, zero, issues, off⟩ := k.facts h
  have refused (c : HoldCondition) : (refuseService c st u).Orderly := k.parked h (Ripple.refuse k.ripple.linked off none c)
  obtain ⟨a, iss, ha, hp, -⟩ := issues.base
  unfold takeAtIdentity
  rw [show u.account i = some a from ha]
  dsimp only
  rw [Account.issuance_eq_some.2 hp]
  dsimp only
  split
  · exact refused _
  · exact stallStation_orderly k.ripple.linked ⟨k.ripple.powered.trans (k.live h).1, k.ripple.device.trans (k.live h).2⟩
      (fun tt e => k.ripple.placed (fun e' => e (Option.some.inj e').symm) (h.placed tt)) (k.shaped_stalled h) none base off
  · next hv =>
    exact k.parked h (Ripple.take k.ripple.linked ha hp hv (fun hm => ((k.shaped_stalled h).mark hm).1) zero (x := x)
      (by rw [k.station]) none base off List.not_mem_nil p)

/-- The lookup of a transport leaves the station alone: its own record passed its read-check. -/
theorem lookup (h : s.Orderly) (k : Identified s u st i x) (good : (u.slot i).readable = true) (y : TerminalId) :
    Identified s (transportLookup quarantine [] i y u).1 st i x := by
  obtain ⟨base, none, -, -, off⟩ := k.facts h
  have within : u.Within (fun j => (u.slot j).readable = false) Config.quarantineDepth :=
    ⟨k.ripple.linked, fun _ => id, k.ripple.linked.within.few⟩
  have looked := transportLookup_ripple (quarantineAt_ripples Config.quarantineDepth) within [] i y
  have same := looked.spares (st := st) nofun
    (fun j hj e => by rw [← Option.some.inj (base.symm.trans hj), good] at e; cases e) none off
  exact ⟨k.ripple.trans ((looked.mono (fun _ _ => trivial) fun _ => id).except _), same.trans k.station, k.base, k.state⟩

theorem serve (h : s.Orderly) (k : Identified s u st i x) (good : (u.slot i).readable = true) (y : TerminalId) :
    (serveTerminal i st y u).Orderly := by
  have looked := k.lookup h good y
  unfold serveTerminal
  dsimp only
  generalize transportLookup quarantine [] i y u = r at looked ⊢
  obtain ⟨-, none, -, -, off⟩ := looked.facts h
  split
  · exact looked.parked h (Ripple.refuse looked.ripple.linked off none _)
  · exact looked.take h _

end Identified

theorem takeIdentity (h : s.Orderly) (hs : (s.station st).state = .identifying) (x : TerminalId) : (takeIdentity st x s).Orderly := by
  obtain ⟨i, hb⟩ := Option.isSome_iff_exists.1 ((h.placed st).1.base_isSome (by rw [hs]; decide))
  have alters := Alters.modifyStation st (fun k => { k with timer := .stopped, identity := some x }) s
  have linked := alters.linked h.linked (h.linked.not_listed_of_state (by rw [hs]; exact nofun)) rfl (.inl rfl) fun hu => by
    rw [show (s.station st).state = .unbound from hu] at hs
    cases hs
  have identified : Identified s (s.modifyStation st fun k => { k with timer := .stopped, identity := some x }) st i x :=
    ⟨.of_alters linked alters, alters.self, hb, hs⟩
  unfold Machine.takeIdentity
  dsimp only
  rw [hb]
  dsimp only
  generalize s.modifyStation st (fun k => { k with timer := .stopped, identity := some x }) = u at *
  have checked := check_ripples linked i
  split
  · next hi =>
    have untouched : (Machine.check i u).station st = u.station st := by
      rcases checked.stations st nofun with ⟨same, -⟩ | ⟨-, -, state, -⟩
      · exact same
      · rw [hi] at state
        rcases state with e | e <;> cases e
    obtain ⟨same, good⟩ := check_of_bound linked (i := i) (st := st) (by rw [untouched]; exact (identified.facts h).1)
    rw [same]
    obtain ⟨a, iss, ha, -⟩ := (identified.facts h).2.2.2.1.base
    rw [show u.account i = some a from ha]
    dsimp only
    split
    · exact (identified.dismiss h _).settle
    · exact (identified.serve h good x).settle
  · next hi =>
    refine State.Orderly.settle (h.ripple_but (identified.ripple.trans (checked.except _)) (identified.live h) ?_)
    rcases checked.stations st nofun with ⟨same, -⟩ | ⟨-, parked⟩
    · exact absurd ((congrArg Station.state same).trans ((congrArg Station.state identified.station).trans hs)) hi
    · exact parked.placed

/-! ## The PACKAGE job (R144) -/

theorem applyPackage_eq_setStation {p : Package} (hp : (s.station st).package = some p)
    (hs : (s.station st).state = .preparing) (r : StationFrame × BitVec 24) :
    Machine.applyPackage st r s = s.setStation st
      { s.station st with
        state := .sending, package := some { p with expected := some r.2 },
        transmitter := placeFrame r.1 (s.station st).transmitter } := by
  simp only [Machine.applyPackage, State.modifyStation, hp, hs, if_true]

theorem applyPackage (h : s.Orderly) (st : StationId) (r : StationFrame × BitVec 24) : (applyPackage st r s).Orderly := by
  cases hp : (s.station st).package with
  | none =>
    have same : Machine.applyPackage st r s = s := by simp only [Machine.applyPackage, State.modifyStation, hp, setStation_station]
    rwa [same]
  | some p =>
    by_cases hs : (s.station st).state = .preparing
    · rw [applyPackage_eq_setStation hp hs]
      generalize hk' : { s.station st with
            state := .sending, package := some { p with expected := some r.2 },
            transmitter := placeFrame r.1 (s.station st).transmitter } = k'
      have alters := Alters.setStation st k' s
      have off := h.linked.not_listed_of_package hp
      obtain ⟨h1, h2, h3, h4, h5, h6, h7, h8, h9, h10, h11⟩ := (h.placed st).1
      have zero := (h.placed st).1.holds_eq_zero (by rw [hs]; exact nofun)
      have timer := (h.placed st).1.timer_stopped (by rw [hs]; exact nofun) (by rw [hs]; exact nofun)
      have base := h2 (by rw [hs]; decide)
      have identity := h8 (by rw [hs]; decide)
      have shaped : k'.Shaped := by
        subst hk'
        refine ⟨nofun, fun _ => base, fun e => by simp at e, nofun, nofun, fun hm => ⟨(h6 hm).1, rfl⟩, fun e => by simp at e,
          fun _ => identity, .inr ⟨.inl rfl, rfl⟩, iff_of_false (fun hne => hne zero) nofun, ?_⟩
        dsimp only
        rw [timer]
        exact ⟨nofun, nofun⟩
      have linked : (s.setStation st k').Linked := by
        refine h.linked.changeStation alters.slot alters.others (fun hp hd => ⟨hp, hd⟩) (fun j hw => absurd hw (off j))
          (fun j n => ?_) (fun j hj => ?_) (fun _ => ?_) (by rw [alters.self]; exact shaped.1)
        · rw [alters.self, ← hk', Station.claims, Station.claims, hp]
          constructor
          · rintro ⟨_, ⟨⟩, hj, hn⟩
            exact ⟨p, rfl, hj, hn⟩
          · rintro ⟨_, ⟨⟩, hj, hn⟩
            exact ⟨_, rfl, hj, hn⟩
        · rw [alters.self, ← hk'] at hj
          exact h.linked.based st j hj
        · rw [alters.self, ← hk']
      refine h.ripple_but (Q := fun _ => False) (busy := []) (.of_alters linked alters)
        (h.live_of_state (by rw [hs]; exact nofun)) ?_
      unfold State.Placed
      rw [alters.self]
      exact ⟨shaped, by rw [← hk']; exact nofun⟩
    · have same : Machine.applyPackage st r s = s := by
        simp only [Machine.applyPackage, State.modifyStation, hp, hs, if_false, setStation_station]
      rwa [same]

end State.Orderly

end Sys2Proof.Machine

/-! # Commands to records, components and tickets keep the laws of the stations (chapters 1, 3 and 4) -/

namespace Sys2Proof.Machine

variable {s t u : State} {st : StationId} {i : SlotId}

theorem Slot.owes_of_part {sl x : Slot} {a b : Account} (ha : sl.account = some a) (hb : x.account = some b) (hp : b.part = a.part)
    (n : Nat) : x.Owes n ↔ sl.Owes n := by
  constructor
  · rintro ⟨c, iss, hc, hpart, ho⟩
    rw [hb] at hc
    cases hc
    exact ⟨a, iss, ha, hp ▸ hpart, ho⟩
  · rintro ⟨c, iss, hc, hpart, ho⟩
    rw [ha] at hc
    cases hc
    exact ⟨b, iss, hb, hp.trans hpart, ho⟩

theorem Slot.not_owes_of_transport {sl : Slot} {a : Account} (ha : sl.account = some a) (ht : a.part.isBase = false) (n : Nat) :
    ¬ sl.Owes n := by
  rintro ⟨b, iss, hb, hp, -⟩
  rw [ha] at hb
  cases hb
  rw [hp] at ht
  cases ht

theorem Slot.not_issues_of_transport {sl : Slot} {a : Account} (ha : sl.account = some a) (ht : a.part.isBase = false) : ¬ sl.Issues := by
  rintro ⟨b, hb, hbase, -⟩
  rw [ha] at hb
  cases hb
  rw [ht] at hbase
  cases hbase

theorem Slot.not_issues_of_state {sl : Slot} {r : RecordState} (h : sl.recordState = some r) (hr : r.isLive = false) : ¬ sl.Issues :=
  fun hi => hi.recordState_ne hr h

/-- A new BASE record has an empty window (R16). -/
theorem createPart_window {c : CreateOperands} {k : KeyLength} {q : Quorum} {iss : Issuance}
    (h : createPart c = some (k, q, .base iss)) : iss.window = [] := by
  unfold createPart at h
  split at h
  · split at h
    · split at h
      · dsimp only at h
        split at h
        · cases h
        · cases h
          rfl
      · split at h
        · split at h <;> cases h
        · cases h
    · cases h
  · cases h

namespace State.Orderly

/-! ## A record is rewritten -/

/-- A record is rewritten with the same part, in the same state or one with a key. -/
theorem rewrite (h : s.Orderly) {x : Slot} {a b : Account} (ha : s.account i = some a) (hb : x.account = some b) (lawful : x.Lawful)
    (waiting : x.waiting = (s.slot i).waiting) (part : b.part = a.part)
    (state : b.state = a.state ∨ b.state.isLive = true ∧ a.state ≠ .quarantined) : (s.setSlot i x).Orderly :=
  h.steady (.of_account (a := a) ha hb (h.linked.nothing i) lawful waiting (Slot.owes_of_part (a := a) ha hb part) (by rw [part]) state)

/-- The same for a change of the fields. -/
theorem update (h : s.Orderly) {f : Account → Account} (hc : SlotChange (s.slot i) ((s.slot i).update f))
    (part : ∀ a, s.account i = some a → (f a).part = a.part)
    (state : ∀ a, s.account i = some a → (f a).state = a.state ∨ (f a).state.isLive = true ∧ a.state ≠ .quarantined) :
    (s.modifySlot i (·.update f)).Orderly := by
  have lawful := (h.linked.records i).change hc
  show (s.setSlot i ((s.slot i).update f)).Orderly
  cases ha : s.account i with
  | none =>
    have same : (s.slot i).update f = s.slot i := by
      unfold Slot.update
      rw [show (s.slot i).account = none from ha]
    rw [same, setSlot_slot]
    exact h
  | some a =>
    have written : (s.slot i).update f = (s.slot i).write (f a) (s.slot i).secret := by
      unfold Slot.update
      rw [show (s.slot i).account = some a from ha]
    rw [written] at lawful ⊢
    exact h.rewrite ha rfl lawful rfl (part a ha) (state a ha)

theorem executeGrant (h : s.Orderly) (i : SlotId) (amount : BitVec 16) : (executeGrant i amount s).Orderly := by
  have lawful := (h.linked.records i).change (.grant _ amount.toNat)
  show (s.setSlot i ((s.slot i).update (·.mapIssuance fun x => { x with allowance := raiseAllowance x.allowance amount.toNat }))).Orderly
  cases ha : s.account i with
  | none =>
    have same : (s.slot i).update (·.mapIssuance fun x => { x with allowance := raiseAllowance x.allowance amount.toNat }) = s.slot i := by
      unfold Slot.update
      rw [show (s.slot i).account = none from ha]
    rw [same, setSlot_slot]
    exact h
  | some a =>
    unfold Slot.update at lawful ⊢
    rw [show (s.slot i).account = some a from ha] at lawful ⊢
    dsimp only at lawful ⊢
    refine h.steady (.of_account (a := a) ha rfl (h.linked.nothing i) lawful rfl (fun n => ?_) (Account.mapIssuance_isBase ..)
      (.inl (Account.mapIssuance_state ..)))
    cases hp : a.part with
    | transport m =>
      rw [Account.mapIssuance_of_transport hp]
      exact Slot.owes_of_part (a := a) ha rfl rfl n
    | base iss =>
      rw [Account.mapIssuance_of_base hp, Slot.owes_of_account (sl := s.slot i) ha hp, Slot.owes_of_account (sl := Slot.write ..) rfl rfl]
      exact Iff.rfl

/-! ## The commands of chapter 1 -/

theorem readRecords (h : s.Orderly) (first count : Byte) : (readRecords first count s).state.Orderly := by
  have summarised : ∀ (l : List SlotId) (u : State), u.Orderly → (summariseSlots l u).1.Orderly := fun l => by
    induction l with
    | nil => exact fun _ hu => hu
    | cons i l ih => exact fun u hu => ih _ (hu.check i)
  refine withSlot_state (P := State.Orderly) h fun first => ?_
  dsimp only
  exact (summarised _ _ h).settle

theorem findRecord (h : s.Orderly) (found : Account → Bool) (data : SlotId → State → List Byte) :
    (findRecord found data s).state.Orderly := by
  unfold Machine.findRecord
  dsimp only [reply]
  split <;> (dsimp only; exact (h.search found).settle)

theorem cancelAssembly (h : s.Orderly) (b : Byte) : (cancelAssembly b s).state.Orderly := by
  refine withSlot_state (P := State.Orderly) h fun i => ?_
  have checked := h.check i
  dsimp only [reply]
  split
  · dsimp only; exact checked.settle
  · next a ha =>
    split
    · next hs =>
      dsimp only
      have none : ¬ ((Machine.check i s).slot i).Issues :=
        Slot.not_issues_of_state (r := .assembling) (Option.map_eq_some_iff.2 ⟨a, ha, hs⟩) rfl
      have abandoned : (abandonJobs (Job.isCustodianFor i) (Machine.check i s)).Orderly := checked.setEngine _
      exact settle (cancelLines (abandoned.empty none) _ _)
    · dsimp only; exact checked.settle

theorem narrow (h : s.Orderly) (b mask : Byte) : (narrow b mask s).state.Orderly := by
  refine withSlot_state (P := State.Orderly) h fun i => ?_
  have checked := h.check i
  dsimp only [reply]
  split
  · dsimp only; exact checked.settle
  · next a ha =>
    split
    · dsimp only
      refine settle ?_
      have within : ∀ p q m : BitVec 4, p &&& m &&& ~~~ (p ||| q) = 0 := by decide
      have permitted : SlotChange ((Machine.check i s).slot i)
          (((Machine.check i s).slot i).update fun b => { b with permissions := a.permissions &&& mask.setWidth 4 }) := by
        refine .permit _ (fun _ => a.permissions &&& mask.setWidth 4) fun b hb => ?_
        obtain rfl : b = a := Option.some.inj (hb.symm.trans ha)
        exact within ..
      have narrowed := checked.update permitted (fun _ _ => rfl) fun _ _ => .inl rfl
      split
      · exact foldl_state (P := State.Orderly) (fun _ st hu => hu.stopLine st) _ narrowed
      · exact narrowed
    · dsimp only; exact checked.settle

theorem moveRecord (h : s.Orderly) {source target : RecordState} (i : SlotId)
    (hc : ∀ sl : Slot, sl.recordState = some source → SlotChange sl (sl.update fun a => { a with state := target }))
    (live : target.isLive = true) (hs : source ≠ .quarantined) : (moveRecord i source target s).state.Orderly := by
  have checked := h.check i
  unfold Machine.moveRecord
  dsimp only [reply]
  split
  · next before =>
    dsimp only
    refine (checked.update (hc _ before) (fun _ _ => rfl) fun a ha => .inr ⟨live, ?_⟩).settle
    obtain ⟨b, hb, hstate⟩ := Option.map_eq_some_iff.1 before
    rw [show ((Machine.check i s).slot i).account = some a from ha] at hb
    cases hb
    exact hstate ▸ hs
  · dsimp only; exact checked.settle

theorem retire (h : s.Orderly) (b : Byte) : (retire b s).state.Orderly := by
  refine withSlot_state (P := State.Orderly) h fun i => ?_
  have checked := h.check i
  dsimp only [reply]
  split
  · dsimp only; exact checked.settle
  · next a ha =>
    split
    · next hl =>
      split
      · dsimp only; exact checked.settle
      · next idle =>
        dsimp only
        have ha' : ((Machine.check i s).slot i).account = some a := ha
        simp only [recordBusy, Bool.or_eq_true, not_or, List.any_eq_true, not_exists, not_and] at idle
        obtain ⟨free, nothing⟩ := idle
        have lawful := (checked.linked.records i).change (.retire _ a ha hl)
        unfold State.modifySlot
        refine (checked.replace (i := i) (fun st hb => free st (mem_allStations st) ?_) lawful ?_ fun n ho => ?_).settle
        · rw [Station.dependsOn, hb]
          simp
        · unfold Slot.retire
          rw [ha']
        · have retired : ((Machine.check i s).slot i).retire.account = some { a with state := .retired } := by
            unfold Slot.retire
            rw [ha']
            rfl
          have owed : ((Machine.check i s).slot i).Owes n := (Slot.owes_of_part (a := a) ha retired rfl n).1 ho
          obtain ⟨c, iss, hc, hp, ho⟩ := owed
          rw [ha'] at hc
          cases hc
          rw [hp] at nothing
          refine nothing (bne_iff_ne.2 (Nat.pos_iff_ne_zero.1 (List.count_pos_iff.2 ?_)))
          exact List.mem_of_getElem? (Issuance.owes_iff.1 ho).2
    · dsimp only; exact checked.settle

theorem failTicketsOn (h : s.Orderly) (i : SlotId) : (failTicketsOn i s).Orderly :=
  foldl_state (P := State.Orderly) (fun _ _ hu => (hu.setApproval _).latch _) _ h

theorem release (h : s.Orderly) (b : Byte) : (release b s).state.Orderly := by
  refine withSlot_state (P := State.Orderly) h fun i => ?_
  have checked := h.check i
  dsimp only [reply]
  split
  · next hs =>
    split
    · dsimp only; exact checked.settle
    · dsimp only; exact ((checked.empty (Slot.not_issues_of_state hs rfl)).failTicketsOn i).settle
  · dsimp only; exact checked.settle

theorem verify (h : s.Orderly) (b : Byte) : (verify b s).state.Orderly := by
  refine withSlot_state (P := State.Orderly) h fun i => ?_
  split
  · exact h
  · have checked := h.check i
    dsimp only [reply]
    split
    · dsimp only; exact checked.settle
    · split
      · dsimp only
        exact ((checked.setConsole _).placeJob _).settle
      · dsimp only; exact checked.settle

theorem createRecord (h : s.Orderly) {c : CreateOperands} {k : KeyLength} {q : Quorum} {part : ClassPart}
    (hp : createPart c = some (k, q, part)) (i : SlotId) : (createRecord i c k q part s).state.Orderly := by
  unfold Machine.createRecord
  dsimp only
  split
  · exact h
  · next empty =>
    have searched := h.search fun a => a.label == BitVec.ofNat 64 (natOfBytes c.label)
    have moved := TableMoves.search (fun a => a.label == BitVec.ofNat 64 (natOfBytes c.label)) s
    split
    · rw [reply_state]
      exact searched.settle
    · generalize (Machine.search (fun a => a.label == BitVec.ofNat 64 (natOfBytes c.label)) s).1 = v at searched moved ⊢
      have found : (modelSearch part v).1.Orderly ∧ TableMoves v (modelSearch part v).1 := by
        unfold modelSearch
        split
        · exact ⟨searched, .refl v⟩
        · exact ⟨searched.search _, .search ..⟩
      split
      · rw [reply_state]
        exact found.1.settle
      · dsimp only
        have none : ((modelSearch part v).1.slot i).account = none :=
          ((moved.trans found.2).slot i).changes.account_none (Option.not_isSome_iff_eq_none.1 empty)
        refine (found.1.replace (i := i) (found.1.free_of_not_issues fun ⟨a, ha, _⟩ => by rw [none] at ha; cases ha)
          (newRecord_lawful (by ext j; simp +contextual) (createPart_lawful hp)) rfl fun n ho => ?_).settle
        obtain ⟨a, iss, ha, hpart, ho⟩ := ho
        cases ha
        obtain rfl : part = .base iss := hpart
        have window := (Issuance.owes_iff.1 ho).2
        rw [createPart_window hp] at window
        cases window

end State.Orderly

end Sys2Proof.Machine

namespace Sys2Proof.Machine

variable {s t u : State} {st : StationId} {i : SlotId}

namespace State.Orderly

/-! ## Components and the completion of jobs (chapters 3 and 5) -/

/-- The assembly part of a record is rewritten. -/
theorem assemble (h : s.Orderly) {a : Account} {m m' : Assembly} {k : Option Key} (ha : s.account i = some a)
    (hm : a.assembly = some m)
    (hl : m.contributed &&& m.reserved = 0 → lineCount m.contributed + lineCount m.reserved ≤ a.quorum.toNat →
      m'.contributed &&& m'.reserved = 0 ∧ lineCount m'.contributed + lineCount m'.reserved ≤ a.quorum.toNat) :
    (s.setSlot i ((s.slot i).write { a with assembly := some m' } k)).Orderly :=
  h.rewrite (b := { a with assembly := some m' }) ha rfl ((h.linked.records i).assemble ha hm hl) rfl rfl (.inl rfl)

theorem component (h : s.Orderly) (l : Line) (c : ComponentOperands) : (component l c s).1.Orderly := by
  unfold Machine.component
  split
  · exact h
  · exact h
  · split
    · exact h
    · next i _ =>
      have checked := h.check i
      dsimp only
      split
      · dsimp only; exact checked.settle
      · next taken =>
        dsimp only
        obtain ⟨a, m, ha, hm, hfree, hcount⟩ := componentRefusal_none taken
        generalize Machine.check i s = v at checked ha
        have same : (v.slot i).update (·.mapAssembly fun m => { m with reserved := m.reserved ||| lineBit l }) =
            (v.slot i).write { a with assembly := some { m with reserved := m.reserved ||| lineBit l } } (v.slot i).secret := by
          simp only [Slot.update, show (v.slot i).account = some a from ha, Account.mapAssembly, hm, Option.map_some]
        have reserved : (v.modifySlot i (·.update (·.mapAssembly fun m => { m with reserved := m.reserved ||| lineBit l }))).Orderly := by
          show (v.setSlot i ((v.slot i).update (·.mapAssembly fun m => { m with reserved := m.reserved ||| lineBit l }))).Orderly
          rw [same]
          exact checked.assemble ha hm fun hd _ => reserve_lines hd hfree hcount
        unfold takeComponent
        dsimp only
        exact settle ((reserved.placeJob _).setLine _ _)

theorem lineStatus (h : s.Orderly) (l : Line) : (lineStatus l s).1.Orderly := by
  unfold Machine.lineStatus
  dsimp only
  split
  · exact (h.check _).settle
  · exact h

theorem applyComponentCheck (h : s.Orderly) (l : Line) (i : SlotId) (k : Key) (carried : BitVec 24) :
    (applyComponentCheck l i k carried s).Orderly := by
  have checked := h.check i
  unfold Machine.applyComponentCheck
  dsimp only
  generalize Machine.check i s = v at checked ⊢
  split
  · exact checked
  · next a ha =>
    split
    · exact checked
    · next m hm =>
      split
      · next hc =>
        split
        · have accepted : (v.setSlot i ((v.slot i).write (a.acceptComponent l (checkValue k)) ((v.slot i).secret.map (·.xor k)))).Orderly := by
            unfold Account.acceptComponent Account.mapAssembly
            rw [hm]
            refine checked.assemble ha hm fun hd hq => ?_
            obtain ⟨disjoint, count⟩ := contribute_lines hd hc.2
            exact ⟨disjoint, count ▸ hq⟩
          have written := accepted.setOutcome l i .accepted none
          unfold acceptComponent
          dsimp only
          split
          · exact written.placeJob _
          · exact written
        · have dropped : (v.setSlot i ((v.slot i).write (a.refuseComponent l) (v.slot i).secret)).Orderly := by
            unfold Account.refuseComponent Account.mapAssembly
            rw [hm]
            refine checked.assemble ha hm fun hd hq => ?_
            obtain ⟨disjoint, count⟩ := drop_line (l := l) hd
            exact ⟨disjoint, (Nat.add_le_add_left count _).trans hq⟩
          exact (dropped.setOutcome l i .checkMismatch none).latch _
      · exact checked

theorem applyKeyCheck (h : s.Orderly) (l : Line) (i : SlotId) (acc : Key) : (applyKeyCheck l i acc s).Orderly := by
  have checked := h.check i
  unfold Machine.applyKeyCheck
  dsimp only
  generalize Machine.check i s = v at checked ⊢
  split
  · next hs =>
    obtain ⟨a, ha, hstate⟩ := Option.map_eq_some_iff.1 hs
    have lawful := (checked.linked.records i).change (.complete _ acc hs)
    have completed : (v.setSlot i ((v.slot i).complete acc)).Orderly := by
      unfold Slot.complete at lawful ⊢
      rw [ha] at lawful ⊢
      exact checked.rewrite (a := a) ha rfl lawful rfl rfl (.inr ⟨rfl, by rw [hstate]; exact nofun⟩)
    exact (completed.setOutcome ..).latch _
  · exact checked

theorem quarantine (h : s.Orderly) (i : SlotId) : (quarantine [] i s).Orderly := h.ripple (quarantine_ripples h.linked i)

theorem applyVerify (h : s.Orderly) (i : SlotId) (key : Key) : (applyVerify i key s).Orderly := by
  have checked := h.check i
  unfold Machine.applyVerify
  dsimp only
  split
  · exact checked.endVerify ..
  · split
    · split
      · exact checked.endVerify ..
      · exact (checked.endVerify ..).quarantine i
    · exact checked.endVerify ..

theorem completion (h : s.Orderly) (delivery : Job → Copies → Option (State → State))
    (hd : ∀ j c apply, delivery j c = some apply → ∀ u : State, u.Orderly → (apply u).Orderly) : (completion delivery s).Orderly :=
  completion_state (P := State.Orderly) h fun _ apply _ ha => (hd _ _ apply ha _ (h.setEngine _)).settle

theorem storageError (h : s.Orderly) {changes : List (Nat × Word32)} (ht : exec (.storageError i changes) s = .next t) : t.Orderly := by
  cases ht
  cases ha : (s.slot i).account with
  | none =>
    simp only [State.modifySlot, ha, setSlot_slot]
    exact h
  | some a =>
    have lawful : Slot.Lawful { s.slot i with words := alterWords (s.slot i).words changes } :=
      (h.linked.records i).change (.alter _ _ (by rw [ha]; rfl))
    have altered : (s.setSlot i { s.slot i with words := alterWords (s.slot i).words changes }).Orderly :=
      h.rewrite (a := a) (b := a) ha ha lawful rfl rfl (.inl rfl)
    have same : ({ account := some a, words := alterWords (s.slot i).words changes, waiting := (s.slot i).waiting } : Slot) =
        { s.slot i with words := alterWords (s.slot i).words changes } := by rw [← ha]
    simp only [State.modifySlot, ha]
    rwa [same]

theorem sweep (h : s.Orderly) : (sweep s).Orderly := by
  unfold Machine.sweep
  split
  · exact h.setChecker _
  · exact ((h.setChecker _).check _).settle

/-! ## Tickets (chapter 4) -/

theorem precondition (h : s.Orderly) (act : Action) (i : SlotId) : (precondition act i s).1.Orderly := by
  unfold Machine.precondition
  split
  · exact h
  · exact h.check i

theorem openOn (h : s.Orderly) (act : Action) (i : SlotId) (amount : BitVec 16) : (openOn act i amount s).state.Orderly := by
  have settled := (h.precondition act i).settle
  unfold Machine.openOn
  dsimp only
  generalize settleEngine (Machine.precondition act i s).1 = v at settled ⊢
  split
  · exact settled
  · split
    · exact settled
    · split
      · exact settled
      · exact settled.setApproval _

theorem openTicket (h : s.Orderly) (act slot : Byte) (amount : BitVec 16) : (openTicket act slot amount s).state.Orderly := by
  unfold Machine.openTicket
  split
  · exact h
  · exact h.openOn ..
  · refine withSlot_state (P := State.Orderly) h fun i => ?_
    split
    · exact h
    · exact h.openOn ..

theorem dismissTicket (h : s.Orderly) (n : Byte) : (dismissTicket n s).state.Orderly := by
  unfold Machine.dismissTicket
  split
  · exact h
  · split
    · exact h
    · exact h.setApproval _

theorem decline (h : s.Orderly) (n : Byte) : (decline n s).1.Orderly := by
  refine ticketRequest_state (P := State.Orderly) h fun _ x _ => ?_
  split
  · exact h
  · exact h
  · exact h
  · exact (h.setApproval _).latch _

theorem expireTicket (h : s.Orderly) (n : Nat) : (expireTicket n s).Orderly := by
  unfold Machine.expireTicket
  split
  · exact h
  · split
    · exact (h.setApproval _).latch _
    · exact h

/-! ### FORCE_RETIRE (R91 to R93) -/

end State.Orderly

theorem Station.forceUnbound_serving {k : Station} (h : k.state ∈ [StationState.identifying, .stalled, .preparing, .sending, .awaitingReceipt]) :
    k.forceUnbound = ({ k.stop with base := none } : Station).aborted := by
  unfold Station.forceUnbound
  simp only [List.mem_cons, List.not_mem_nil, or_false] at h
  rcases h with h | h | h | h | h <;> rw [h]

theorem Station.Shaped.forceUnbound {k : Station} (h : k.Shaped) :
    k.forceUnbound.Shaped ∧ k.forceUnbound.state ≠ .stalled ∧ k.forceUnbound.base = none ∧ k.forceUnbound.package = none := by
  have serving (hs : k.state ∈ [StationState.identifying, .stalled, .preparing, .sending, .awaitingReceipt]) :
      k.forceUnbound.Shaped ∧ k.forceUnbound.state ≠ .stalled ∧ k.forceUnbound.base = none ∧ k.forceUnbound.package = none := by
    have zero := h.holds_eq_zero fun e => by rw [e] at hs; revert hs; decide
    rw [Station.forceUnbound_serving hs]
    obtain ⟨state, package, base⟩ := Station.aborted_state { k.stop with base := none }
    exact ⟨Station.shaped_aborted zero, state, base, package⟩
  have rested (hs : k.state = .bound ∨ k.state = .waiting) :
      k.forceUnbound.Shaped ∧ k.forceUnbound.state ≠ .stalled ∧ k.forceUnbound.base = none ∧ k.forceUnbound.package = none := by
    have left : k.forceUnbound = ({ k with base := none } : Station).rest := by
      unfold Station.forceUnbound
      rcases hs with e | e <;> rw [e]
    rw [left]
    obtain ⟨state, package, base⟩ := Station.rest_state { k with base := none }
    exact ⟨Station.shaped_rest _, state, base, package⟩
  have loosened (hs : k.state = .unbound ∨ k.state = .departing ∨ k.state = .held) :
      k.forceUnbound.Shaped ∧ k.forceUnbound.state ≠ .stalled ∧ k.forceUnbound.base = none ∧ k.forceUnbound.package = none := by
    have left : k.forceUnbound = { k with base := none, armed := false } := by
      unfold Station.forceUnbound
      rcases hs with e | e | e <;> rw [e]
    have none : k.package = none := h.package_eq_none (by rcases hs with e | e | e <;> rw [e] <;> decide)
    have off (x : StationState) (hx : x ∉ [StationState.unbound, .departing, .held]) : k.state ≠ x := by
      rintro rfl
      simp only [List.mem_cons, List.not_mem_nil, or_false] at hx
      exact hx hs
    obtain ⟨-, -, -, -, -, h6, h7, h8, h9, h10, h11⟩ := h
    rw [left]
    refine ⟨⟨fun _ => rfl, fun hne => absurd ?_ hne, fun _ => rfl, fun hw => absurd hw (off _ (by decide)), fun _ _ => rfl, h6, h7, h8,
      h9, h10, h11⟩, off _ (by decide), rfl, none⟩
    simpa using hs
  cases hs : k.state with
  | unbound => exact loosened (.inl hs)
  | departing => exact loosened (.inr (.inl hs))
  | held => exact loosened (.inr (.inr hs))
  | bound => exact rested (.inl hs)
  | waiting => exact rested (.inr hs)
  | identifying | stalled | preparing | sending | awaitingReceipt => exact serving (by rw [hs]; decide)

namespace State.Orderly

theorem forceRetireBase (h : s.Orderly) {a : Account} (ha : s.account i = some a) (hl : a.state.isLive = true) :
    (forceRetireBase i s).Orderly := by
  obtain ⟨frame, stations⟩ := forceRetireBase_eq i s
  generalize Machine.forceRetireBase i s = v at *
  have slot (j : SlotId) : v.slot j = if j = i then (s.slot i).forceRetire else s.slot j := by
    rw [frame]
    exact slot_modifySlot ..
  have powered : v.powered = s.powered := by rw [frame]
  have device : v.device = s.device := by rw [frame]
  have ha' : (s.slot i).account = some a := ha
  have issues {st : StationId} : (s.station st).issues i = true ↔ (s.station st).base = some i := by
    unfold Station.issues
    rw [Bool.or_eq_true, beq_iff_eq]
    refine ⟨fun hc => hc.elim id fun hp => ?_, .inl⟩
    split at hp
    · next p hp' => exact (h.linked.packaged st p hp').1.trans (by rw [beq_iff_eq.1 hp])
    · cases hp
  have there : v.slot i = { (s.slot i).write { a.mapIssuance Issuance.voidAll with state := .retired } none with waiting := [] } := by
    rw [slot, if_pos rfl]
    unfold Slot.forceRetire
    rw [ha']
  have linked : v.Linked := by
    refine h.linked.clearSlot (i := i) ?_ (by rw [there]) (fun n ho => ?_) (fun j e => (slot j).trans (if_neg e)) (fun st hb => ?_)
      (fun st hb => (stations st).trans (if_neg fun e => hb (issues.1 e))) fun hp hd => ⟨powered ▸ hp, device ▸ hd⟩
    · rw [slot, if_pos rfl]
      exact (h.linked.records i).change (.forceRetire _ a ha hl)
    · rw [there] at ho
      obtain ⟨b, iss, hb, hp, ho⟩ := ho
      cases hb
      have hp' : (a.mapIssuance Issuance.voidAll).part = .base iss := hp
      unfold Account.mapIssuance at hp'
      split at hp'
      · cases hp'
        exact absurd ho Issuance.not_owes_voidAll
      · next m hm =>
        rw [hm] at hp'
        cases hp'
    · rw [stations, if_pos (issues.2 hb)]
      obtain ⟨-, -, base, package⟩ := (h.placed st).1.forceUnbound
      exact ⟨base, package⟩
  refine ⟨linked, fun st => ?_, fun hlive st => ?_⟩
  · by_cases hb : (s.station st).base = some i
    · obtain ⟨shaped, state, -⟩ := (h.placed st).1.forceUnbound
      unfold State.Placed
      rw [stations, if_pos (issues.2 hb)]
      exact ⟨shaped, fun _ e => absurd e state⟩
    · refine (h.placed st).congr ((stations st).trans (if_neg fun e => hb (issues.1 e))) fun j hw => ?_
      have ne : j ≠ i := fun e => hb (e ▸ (h.linked.waits j st hw).2.2)
      rw [slot, if_neg ne]
      exact hw
  · have idle : ¬ s.Live := fun e => hlive ⟨powered.trans e.1, device.trans e.2⟩
    rw [stations, if_neg fun e => by rw [issues, h.base_of_idle idle] at e; cases e]
    exact h.idle idle st

theorem forceUser (h : s.Orderly) (i : SlotId) (st : StationId) : (forceUser i st s).Orderly := by
  unfold Machine.forceUser
  split
  · exact h
  · next p hp =>
    split
    · obtain ⟨h1, h2, h3, h4, h5, h6, h7, h8, h9, h10, h11⟩ := (h.placed st).1
      rw [hp] at h9
      have serving : (s.station st).state ∈ [StationState.identifying, .stalled, .preparing, .sending, .awaitingReceipt] := by
        rcases h9 with ⟨e, -⟩ | ⟨e | e, -⟩ <;> rw [e] <;> decide
      have zero := (h.placed st).1.holds_eq_zero fun e => by rw [e] at serving; revert serving; decide
      have forced := Station.forceUnbound_serving (k := { (s.station st).stop with package := none }) serving
      obtain ⟨state, package, base⟩ := Station.aborted_state { ({ (s.station st).stop with package := none } : Station).stop with base := none }
      have shaped : ({ ({ (s.station st).stop with package := none } : Station).stop with base := none } : Station).aborted.Shaped :=
        Station.shaped_aborted zero
      rw [← forced] at state package base shaped
      exact h.surrender (Alters.stopWork st s) hp rfl rfl (fun e => by
        rw [show (s.station st).state = .unbound from e] at serving; revert serving; decide) _ (f := (·.forceUnbound))
        (fun v => Alters.modifyStation st (·.forceUnbound) v) package (.inr base) shaped state
    · exact h

theorem forceRetireTransport (h : s.Orderly) {a : Account} (ha : s.account i = some a) (hl : a.state.isLive = true)
    (ht : a.part.isBase = false) : (forceRetireTransport i s).Orderly := by
  have ha' : (s.slot i).account = some a := ha
  have lawful := (h.linked.records i).change (.retire _ a ha hl)
  have retired : (s.slot i).retire = { (s.slot i).write { a with state := .retired } none with waiting := [] } := by
    unfold Slot.retire
    rw [ha']
  have first : (s.modifySlot i Slot.retire).Orderly := by
    refine h.replace (i := i) (h.free_of_not_issues (Slot.not_issues_of_transport ha' ht)) lawful (by rw [retired]) fun n => ?_
    rw [retired]
    exact Slot.not_owes_of_transport (a := { a with state := .retired }) rfl ht n
  unfold Machine.forceRetireTransport
  exact foldl_state (P := State.Orderly) (fun _ st hu => hu.forceUser i st) _ first

end State.Orderly

end Sys2Proof.Machine

/-! # Resets, and every event: the laws of the stations are kept (chapters 4, 8 and 9) -/

namespace Sys2Proof.Machine

variable {s t u : State} {st : StationId} {i : SlotId}

/-! ## A state in which no station has anything at stake -/

/-- A station as a reset leaves it, as far as the laws look. -/
def Station.Bare (k : Station) : Prop := k.Shaped ∧ k.state = .unbound ∧ k.package = none

/-- No station is bound, and no list holds a station. -/
structure State.Bare (s : State) : Prop where
  stations : ∀ st, (s.station st).Bare
  records : s.RecordsLawful
  lists : ∀ i, (s.slot i).waiting = []
  nothing : ∀ i n, (s.slot i).recordState = some .assembling ∨ (s.slot i).recordState = some .retired → ¬ (s.slot i).Owes n

theorem Station.bare_cleared (present : Bool) : (Station.cleared present).Bare := by
  refine ⟨?_, rfl, rfl⟩
  simp [Station.Shaped, Station.cleared, StationState.hasTerminal, StationState.isServing]

namespace State.Bare

/-- Where every owed number belongs to a QUARANTINED record, or the device is not OPERATIONAL, the laws hold. -/
theorem orderly (h : s.Bare) (claimed : s.Live → ∀ i n, (s.slot i).Owes n → (s.slot i).recordState = some .quarantined) : s.Orderly := by
  have loose (st : StationId) : (s.station st).base = none := (h.stations st).1.1 (h.stations st).2.1
  have none (st : StationId) : (s.station st).package = .none := (h.stations st).2.2
  refine ⟨{
    records := h.records
    based := fun st i hb => by rw [loose] at hb; cases hb
    unbound := fun st _ => loose st
    once := fun i => by rw [h.lists]; exact List.nodup_nil
    waits := fun i st hw => by rw [h.lists] at hw; cases hw
    packaged := fun st p hp => by rw [none] at hp; cases hp
    own := fun st tt i _ hs _ => absurd hs (Station.not_claims (none st))
    claimed := fun hp hd i n ho hq => absurd (claimed ⟨hp, hd⟩ i n ho) hq
    nothing := h.nothing }, fun st => ⟨(h.stations st).1, fun i hs => ?_⟩, fun _ st => (h.stations st).2.1⟩
  rw [(h.stations st).2.1] at hs
  cases hs

theorem congr (h : s.Bare) (table : t.table = s.table) (stations : t.stations = s.stations) : t.Bare := by
  have slot (i : SlotId) : t.slot i = s.slot i := by rw [State.slot, State.slot, table]
  have station (st : StationId) : t.station st = s.station st := by rw [State.station, State.station, stations]
  exact ⟨fun st => station st ▸ h.stations st, fun i => slot i ▸ h.records i, fun i => slot i ▸ h.lists i, fun i => slot i ▸ h.nothing i⟩

/-- Every record EMPTY (R27). -/
theorem empty (stations : ∀ st, (s.station st).Bare) (table : ∀ i, s.slot i = Slot.empty) : s.Bare :=
  ⟨stations, fun i => table i ▸ ⟨rfl, rfl⟩, fun i => table i ▸ rfl, fun i _ _ => table i ▸ Slot.not_owes_of_empty rfl⟩

end State.Bare

/-- Outside OPERATIONAL nothing is at stake. -/
theorem State.Orderly.bare (h : s.Orderly) (hl : ¬ s.Live) : s.Bare := by
  have loose (st : StationId) := h.linked.loose_of_unbound (h.base_of_idle hl st)
  refine ⟨fun st => ⟨(h.placed st).1, h.idle hl st, (loose st).1⟩, h.linked.records, fun i => ?_, h.linked.nothing⟩
  exact List.eq_nil_iff_forall_not_mem.2 fun st => (loose st).2 i

/-- A state that is not OPERATIONAL. -/
theorem State.Bare.orderly_of_idle (h : s.Bare) (hl : ¬ s.Live) : s.Orderly := h.orderly fun e => absurd e hl

/-! ## Zeroization (R168, R169, R173) -/

theorem tamper_orderly (h : s.Orderly) (inputs : BitVec 3) : (tamper inputs s).Orderly := by
  unfold tamper
  split
  · refine (State.Bare.empty (fun st => ?_) fun i => ?_).orderly_of_idle fun e => nomatch e.2
    · have cleared : ((zeroize (setLatch inputs s)).setDevice .tampered).station st = (s.station st).zeroized := by
        simp [zeroize, setLatch, State.station, emptyTable]
      rw [cleared]
      exact Station.bare_cleared _
    · exact slot_emptyTable (setLatch inputs s) i
  · next off =>
    have idle : ¬ s.Live := fun e => off e.1
    refine (State.Bare.empty (s := emptyTable (setLatch inputs s)) (fun st => (h.bare idle).stations st) fun i =>
      slot_emptyTable (setLatch inputs s) i).orderly_of_idle idle

theorem State.Orderly.setTamper (h : s.Orderly) (m : TamperMonitor) : (s.setTamper m).Orderly := h.frame rfl rfl rfl rfl

theorem moveBand_orderly (h : s.Orderly) (b : Band) : (moveBand b s).Orderly := by
  unfold moveBand
  dsimp only
  have warned (c : Prop) [Decidable c] (m : TamperMonitor) (e : Event) :
      (if c then (s.setTamper m).latch e else s.setTamper m).Orderly := by
    split
    · exact (h.setTamper m).latch e
    · exact h.setTamper m
  split
  · exact tamper_orderly (warned ..) _
  · exact warned ..

theorem activate_orderly (h : s.Orderly) (input : TamperInput) : (activate input s).Orderly := by
  cases input with
  | temperature => exact moveBand_orderly h _
  | enclosure | supply =>
    dsimp only [activate]
    split
    · exact h
    · exact tamper_orderly (h.setTamper _) _

theorem deactivate_orderly (h : s.Orderly) (input : TamperInput) : (deactivate input s).Orderly := by
  cases input with
  | temperature => exact h
  | enclosure | supply => exact h.setTamper _

/-! ## Power and the restart event (R173, R175) -/

theorem Slot.restart_recordState {sl : Slot} : sl.restart.account = none ∨ sl.restart.account = sl.account := by
  unfold Slot.restart
  split
  · exact .inl rfl
  · split
    · exact .inl rfl
    · exact .inr rfl

/-- A slot that lost its list, or was emptied, owes nothing where it owed nothing. -/
theorem nothing_of_account {sl x : Slot} (hn : ∀ n, sl.recordState = some .assembling ∨ sl.recordState = some .retired → ¬ sl.Owes n)
    (h : x.account = none ∨ x.account = sl.account) (n : Nat) (hs : x.recordState = some .assembling ∨ x.recordState = some .retired) :
    ¬ x.Owes n := by
  rcases h with none | same
  · exact Slot.not_owes_of_empty none
  · rw [Slot.owes_congr same]
    have state : x.recordState = sl.recordState := congrArg (Option.map Account.state) same
    exact hn n (state ▸ hs)

theorem clearVolatile_bare (h : s.Orderly) (straps : BitVec 4) (senses : BitVec 8) : (clearVolatile straps senses s).Bare := by
  refine ⟨fun st => ?_, fun i => ?_, fun i => ?_, fun i n => ?_⟩
  · have cleared : (clearVolatile straps senses s).station st = Station.cleared (senses.getLsbD st.val) := by
      simp [clearVolatile, State.station]
    rw [cleared]
    exact Station.bare_cleared _
  · rw [slot_clearVolatile]
    exact (h.linked.records i).restart
  · rw [slot_clearVolatile]
    unfold Slot.restart
    split
    · rfl
    · split <;> rfl
  · rw [slot_clearVolatile]
    exact nothing_of_account (h.linked.nothing i) Slot.restart_recordState n

theorem enterService_orderly (h : u.Bare) : (enterService u).Orderly := by
  unfold enterService
  dsimp only
  split
  · exact State.Bare.orderly_of_idle (h.congr rfl rfl) fun e => nomatch e.2
  · split
    · exact State.Bare.orderly_of_idle (h.congr rfl rfl) fun e => nomatch e.2
    · unfold tamper
      split
      · refine (State.Bare.empty (fun st => ?_) fun i => ?_).orderly_of_idle fun e => nomatch e.2
        · have cleared : ((zeroize (setLatch u.tamper.activeInputs u)).setDevice .tampered).station st = (u.station st).zeroized := by
            simp [zeroize, setLatch, State.station, emptyTable]
          rw [cleared]
          exact Station.bare_cleared _
        · exact slot_emptyTable (setLatch u.tamper.activeInputs u) i
      · next off =>
        exact (State.Bare.empty (s := emptyTable (setLatch u.tamper.activeInputs u)) (fun st => h.stations st) fun i =>
          slot_emptyTable (setLatch u.tamper.activeInputs u) i).orderly_of_idle fun e => off e.1

theorem exec_powerOn_orderly (h : s.Orderly) {straps : BitVec 4} {senses : BitVec 8} {celsius : Int}
    (ht : exec (.powerOn straps senses celsius) s = .next t) : t.Orderly := by
  cases ht
  refine enterService_orderly ?_
  unfold firstReading
  dsimp only
  split <;> exact (clearVolatile_bare h straps senses).congr rfl rfl

theorem exec_powerDown_orderly (h : s.Orderly) (ht : exec .powerDown s = .next t) : t.Orderly := by
  cases ht
  have slot (i : SlotId) : ({ clearVolatile 0 0 s with
        powered := false
        device := .starting 0
        table := s.table.map Slot.clearWaiting
        events := { s.events with restartIndication := false }
        tamper := { s.tamper with supplyActive := false } } : State).slot i = { s.slot i with waiting := [] } := by
    simp [State.slot, Slot.clearWaiting]
  refine State.Bare.orderly_of_idle ⟨fun st => (clearVolatile_bare h 0 0).stations st, fun i => ?_, fun i => ?_, fun i n => ?_⟩
    fun e => nomatch e.1
  · rw [slot]
    exact (h.linked.records i).withWaiting fun hne => absurd rfl hne
  · rw [slot]
  · rw [slot]
    exact nothing_of_account (h.linked.nothing i) (.inr rfl) n

theorem exec_consoleAnswerEnd_orderly (h : s.Orderly) {straps : BitVec 4} {senses : BitVec 8}
    (ht : exec (.consoleAnswerEnd straps senses) s = .next t) : t.Orderly := by
  cases ht
  split
  · split
    · have opened := h.setConsole { s.console with receiver := .hunting }
      dsimp only
      split
      · exact enterService_orderly ((clearVolatile_bare opened straps senses).congr rfl rfl)
      · exact opened
    · exact h
  · exact h

/-! ## The start-up check (R51, R163) -/

theorem Slot.startUpVoid_of_not_issues {sl : Slot} (h : ¬ sl.Issues) : sl.startUpVoid = sl :=
  startUpVoid_of_other fun a ha => by
    by_cases hb : a.part.isBase = true
    · exact .inr fun hl => h ⟨a, ha, hb, mem_live_iff.1 hl⟩
    · exact .inl (Bool.eq_false_iff.2 hb)

/-- After the voiding only QUARANTINED records owe numbers. -/
theorem Slot.quarantined_of_owes_startUpVoid {sl : Slot}
    (hn : ∀ n, sl.recordState = some .assembling ∨ sl.recordState = some .retired → ¬ sl.Owes n) {n : Nat}
    (ho : sl.startUpVoid.Owes n) : sl.startUpVoid.recordState = some .quarantined := by
  by_cases hi : sl.Issues
  · obtain ⟨a, iss, ha, hp, hl⟩ := hi.base
    obtain ⟨account, -⟩ := (startUpVoid_spares ha).1 iss hp (by simpa using mem_live_iff.2 hl)
    exact absurd ((Slot.owes_of_account account rfl).1 ho) Issuance.not_owes_voidAll
  · rw [Slot.startUpVoid_of_not_issues hi] at ho ⊢
    obtain ⟨a, iss, ha, hp, hown⟩ := id ho
    have state : sl.recordState = some a.state := by rw [Slot.recordState, ha]; rfl
    rw [state]
    cases hs : a.state with
    | quarantined => rfl
    | assembling | retired => rw [hs] at state; exact absurd ho (hn n (by simp [state]))
    | active | suspended | exhausted => exact absurd ⟨a, ha, by rw [hp]; rfl, by rw [hs]; rfl⟩ hi

theorem completeStartUp_orderly (h : s.Orderly) (hl : ¬ s.Live) (n : Nat) : (completeStartUp n s).Orderly := by
  have checked : (settleEngine (checkSlots (slotsLeft n) s)).Orderly :=
    State.Orderly.settle (foldl_state (P := State.Orderly) (fun _ i hu => hu.check i) _ h)
  have kept : Ordinary s (settleEngine (checkSlots (slotsLeft n) s)) :=
    (foldl_state (P := Ordinary s) (fun u i hu => hu.check i) _ (.refl s)).settle
  unfold completeStartUp
  dsimp only
  generalize settleEngine (checkSlots (slotsLeft n) s) = v at checked kept ⊢
  have bare := checked.bare fun e => hl ⟨kept.powered ▸ e.1, kept.device ▸ e.2⟩
  obtain ⟨w, hw⟩ : ∃ w : State, w = ({ v with table := v.table.map Slot.startUpVoid }.setChecker
    { sweepPosition := 191, sweepTimer := some v.console.settings.sweepPeriod }).setDevice .operational := ⟨_, rfl⟩
  rw [← hw]
  have slot (i : SlotId) : w.slot i = (v.slot i).startUpVoid := by
    rw [hw]
    simp [State.slot]
  have station (st : StationId) : w.station st = v.station st := by rw [hw]; rfl
  refine State.Bare.orderly ⟨fun st => station st ▸ bare.stations st, fun i => ?_, fun i => ?_, fun i n hs ho => ?_⟩ fun _ i n ho => ?_
  · rw [slot]
    exact (bare.records i).change (.startUpVoid _)
  · rw [slot]
    unfold Slot.startUpVoid
    split
    · exact bare.lists i
    · split <;> exact bare.lists i
  · rw [slot] at hs ho
    rw [Slot.quarantined_of_owes_startUpVoid (bare.nothing i) ho] at hs
    rcases hs with e | e <;> cases e
  · rw [slot] at ho ⊢
    exact Slot.quarantined_of_owes_startUpVoid (bare.nothing i) ho

theorem exec_startUpCheckCompletion_orderly (h : s.Orderly) (ht : exec .startUpCheckCompletion s = .next t) : t.Orderly := by
  cases ht
  split
  · split
    · next hd => exact completeStartUp_orderly h (fun e => by have live := e.2; rw [hd] at live; cases live) _
    · exact h
  · exact h

end Sys2Proof.Machine

/-! # The execution of tickets, and every event: the laws of the stations are kept -/

namespace Sys2Proof.Machine

variable {s t u : State} {st : StationId} {i : SlotId}

/-! ## APPROVE (R84, R88) -/

namespace State.Orderly

theorem executeForceRetire (h : s.Orderly) {a : Account} (ha : s.account i = some a) (hl : a.state.isLive = true) :
    (executeForceRetire i s).Orderly := by
  unfold Machine.executeForceRetire
  rw [ha]
  dsimp only
  split
  · exact h.forceRetireBase ha hl
  · next ht => exact h.forceRetireTransport ha hl (Bool.eq_false_iff.2 ht)

theorem executeWiden (h : s.Orderly) (i : SlotId) (amount : BitVec 16) : (executeWiden i amount s).Orderly :=
  h.update (.permit _ _ fun a _ => by ext j; simp +contextual) (fun _ _ => rfl) fun _ _ => .inl rfl

/-- The effect of a record action whose precondition holds. -/
theorem applyAction (h : s.Orderly) {k : Ticket} (hk : k.action ≠ .clearTamper)
    (admitted : k.action.admitsRecord (s.account k.slot) = true) : (applyAction k s).Orderly := by
  unfold Machine.applyAction
  cases hact : k.action with
  | grant => exact h.executeGrant ..
  | widen => exact h.executeWiden ..
  | clearTamper => exact absurd hact hk
  | forceRetire =>
    rw [hact] at admitted
    cases ha : s.account k.slot with
    | none => rw [ha] at admitted; cases admitted
    | some a =>
      rw [ha] at admitted
      exact h.executeForceRetire ha admitted
  | releaseQuarantined =>
    rw [hact] at admitted
    cases ha : s.account k.slot with
    | none => rw [ha] at admitted; cases admitted
    | some a =>
      rw [ha] at admitted
      have quarantined : a.state = .quarantined := eq_of_beq admitted
      exact h.empty (Slot.not_issues_of_state (Option.map_eq_some_iff.2 ⟨a, ha, quarantined⟩) rfl)

/-- While the device is TAMPERED every record is EMPTY and no station is bound, so that OPERATIONAL finds nothing at stake (R172). -/
theorem executeClearTamper (h : s.Orderly) (hd : s.device = .tampered) (empty : ∀ i, s.account i = none) :
    (executeClearTamper s).Orderly := by
  have bare : (Machine.executeClearTamper s).Bare := (h.bare fun e => by rw [e.2] at hd; cases hd).congr rfl rfl
  exact bare.orderly fun _ i n ho => absurd ho (Slot.not_owes_of_empty (empty i))

/-- The execution of a ticket, where the latch leaves no record (R168, R88). -/
theorem executeTicket (h : s.Orderly) (empty : s.device = .tampered → ∀ i, s.account i = none) (k : Ticket) :
    (executeTicket k s).Orderly := by
  have checked := h.precondition k.action k.slot
  unfold Machine.executeTicket
  dsimp only
  split
  · next passed =>
    by_cases hact : k.action = .clearTamper
    · rw [hact] at passed
      have tampered := precondition_of_clearTamper passed
      simp only [Machine.applyAction, afterAction, hact]
      exact ((h.executeClearTamper tampered (empty tampered)).setApproval _).latch _
    · have applied := ((checked.applyAction hact (precondition_admitted hact passed)).setApproval
        ((Machine.applyAction k (Machine.precondition k.action k.slot s).1).approval.finish { k with state := .executed })).latch
          .ticketExecuted
      unfold afterAction
      split
      · exact applied.failTicketsOn _
      · exact applied
  · exact (checked.setApproval _).latch _

theorem approve (h : s.Orderly) (empty : s.device = .tampered → ∀ i, s.account i = none) (l : Line) (p : Payload) :
    (approve l p s).1.Orderly := by
  refine ticketRequest_state (P := State.Orderly) h fun _ k _ => ?_
  split
  case h_4 =>
    split
    · exact h
    · split
      · exact h
      · have put (k' : Ticket) : (s.setApproval (s.approval.put k')).Orderly := h.setApproval _
        dsimp only
        unfold takeApproval
        dsimp only
        split
        · exact ((put _).executeTicket empty _).settle
        · exact put _
  all_goals exact h

end State.Orderly

/-! ## Commands that OPERATIONAL alone admits (R181) -/

/-- The commands that another device state passes to their owning rules. -/
def guestKinds : List Byte :=
  [Kind.status, Kind.restart, Kind.readEvents, Kind.readTickets, Kind.readSettings, Kind.dismissTicket, Kind.openTicket]

theorem live_of_admits {kind : Byte} {p : Payload} (hk : kind ∉ guestKinds) (taken : s.takesCommand = true)
    (admitted : admits s.device kind p = true) : s.Live := by
  simp only [guestKinds, List.mem_cons, List.not_mem_nil, or_false, not_or] at hk
  constructor
  · simp only [State.takesCommand, State.consoleOpen, Bool.and_eq_true] at taken
    exact taken.1.1
  · cases hd : s.device with
    | operational => rfl
    | starting k => simp [hd, admits, hk] at admitted
    | tampered => simp [hd, admits, hk] at admitted

/-- A broadcast command has its effect in OPERATIONAL alone. -/
theorem broadcastCommand_live {P : State → Prop} {p : Payload} {effect : State → State} (fed : ∀ u, P u → P (feed u)) (hs : P s)
    (latch : P (s.latch .lineErrorConsole)) (he : s.Live → P (effect s)) : P (broadcastCommand p effect s) := by
  unfold broadcastCommand broadcast
  split
  · next heard =>
    refine fed _ ?_
    split
    · exact latch
    · dsimp only
      split
      · next hd =>
        have powered := heard
        simp only [State.consoleOpen, Bool.and_eq_true] at powered
        exact he ⟨powered.1, hd⟩
      · exact hs
  · exact hs

end Sys2Proof.Machine

/-! # Every event and every step keeps the laws of the stations (R113, R114, R118) -/

namespace Sys2Proof.Machine

variable {s t : State}

namespace State.Orderly

theorem consoleCommand {α : Type} {kind : Byte} {p : Payload} {o : Option α} {f : α → State → Reply} (h : s.Orderly)
    (hf : ∀ x, o = some x → (f x s).state.Orderly) : (consoleCommand kind p (o.map f) s).Orderly :=
  consoleCommand_map_state (P := State.Orderly) (fun _ hr => hr.deliver) h hf

/-- A command that OPERATIONAL alone admits. -/
theorem servedCommand {α : Type} {kind : Byte} {p : Payload} {o : Option α} {f : α → State → Reply} (h : s.Orderly)
    (hk : kind ∉ guestKinds) (hf : s.Live → ∀ x, (f x s).state.Orderly) : (Machine.consoleCommand kind p (o.map f) s).Orderly :=
  consoleCommand_admitted_state (P := State.Orderly) (fun _ hr => hr.deliver) h fun x _ taken admitted =>
    hf (live_of_admits hk taken admitted) x

theorem custodianRequest {α : Type} {l : Line} {kind : Byte} {o : Option α} {f : α → State → State × AnswerCode × List Byte}
    (h : s.Orderly) (hf : ∀ x, (f x s).1.Orderly) : (custodianRequest l kind (o.map f) s).Orderly :=
  custodianRequest_map_state (P := State.Orderly) (fun _ k ht => ht.setLine l k) (h.latch _) h fun x _ => hf x

theorem terminalFrame {α : Type} {st : StationId} {awaited : StationState} {o : Option α} {taken : α → State → State} (h : s.Orderly)
    (ht : (s.station st).state = awaited → ∀ x, (taken x s).Orderly) : (terminalFrame st awaited o taken s).Orderly :=
  terminalFrame_state (P := State.Orderly) (h.latch _) h fun _ _ hs _ x _ => ht hs x

theorem broadcastCommand {p : Payload} {effect : State → State} (h : s.Orderly) (he : s.Live → (effect s).Orderly) :
    (broadcastCommand p effect s).Orderly :=
  broadcastCommand_live (P := State.Orderly) (fun _ hu => hu.feed) h (h.latch _) he

theorem ite {c : Prop} [Decidable c] {u : State} (h : s.Orderly) (hu : c → u.Orderly) : (if c then u else s).Orderly := by
  split
  · next hc => exact hu hc
  · exact h

end State.Orderly

/-- An ordinary command or event. -/
theorem exec_ordinary_orderly {c : Instr} (hc : isOrdinary c = true) (h : s.Orderly) (ht : exec c s = .next t) : t.Orderly := by
  cases c
  case setSettings | setAlertMask | readEvents | create | approve | consoleAnswerEnd | powerOn | powerDown |
      startUpCheckCompletion | tamperCause | tamperInputInactive | temperatureReading => cases hc
  case status | readSettings | restart | readTickets => cases ht; exact h.consoleCommand fun _ _ => h
  case ackRestart => cases ht; exact h.consoleCommand fun _ _ => h.frame rfl rfl rfl rfl
  case readRecords => cases ht; exact h.consoleCommand fun _ _ => h.readRecords ..
  case findLabel =>
    cases ht
    refine h.consoleCommand fun l _ => ?_
    unfold findLabel
    split
    · exact h.findRecord ..
    · exact h
  case findModel =>
    cases ht
    refine h.consoleCommand fun x _ => ?_
    dsimp only [findModel]
    split
    · exact h
    · exact h.findRecord ..
  case cancelAssembly => cases ht; exact h.consoleCommand fun _ _ => h.cancelAssembly _
  case narrow => cases ht; exact h.consoleCommand fun _ _ => h.narrow ..
  case suspend =>
    cases ht
    exact h.consoleCommand fun _ _ => withSlot_state (P := State.Orderly) h fun i => h.moveRecord i (fun sl => .suspend sl) rfl nofun
  case resume =>
    cases ht
    exact h.consoleCommand fun _ _ => withSlot_state (P := State.Orderly) h fun i => h.moveRecord i (fun sl => .resume sl) rfl nofun
  case retire => cases ht; exact h.consoleCommand fun _ _ => h.retire _
  case release => cases ht; exact h.consoleCommand fun _ _ => h.release _
  case verify => cases ht; exact h.consoleCommand fun _ _ => h.verify _
  case openTicket => cases ht; exact h.consoleCommand fun _ _ => h.openTicket ..
  case dismissTicket => cases ht; exact h.consoleCommand fun _ _ => h.dismissTicket _
  case bind => cases ht; exact h.servedCommand (by decide) fun live _ => h.bind live ..
  case unbind => cases ht; exact h.consoleCommand fun _ _ => h.unbind _
  case arm => cases ht; exact h.consoleCommand fun _ _ => h.arm _
  case disarm => cases ht; exact h.consoleCommand fun _ _ => h.disarmCommand _
  case abort => cases ht; exact h.servedCommand (by decide) fun live _ => h.abort live _
  case clearHold => cases ht; exact h.consoleCommand fun _ _ => h.clearHold ..
  case readStations => cases ht; exact h.consoleCommand fun _ _ => h.readStations _
  case disarmAll => cases ht; exact h.broadcastCommand fun _ => h.disarmStations _
  case abortAll => cases ht; exact h.broadcastCommand h.abortAll
  case unknownCommand kind p =>
    cases ht
    split
    · exact h
    · exact h.ite fun _ => h.deliver
  case consoleFrameError => cases ht; exact h.ite fun _ => (h.setConsole { s.console with receiver := .hunting }).latch _
  case broadcastDiscard kind p =>
    cases ht
    split
    · exact h
    · exact broadcast_state (P := State.Orderly) (fun _ hu => hu.feed) h (h.latch _)
  case supervisionLapse =>
    cases ht
    refine h.ite fun _ => ?_
    split
    · exact h.lapse
    · exact h
  case component => cases ht; exact h.custodianRequest fun _ => h.component ..
  case lineStatus => cases ht; exact h.custodianRequest fun _ => h.lineStatus _
  case ticketQuery =>
    cases ht
    exact h.custodianRequest fun _ => ticketRequest_state (P := State.Orderly) h fun _ _ _ => h
  case decline => cases ht; exact h.custodianRequest fun _ => h.decline _
  case custodianFrameError => cases ht; exact h.ite fun _ => (h.setLine ..).latch _
  case custodianAnswerEnd => cases ht; exact h.ite fun _ => h.setLine ..
  case ticketExpiry n => cases ht; exact h.ite fun _ => h.expireTicket n
  case componentCheckDone =>
    cases ht
    refine h.completion _ fun j c apply ha u hu => ?_
    split at ha
    · cases ha; exact hu.applyComponentCheck ..
    · cases ha
  case keyCheckDone =>
    cases ht
    refine h.completion _ fun j c apply ha u hu => ?_
    split at ha
    · cases ha; exact hu.applyKeyCheck ..
    · cases ha
  case packageJobDone =>
    cases ht
    refine h.completion _ fun j c apply ha u hu => ?_
    split at ha
    · cases ha; exact hu.applyPackage ..
    · cases ha
  case verifyJobDone =>
    cases ht
    refine h.completion _ fun j c apply ha u hu => ?_
    split at ha
    · cases ha; exact hu.applyVerify ..
    · cases ha
  case discardedJobDone =>
    cases ht
    refine h.ite fun _ => ?_
    split
    · exact h.ite fun _ => (h.setEngine _).settle
    · exact h
  case present st => cases ht; exact h.ite fun _ => h.present ..
  case absent st =>
    cases ht
    refine h.ite fun _ => ?_
    have gone : (s.modifyStation st fun k => { k with present := false }).Orderly := h.fields (.modifyStation st _ s) rfl
    dsimp only
    split
    · exact gone.removeTerminal st
    · exact gone
  case identity => cases ht; exact h.terminalFrame fun hs _ => h.takeIdentity hs _
  case receipt => cases ht; exact h.terminalFrame fun hs _ => h.takeReceipt hs _
  case refuse => cases ht; exact h.terminalFrame fun hs _ => h.takeRefusal hs
  case stationFrameError st =>
    cases ht
    refine h.ite fun _ => ?_
    have hunting : (s.modifyStation st fun k => { k with receiver := .hunting }).Orderly := h.fields (.modifyStation st _ s) rfl
    dsimp only
    split
    · exact hunting.latch _
    · exact hunting
  case identityTimerExpiry => cases ht; exact h.ite fun hs => h.dismissTerminal hs.2.1 _
  case receiptTimerExpiry => cases ht; exact h.ite fun hs => h.expireReceipt hs.2.1
  case endOfTransmission => cases ht; exact h.ite fun _ => h.packageSent ..
  case stationFrameSent => cases ht; exact h.ite fun _ => h.frameSent _
  case storageError => exact h.storageError ht
  case sweepTimerExpiry => cases ht; exact h.ite fun _ => h.sweep

theorem exec_create_orderly {p : Payload} (h : s.Orderly) (ht : exec (.create p) s = .next t) : t.Orderly := by
  cases ht
  refine h.consoleCommand fun c _ => withSlot_state (P := State.Orderly) h fun i => ?_
  split
  · exact h
  · next hpart => exact h.createRecord hpart i

theorem exec_approve_orderly {l : Line} {p : Payload} (h : s.Orderly) (hl : s.TamperLawful) (ht : exec (.approve l p) s = .next t) :
    t.Orderly := by
  cases ht
  obtain ⟨tampered, -, -, empty, -⟩ := hl
  exact h.custodianRequest fun _ => h.approve (fun hd => empty (tampered hd).2) ..

/-- Every command and event keeps the laws of the stations. -/
theorem exec_orderly {c : Instr} (h : s.Orderly) (hl : s.TamperLawful) (ht : exec c s = .next t) : t.Orderly := by
  by_cases ordinary : isOrdinary c = true
  · exact exec_ordinary_orderly ordinary h ht
  · cases c
    case setSettings => cases ht; exact h.consoleCommand fun _ _ => h.frame rfl rfl rfl rfl
    case setAlertMask => cases ht; exact h.consoleCommand fun _ _ => h.frame rfl rfl rfl rfl
    case readEvents => cases ht; exact h.consoleCommand fun _ _ => h.frame rfl rfl rfl rfl
    case create => exact exec_create_orderly h ht
    case approve => exact exec_approve_orderly h hl ht
    case consoleAnswerEnd => exact exec_consoleAnswerEnd_orderly h ht
    case powerOn => exact exec_powerOn_orderly h ht
    case powerDown => exact exec_powerDown_orderly h ht
    case startUpCheckCompletion => exact exec_startUpCheckCompletion_orderly h ht
    case tamperCause => cases ht; exact activate_orderly h _
    case tamperInputInactive => cases ht; exact deactivate_orderly h _
    case temperatureReading => cases ht; exact moveBand_orderly h _
    all_goals exact absurd rfl ordinary

/-! ## A millisecond of quiet -/

theorem Station.Shaped.countDown {k : Station} (h : k.Shaped) : ({ k with timer := k.timer.countDown } : Station).Shaped := by
  obtain ⟨h1, h2, h3, h4, h5, h6, h7, h8, h9, h10, h11⟩ := h
  refine ⟨h1, h2, h3, h4, h5, h6, h7, h8, h9, h10, ?_⟩
  dsimp only
  cases ht : k.timer <;> rw [ht] at h11 <;> exact h11

theorem countDown_orderly (h : s.Orderly) : (countDown s).Orderly := by
  refine h.touchAll (fun _ => rfl) rfl rfl fun st => ?_
  have counted : (countDown s).station st = { s.station st with timer := (s.station st).timer.countDown } := by
    simp [countDown, State.station]
  rw [counted]
  exact ⟨rfl, rfl, rfl, Station.Shaped.countDown⟩

theorem startUpProgress_orderly (h : s.Orderly) : (startUpProgress s).1.Orderly := by
  unfold startUpProgress
  split
  · next k hd =>
    have checked (i : SlotId) : (settleEngine (check i s)).device = s.device := ((Ordinary.refl s).check i).settle.device
    dsimp only
    have idle (u : State) (hu : u.Orderly) (device : u.device = s.device) : (u.setDevice (.starting (k + 1))).Orderly := by
      have resting : ¬ u.Live := fun e => by
        have live := e.2
        rw [device, hd] at live
        cases live
      have bare : (u.setDevice (.starting (k + 1))).Bare := (hu.bare resting).congr rfl rfl
      exact bare.orderly_of_idle fun e => nomatch e.2
    split
    · exact idle _ (h.check _).settle (checked _)
    · exact idle _ h rfl
  · exact h

theorem tick_orderly (h : s.Orderly) : (tick s).Orderly := by
  unfold tick
  split
  · exact (startUpProgress_orderly (countDown_orderly h)).frame rfl rfl rfl rfl
  · exact h

/-- What a step needs of latch and device state, and what it keeps of the stations. -/
structure State.Governed (s : State) : Prop where
  tamper : s.TamperLawful
  orderly : s.Orderly

/-- Every step keeps the laws of the stations (R113, R114, R118). -/
theorem step_stationsLawful (records : s.RecordsLawful) (latch : s.TamperLawful) (h : s.StationsLawful) (ht : step s = .next t) :
    t.StationsLawful := by
  have before : s.Governed := ⟨latch, (s.stationsLawful_iff records).1 h⟩
  have after : t.Governed := step_keeps (P := State.Governed)
    (fun _ _ hs => ⟨hs.tamper, hs.orderly.frame rfl rfl rfl rfl⟩)
    (fun _ _ _ he hs => ⟨exec_tamperLawful he hs.tamper, exec_orderly hs.orderly hs.tamper he⟩)
    (fun _ hs => ⟨tick_tamperLawful hs.tamper, tick_orderly hs.orderly⟩) before ht
  exact (t.stationsLawful_iff after.orderly.linked.records).2 after.orderly

end Sys2Proof.Machine

/-! # In STARTING nothing hangs on a record (R163) -/

namespace Sys2Proof.Machine

variable {s t : State} {k : Nat}

namespace State.NothingHangs

theorem congr (h : s.NothingHangs) (engine : t.engine = s.engine) (stations : t.stations = s.stations) (table : t.table = s.table) :
    t.NothingHangs := by
  obtain ⟨idle, loose, free⟩ := h
  refine ⟨engine.symm ▸ idle, fun st => ?_, fun i => ?_⟩
  · rw [State.station, stations]
    exact loose st
  · rw [State.slot, State.account, State.slot, table]
    exact free i

theorem latch (h : s.NothingHangs) (e : Event) : (s.latch e).NothingHangs := h.congr rfl rfl rfl
theorem setConsole (h : s.NothingHangs) (c : ConsoleLink) : (s.setConsole c).NothingHangs := h.congr rfl rfl rfl
theorem setApproval (h : s.NothingHangs) (u : ApprovalUnit) : (s.setApproval u).NothingHangs := h.congr rfl rfl rfl
theorem setLine (h : s.NothingHangs) (l : Line) (x : CustodianLine) : (s.setLine l x).NothingHangs := h.congr rfl rfl rfl
theorem setChecker (h : s.NothingHangs) (c : IntegrityChecker) : (s.setChecker c).NothingHangs := h.congr rfl rfl rfl
theorem deliver {kind : Byte} {r : Reply} (h : r.state.NothingHangs) : (deliver kind r).NothingHangs := (h.setConsole _).setConsole _

/-- A station that has neither binding nor package gets neither. -/
theorem modifyStation (h : s.NothingHangs) {st : StationId} {f : Station → Station}
    (hf : ∀ x : Station, x.base = none → x.package = none → (f x).base = none ∧ (f x).package = none) :
    (s.modifyStation st f).NothingHangs := by
  obtain ⟨idle, loose, free⟩ := h
  refine ⟨idle, fun tt => ?_, free⟩
  rw [station_modifyStation]
  split
  · exact hf _ (loose st).1 (loose st).2
  · exact loose tt

/-- A read-check leaves no job for the engine to choose. -/
theorem check (h : s.NothingHangs) (i : SlotId) : (settleEngine (check i s)).NothingHangs := by
  rw [check_of_nothingHangs h, settleEngine_of_settled (.inr (checkAlone_nothingHangs h i).1.1)]
  exact checkAlone_nothingHangs h i

theorem ite {c : Prop} [Decidable c] {u : State} (h : s.NothingHangs) (hu : c → u.NothingHangs) : (if c then u else s).NothingHangs := by
  split
  · next hc => exact hu hc
  · exact h

/-! ## The forms of commands in STARTING -/

/-- A console command beside STATUS and RESTART is refused (R181). -/
theorem refusedCommand {α : Type} {kind : Byte} {p : Payload} {o : Option α} {f : α → State → Reply} (h : s.NothingHangs)
    (hd : s.device = .starting k) (hk : kind ≠ Kind.status ∧ kind ≠ Kind.restart) : (consoleCommand kind p (o.map f) s).NothingHangs := by
  refine consoleCommand_admitted_state (P := State.NothingHangs) (fun _ hr => hr.deliver) h fun x _ _ admitted => ?_
  simp [admits, hd, hk] at admitted

/-- A broadcast command has no effect (R185). -/
theorem broadcastCommand {p : Payload} {effect : State → State} (h : s.NothingHangs) (hd : s.device = .starting k) :
    (broadcastCommand p effect s).NothingHangs := by
  refine broadcastCommand_live (P := State.NothingHangs) (fun _ hu => hu.setConsole _) h (h.latch _) fun live => ?_
  rw [live.2] at hd
  cases hd

theorem custodianRequest {α : Type} {l : Line} {kind : Byte} {o : Option α} {f : α → State → State × AnswerCode × List Byte}
    (h : s.NothingHangs) (hf : ∀ x, (f x s).1.NothingHangs) : (custodianRequest l kind (o.map f) s).NothingHangs :=
  custodianRequest_map_state (P := State.NothingHangs) (fun _ x ht => ht.setLine l x) (h.latch _) h fun x _ => hf x

/-- A ticket request is answered NOT_READY (R82). -/
theorem ticketRequest (h : s.NothingHangs) (hd : s.device = .starting k) {n : Byte} {f : Ticket → State × AnswerCode × List Byte} :
    (ticketRequest n s f).1.NothingHangs :=
  ticketRequest_state (P := State.NothingHangs) h fun other => absurd hd (other k)

/-- A terminal frame is not taken (R137). -/
theorem terminalFrame {α : Type} {st : StationId} {awaited : StationState} {o : Option α} {taken : α → State → State}
    (h : s.NothingHangs) (hd : s.device = .starting k) : (terminalFrame st awaited o taken s).NothingHangs := by
  refine terminalFrame_state (P := State.NothingHangs) (h.latch _) h fun _ operational => ?_
  rw [operational] at hd
  cases hd

/-- No job completes. -/
theorem completion (h : s.NothingHangs) (delivery : Job → Copies → Option (State → State)) : (completion delivery s).NothingHangs := by
  obtain ⟨⟨-, service⟩, -⟩ := id h
  refine completion_state (P := State.NothingHangs) h fun v _ hv => ?_
  simp [Engine.held?, service] at hv

theorem lineStatus (h : s.NothingHangs) (l : Line) : (lineStatus l s).1.NothingHangs := by
  unfold Machine.lineStatus
  dsimp only
  exact h.ite fun _ => h.check _

theorem lapse (h : s.NothingHangs) : (lapse s).NothingHangs := by
  refine foldl_state (P := State.NothingHangs) (fun u st hu => hu.modifyStation fun x base package => ?_) _ ((h.setConsole _).latch _)
  unfold Station.stopLine
  split
  · exact ⟨base, package⟩
  · split
    · exact ⟨base, rfl⟩
    · split <;> exact ⟨base, package⟩

theorem expireTicket (h : s.NothingHangs) (n : Nat) : (expireTicket n s).NothingHangs := by
  unfold Machine.expireTicket
  split
  · exact h
  · split
    · exact (h.setApproval _).latch _
    · exact h

theorem sweep (h : s.NothingHangs) : (sweep s).NothingHangs := by
  unfold Machine.sweep
  split
  · exact h.setChecker _
  · exact (h.setChecker _).check _

theorem dismissTerminal (h : s.NothingHangs) (e : Event) (st : StationId) : (dismissTerminal e st s).NothingHangs :=
  (h.modifyStation (f := fun x => (x.close .notServed).depart) fun x base _ => ⟨(Station.close_base x _).trans base, rfl⟩).latch e

theorem expireReceipt (h : s.NothingHangs) (st : StationId) : (expireReceipt st s).NothingHangs := by
  obtain ⟨-, loose, -⟩ := id h
  unfold Machine.expireReceipt
  rw [(loose st).2]
  exact h.modifyStation fun _ base package => ⟨base, package⟩

theorem storageError (h : s.NothingHangs) {i : SlotId} {changes : List (Nat × Word32)} (ht : exec (.storageError i changes) s = .next t) :
    t.NothingHangs := by
  cases ht
  obtain ⟨idle, loose, free⟩ := h
  refine ⟨idle, loose, fun j => ?_⟩
  rw [State.account, slot_modifySlot]
  split
  · next e =>
    subst e
    cases ha : (s.slot j).account with
    | none => exact ⟨(free j).1, fun a hb => by rw [ha] at hb; cases hb⟩
    | some a => exact ⟨(free j).1, fun b hb => by cases hb; exact (free j).2 a ha⟩
  · exact free j

end State.NothingHangs

/-- What a command or event that leaves the device STARTING does there. -/
theorem exec_nothingHangs {c : Instr} (hc : isOrdinary c = true) (h : s.NothingHangs) (hd : s.device = .starting k)
    (ht : exec c s = .next t) : t.NothingHangs := by
  cases c
  case setSettings | setAlertMask | readEvents | create | approve | consoleAnswerEnd | powerOn | powerDown |
      startUpCheckCompletion | tamperCause | tamperInputInactive | temperatureReading => cases hc
  case status | restart =>
    cases ht
    exact consoleCommand_map_state (P := State.NothingHangs) (fun _ hr => hr.deliver) h fun _ _ => h
  case readSettings | readTickets | ackRestart | readRecords | findLabel | findModel | cancelAssembly | narrow | suspend | resume |
      retire | release | verify | openTicket | dismissTicket | bind | unbind | arm | disarm | abort | clearHold | readStations =>
    cases ht
    exact h.refusedCommand hd (by decide)
  case disarmAll | abortAll => cases ht; exact h.broadcastCommand hd
  case unknownCommand kind p =>
    cases ht
    split
    · exact h
    · exact h.ite fun _ => h.deliver
  case consoleFrameError => cases ht; exact h.ite fun _ => (h.setConsole { s.console with receiver := .hunting }).latch _
  case broadcastDiscard kind p =>
    cases ht
    split
    · exact h
    · exact broadcast_state (P := State.NothingHangs) (fun _ hu => hu.setConsole _) h (h.latch _)
  case supervisionLapse =>
    cases ht
    refine h.ite fun _ => ?_
    split
    · exact h.lapse
    · exact h
  case component => cases ht; exact h.custodianRequest fun c => by simp only [component, hd]; exact h
  case lineStatus => cases ht; exact h.custodianRequest fun _ => h.lineStatus _
  case ticketQuery | decline => cases ht; exact h.custodianRequest fun _ => h.ticketRequest hd
  case custodianFrameError => cases ht; exact h.ite fun _ => (h.setLine ..).latch _
  case custodianAnswerEnd => cases ht; exact h.ite fun _ => h.setLine ..
  case ticketExpiry n => cases ht; exact h.ite fun _ => h.expireTicket n
  case componentCheckDone | keyCheckDone | packageJobDone | verifyJobDone => cases ht; exact h.completion _
  case discardedJobDone =>
    cases ht
    obtain ⟨⟨-, service⟩, -⟩ := id h
    simp only [service]
    exact h.ite fun _ => h
  case present st =>
    cases ht
    refine h.ite fun _ => h.modifyStation fun x base package => ?_
    dsimp only
    split <;> exact ⟨base, package⟩
  case absent st =>
    cases ht
    refine h.ite fun _ => ?_
    have still : s.device ≠ .operational := fun e => by rw [hd] at e; cases e
    simp only [if_neg still]
    exact h.modifyStation fun _ base package => ⟨base, package⟩
  case identity | receipt | refuse => cases ht; exact h.terminalFrame hd
  case stationFrameError st =>
    cases ht
    refine h.ite fun _ => ?_
    have hunting : (s.modifyStation st fun k => { k with receiver := .hunting }).NothingHangs :=
      h.modifyStation fun _ base package => ⟨base, package⟩
    dsimp only
    split
    · exact hunting.latch _
    · exact hunting
  case identityTimerExpiry => cases ht; exact h.ite fun _ => h.dismissTerminal ..
  case receiptTimerExpiry => cases ht; exact h.ite fun _ => h.expireReceipt _
  case endOfTransmission =>
    cases ht
    refine h.ite fun _ => h.modifyStation fun x base package => ?_
    unfold packageSent
    split <;> exact ⟨base, package⟩
  case stationFrameSent =>
    cases ht
    refine h.ite fun _ => h.modifyStation fun x base package => ?_
    unfold frameSent
    split <;> exact ⟨base, package⟩
  case storageError => exact h.storageError ht
  case sweepTimerExpiry => cases ht; exact h.ite fun _ => h.sweep

/-! ## Entering STARTING (R175) -/

theorem State.StartUpLawful.of_not_starting (h : ∀ k, t.powered = true → t.device ≠ .starting k) : t.StartUpLawful :=
  fun powered k hd => absurd hd (h k powered)

/-- With the volatile state gone nothing hangs on the records that a restart event keeps. -/
theorem clearVolatile_nothingHangs (h : s.RecordsLawful) (straps : BitVec 4) (senses : BitVec 8) :
    (clearVolatile straps senses s).NothingHangs := by
  refine ⟨⟨rfl, rfl⟩, fun st => ?_, fun i => ?_⟩
  · have cleared : (clearVolatile straps senses s).station st = Station.cleared (senses.getLsbD st.val) := by
      simp [clearVolatile, State.station]
    rw [cleared]
    exact ⟨rfl, rfl⟩
  · have lawful := h i
    rw [State.account, slot_clearVolatile]
    unfold Slot.restart
    unfold Slot.Lawful at lawful
    cases ha : (s.slot i).account with
    | none => exact ⟨rfl, nofun⟩
    | some a =>
      rw [ha] at lawful
      dsimp only
      split
      · exact ⟨rfl, nofun⟩
      · next hs => exact ⟨rfl, fun b hb => by cases hb; exact lawful.1.assembly_eq_none hs⟩

theorem tamper_startUpLawful (inputs : BitVec 3) (s : State) : (tamper inputs s).StartUpLawful := by
  unfold tamper
  split
  · exact .of_not_starting fun k _ => nofun
  · next off => exact .of_not_starting fun k powered => absurd powered off

theorem enterService_startUpLawful (h : s.NothingHangs) : (enterService s).StartUpLawful := by
  unfold enterService
  dsimp only
  split
  · exact .of_not_starting fun k _ => nofun
  · split
    · exact fun _ _ _ => h.congr rfl rfl rfl
    · exact tamper_startUpLawful _ _

theorem exec_powerOn_startUpLawful (h : s.RecordsLawful) {straps : BitVec 4} {senses : BitVec 8} {celsius : Int}
    (ht : exec (.powerOn straps senses celsius) s = .next t) : t.StartUpLawful := by
  cases ht
  refine enterService_startUpLawful ?_
  unfold firstReading
  dsimp only
  split <;> exact (clearVolatile_nothingHangs h straps senses).congr rfl rfl rfl

theorem exec_powerDown_startUpLawful (ht : exec .powerDown s = .next t) : t.StartUpLawful := by
  have off : t.powered = false := by cases ht; rfl
  exact .of_not_starting fun k on => absurd (off.symm.trans on) Bool.false_ne_true

/-! ## Every event and every step -/

/-- What leaves power, device state and all that could hang on a record alone. -/
theorem State.StartUpLawful.congr (h : s.StartUpLawful) (powered : t.powered = s.powered) (device : t.device = s.device)
    (engine : t.engine = s.engine) (stations : t.stations = s.stations) (table : t.table = s.table) : t.StartUpLawful :=
  fun on k hd => (h (powered ▸ on) k (device ▸ hd)).congr engine stations table

theorem exec_consoleAnswerEnd_startUpLawful (records : s.RecordsLawful) (h : s.StartUpLawful) {straps : BitVec 4} {senses : BitVec 8}
    (ht : exec (.consoleAnswerEnd straps senses) s = .next t) : t.StartUpLawful := by
  cases ht
  split
  · split
    · have opened (c : ConsoleLink) : (s.setConsole c).RecordsLawful := records
      dsimp only
      split
      · exact enterService_startUpLawful ((clearVolatile_nothingHangs (opened _) straps senses).congr rfl rfl rfl)
      · exact h.congr rfl rfl rfl rfl rfl
    · exact h
  · exact h

theorem moveBand_startUpLawful (h : s.StartUpLawful) (b : Band) : (moveBand b s).StartUpLawful := by
  unfold moveBand
  dsimp only
  split
  · exact tamper_startUpLawful _ _
  · split <;> exact h.congr rfl rfl rfl rfl rfl

theorem activate_startUpLawful (h : s.StartUpLawful) (input : TamperInput) : (activate input s).StartUpLawful := by
  cases input with
  | temperature => exact moveBand_startUpLawful h _
  | enclosure | supply =>
    dsimp only [activate]
    split
    · exact h
    · exact tamper_startUpLawful _ _

theorem deactivate_startUpLawful (h : s.StartUpLawful) (input : TamperInput) : (deactivate input s).StartUpLawful := by
  cases input with
  | temperature => exact h
  | enclosure | supply => exact h.congr rfl rfl rfl rfl rfl

/-- An event that changes neither power nor device state, or leaves the device OPERATIONAL, needs a look in STARTING alone. -/
theorem State.StartUpLawful.step (h : s.StartUpLawful)
    (same : t.powered = s.powered ∧ t.device = s.device ∨ t.device = .operational)
    (starting : ∀ k, s.device = .starting k → s.NothingHangs → t.NothingHangs) : t.StartUpLawful := by
  rcases same with ⟨powered, device⟩ | operational
  · exact fun on k hd => starting k (device ▸ hd) (h (powered ▸ on) k (device ▸ hd))
  · exact .of_not_starting fun k _ => by rw [operational]; nofun

theorem exec_startUpCheckCompletion_startUpLawful (h : s.StartUpLawful) (ht : exec .startUpCheckCompletion s = .next t) :
    t.StartUpLawful := by
  cases ht
  split
  · split
    · exact .of_not_starting fun k _ => nofun
    · exact h
  · exact h

/-- An APPROVE keeps power and device state, or clears a tamper. -/
theorem Approves.device (h : Approves s t) : t.powered = s.powered ∧ t.device = s.device ∨ t.device = .operational := by
  cases h with
  | ordinary h => exact .inl ⟨h.powered, h.device⟩
  | first k l hk ho hc h => exact .inl ⟨h.powered, h.device⟩
  | second k l u v st hk ho hc hu table hv hst h =>
    rcases hv with rfl | ⟨-, -, rfl⟩
    · exact .inl ⟨h.powered.trans hu.powered, h.device.trans hu.device⟩
    · exact .inr h.device

theorem Creates.device (h : Creates s t) : t.powered = s.powered ∧ t.device = s.device := by
  cases h with
  | ordinary h => exact ⟨h.powered, h.device⟩
  | record u i x powered operational hu hx h => exact ⟨h.powered.trans hu.powered, h.device.trans hu.device⟩

/-- Every command and event keeps the law of STARTING. -/
theorem exec_startUpLawful {c : Instr} (records : s.RecordsLawful) (h : s.StartUpLawful) (ht : exec c s = .next t) :
    t.StartUpLawful := by
  by_cases ordinary : isOrdinary c = true
  · have kept := exec_ordinary ordinary ht
    exact h.step (.inl ⟨kept.powered, kept.device⟩) fun k hd hn => exec_nothingHangs ordinary hn hd ht
  · cases c
    case setSettings =>
      obtain ⟨_, kept⟩ := exec_setSettings ht
      exact h.step (.inl ⟨kept.powered, kept.device⟩) fun k hd hn => by cases ht; exact hn.refusedCommand hd (by decide)
    case setAlertMask =>
      obtain ⟨_, kept⟩ := exec_setAlertMask ht
      exact h.step (.inl ⟨kept.powered, kept.device⟩) fun k hd hn => by cases ht; exact hn.refusedCommand hd (by decide)
    case readEvents =>
      obtain ⟨_, kept⟩ := exec_readEvents ht
      exact h.step (.inl ⟨kept.powered, kept.device⟩) fun k hd hn => by cases ht; exact hn.refusedCommand hd (by decide)
    case create =>
      exact h.step (.inl (exec_create ht).device) fun k hd hn => by cases ht; exact hn.refusedCommand hd (by decide)
    case approve =>
      exact h.step (exec_approve ht).device fun k hd hn => by cases ht; exact hn.custodianRequest fun _ => hn.ticketRequest hd
    case consoleAnswerEnd => exact exec_consoleAnswerEnd_startUpLawful records h ht
    case powerOn => exact exec_powerOn_startUpLawful records ht
    case powerDown => exact exec_powerDown_startUpLawful ht
    case startUpCheckCompletion => exact exec_startUpCheckCompletion_startUpLawful h ht
    case tamperCause => cases ht; exact activate_startUpLawful h _
    case tamperInputInactive => cases ht; exact deactivate_startUpLawful h _
    case temperatureReading => cases ht; exact moveBand_startUpLawful h _
    all_goals exact absurd rfl ordinary

theorem startUpProgress_startUpLawful (h : s.StartUpLawful) (on : s.powered = true) : (startUpProgress s).1.StartUpLawful := by
  unfold startUpProgress
  split
  · next k hd =>
    have hangs := h on k hd
    intro _ _ _
    dsimp only
    split
    · next i _ =>
      have checked := hangs.check i
      generalize settleEngine (check i s) = v at checked ⊢
      exact checked.congr rfl rfl rfl
    · exact hangs.congr rfl rfl rfl
  · exact h

theorem tick_startUpLawful (h : s.StartUpLawful) : (tick s).StartUpLawful := by
  unfold tick
  split
  · next on =>
    have counted : (countDown s).StartUpLawful := fun on k hd => countDown_nothingHangs (h on k hd)
    exact (startUpProgress_startUpLawful counted on).congr rfl rfl rfl rfl rfl
  · exact h

/-- What every step keeps of records and STARTING. -/
structure State.Started (s : State) : Prop where
  records : s.RecordsLawful
  startUp : s.StartUpLawful

/-- Every step keeps the law of STARTING (R163). -/
theorem step_startUpLawful (records : s.RecordsLawful) (h : s.StartUpLawful) (ht : step s = .next t) : t.StartUpLawful :=
  (step_keeps (P := State.Started) (fun _ _ hs => ⟨hs.records, hs.startUp.congr rfl rfl rfl rfl rfl⟩)
    (fun _ _ _ he hs => ⟨exec_recordsLawful he hs.records, exec_startUpLawful hs.records hs.startUp he⟩)
    (fun u hs => ⟨fun i => (hs.records i).changes (tick_slots u i), tick_startUpLawful hs.startUp⟩) ⟨records, h⟩ ht).startUp

/-- Settles O4: no rule writes the queue; the laws of the stations hold of every record that a station is bound to, waits on or
has a package of, so that each rule is followed where it moves a station or a record (`State.Orderly`); and in STARTING no rule
gives a job, a binding, a package or an assembly part. -/
theorem execKeepsQueue : Obligations.ExecKeepsQueue :=
  ⟨fun _ _ _ h => exec_pending h, fun _ _ records latch stations h => step_stationsLawful records latch stations h,
    fun _ _ records startUp h => step_startUpLawful records startUp h⟩

end Sys2Proof.Machine
